-- ==== Sys2Proof/Config.lean ====
section
/-! DEFINITION. The numbers the manual fixes for every MLC-48: table sizes, caps, limits and delays. -/

namespace Sys2Proof.Config

/-- Line time counts 0..863,999 (R1). -/
abbrev day : Nat := 864000
/-- Half a day, the bound of `diff` (R1). -/
abbrev halfDay : Nat := 432000

/-- Entries of the platform table, and of each pattern's platform values (R15). -/
abbrev platformEntries : Nat := 48
/-- Entries of the section table (R15). -/
abbrev sectionEntries : Nat := 32
/-- Substation records (R3, R198). -/
abbrev substationEntries : Nat := 12
/-- Patterns (R8). -/
abbrev patternEntries : Nat := 4
/-- Message table entries, one for each incident kind (R9). -/
abbrev messageEntries : Nat := 9
/-- Attention sources and route table entries (R9). -/
abbrev sourceEntries : Nat := 16
/-- Attention lines (R183). -/
abbrev lineEntries : Nat := 8

/-- Pool slots (R20). -/
abbrev slotEntries : Nat := 256
/-- The last free slots, kept for automatic incidents (R27). -/
abbrev reserve : Nat := 16
/-- Caps of the kinds (R28). -/
abbrev trainCap : Nat := 64
abbrev incidentCap : Nat := 96
abbrev queueCap : Nat := 16

/-- Directive targets (R192). -/
abbrev targetEntries : Nat := 128
/-- Target number of the player of platform 0, and of the breaker of section 0 (R192). -/
abbrev playerBase : Nat := 48
abbrev breakerBase : Nat := 96

/-- A breaker operation is confirmed within 50 tenths of its issue (R90). -/
abbrev operationLimit : Nat := 50
/-- Start and stop deadlines of a player run 20 tenths (R146, R155). -/
abbrev playerLimit : Nat := 20
/-- A step of ADJUST TIME is clamped to this size (R12). -/
abbrev adjustLimit : Int := 50
/-- The counter's width and the recovery length (R6, R89). -/
abbrev counterMax : Nat := 255
abbrev recoveryLength : Nat := 16
/-- Bad frames in a run that latch FIELD LINK (R190). -/
abbrev badRun : Nat := 8

/-- The start mark of a frame (R198). -/
abbrev startMark : Nat := 165
/-- Bounds of the length byte (R198). -/
abbrev minLength : Nat := 2
abbrev maxLength : Nat := 250
/-- Complete frames that may wait on the Control Link (R176). -/
abbrev waitingCap : Nat := 2

/-- A report more than 300 tenths ahead, or more than 6000 old, is clamped (R13). -/
abbrev futureWindow : Int := 300
abbrev pastWindow : Int := 6000

end Sys2Proof.Config
end

