-- ==== Sys2Proof/Word.lean ====
section
/-! DEFINITION. The one word type of the part: the byte of its three links (R175, R198). -/

namespace Sys2Proof

/-- A byte on a link. Multi-byte values are sent most significant byte first (R198). -/
abbrev Byte := BitVec 8

end Sys2Proof
end

