-- ==== Sys2Proof/Syntax.lean ====
section
/-! DEFINITION. The commands of the part, one constructor for each row of the opcode table, and the
types of their operands. A request carries its tag and the fields of its body (R199); a field that may
hold a code outside its list is a number; a flag byte is a Bool; a field not given is `none`. -/

namespace Sys2Proof

/-- The name of a living record: slot and epoch (R21). -/
structure Handle where
  slot  : Nat
  epoch : Nat
  deriving DecidableEq, Repr

/-- The null handle, slot 0 with epoch 0 (R21). -/
def Handle.null : Handle := ⟨0, 0⟩

/-- The restriction fields of RAISE INCIDENT and AMEND INCIDENT (R199): code 0 none or removed, 1 HOLD,
2 DELAY. -/
structure RestrictionArg where
  code  : Nat
  delay : Nat
  first : Nat
  last  : Nat
  deriving DecidableEq, Repr

/-- The announcement fields of RAISE INCIDENT (part 0 omitted, 1 none, 2 given) and of AMEND INCIDENT
(part 0 removed, 1 given) (R199). -/
structure AnnouncementArg where
  part      : Nat
  message   : Nat
  clear     : Nat
  priority  : Nat
  first     : Nat
  last      : Nat
  copyDelay : Bool
  copyTrain : Bool
  deriving DecidableEq, Repr

/-- The mode fields of an announcement request (R199): code 0 ONCE, 1 REPEAT. -/
structure ModeArg where
  code     : Nat
  interval : Nat
  count    : Nat
  deriving DecidableEq, Repr

/-- The supply class of a FEEDER report (R86, R198). -/
inductive SupplyClass where
  | healthy | low | absent
  deriving DecidableEq, Repr

/-- A breaker position as a FEEDER report gives it (R86, R198). -/
inductive Position where
  | opened | closed
  deriving DecidableEq, Repr

/-- The commands. The row of each stands in LAWS.json; the rule that gives its meaning is cited here. -/
inductive Instr where
  /-- Power-on or the reset input (R19). -/
  | coldReset
  /-- One tenth of the reference (R10). -/
  | lineTimeTick
  /-- R38. -/
  | lookup (tag : Nat) (h : Handle)
  /-- R39; list 0 trains, 1 incidents, 2 the queue of `platform`. -/
  | walk (tag list platform : Nat) (after : Handle)
  /-- R40; key kind 0 vehicle identity, 1 service number. -/
  | findTrain (tag keyKind key : Nat) (after : Handle)
  /-- R41; location kind 0 absent, 1 platform, 2 section, 3 substation, 4 train; `loc` is the field's two bytes. -/
  | findIncident (tag kind locKind loc : Nat) (after : Handle)
  /-- R45. -/
  | createTrain (tag vehicle service origin tripStart : Nat) (manual : Option Bool)
  /-- R46, R47. -/
  | amendTrain (tag : Nat) (h : Handle) (service origin tripStart : Option Nat) (manual : Option Bool)
  /-- R48. -/
  | forceDepart (tag : Nat) (h : Handle)
  /-- R31. -/
  | retire (tag : Nat) (h : Handle)
  /-- R124, R125. -/
  | raiseIncident (tag severity locKind loc : Nat) (restr : RestrictionArg) (ann : AnnouncementArg)
  /-- R136. -/
  | amendIncident (tag : Nat) (h : Handle) (severity : Option Nat) (restr : Option RestrictionArg) (ann : Option AnnouncementArg)
  /-- R130. -/
  | acknowledge (tag : Nat) (h : Handle)
  /-- R131. -/
  | clear (tag : Nat) (h : Handle)
  /-- R147; the null handle in `train` means no train. -/
  | createAnnouncement (tag platform message priority : Nat) (train : Handle) (minutes : Option Nat) (mode : ModeArg)
  /-- R148; minutes 255 removes them. -/
  | amendAnnouncement (tag : Nat) (h : Handle) (message minutes : Option Nat) (mode : Option ModeArg)
  /-- R5. -/
  | readPlatform (tag platform : Nat)
  /-- R104. -/
  | readSection (tag sect : Nat)
  /-- R104, R120. -/
  | readSubstation (tag substation : Nat)
  /-- R93. -/
  | isolate (tag sect : Nat) (emergency : Bool)
  /-- R94. -/
  | energise (tag sect : Nat)
  /-- R95. -/
  | restore (tag sect : Nat)
  /-- R96. -/
  | setWarningLevel (tag sect level : Nat)
  /-- R164. -/
  | selectPattern (tag pattern : Nat)
  /-- R166, R168. -/
  | enterDegraded (tag pattern : Nat)
  /-- R172. -/
  | resume (tag : Nat)
  /-- R170. -/
  | readSaveEntry (tag : Nat) (h : Handle)
  /-- R171. -/
  | amendSaveEntry (tag : Nat) (h : Handle) (lateness : Option Int) (service : Option Nat)
  /-- R11. -/
  | setTime (tag time : Nat)
  /-- R12. -/
  | adjustTime (tag : Nat) (step : Int)
  /-- R10. -/
  | readTime (tag : Nat)
  /-- R15; `bytes` are the entries as carried (R198). -/
  | loadConfig (tag table first : Nat) (bytes : List Byte)
  /-- R16, R17. -/
  | start (tag : Nat)
  /-- R18. -/
  | configReload (tag : Nat)
  /-- R197, R180. -/
  | linkRestart (tag : Nat)
  /-- R185, R186; class 0 ALL, 1 LATCHED. -/
  | readAttention (tag : Nat) (cls : Option Nat)
  /-- R184. -/
  | setAttentionMask (tag mask : Nat)
  /-- R188. -/
  | readStatus (tag : Nat)
  /-- R195. -/
  | readShadow (tag target : Nat)
  /-- A good frame whose code names no request, or whose body has a length its request does not allow (R177). -/
  | unknownRequestCode (code tag bodyLength : Nat)
  /-- R175. -/
  | badFrame
  /-- R175. -/
  | controlFrameByteGap
  /-- R176. -/
  | frameNotKept
  /-- R49 to R53. -/
  | arrive (vehicle platform time : Nat)
  /-- R49, R54 to R56. -/
  | depart (vehicle platform time : Nat)
  /-- R86 to R89. -/
  | feeder (sect : Nat) (cls : SupplyClass) (breaker : Position) (time : Nat)
  /-- R98, R99. -/
  | substation (substation : Nat) (up : Bool) (time : Nat)
  /-- R127; severity is read for ON only. -/
  | platformAlarm (platform : Nat) (on : Bool) (severity time : Nat)
  /-- R190. -/
  | fieldBadFrame
  /-- R190. -/
  | fieldFrameByteGap
  /-- The transmit half of the Directive Link is free (R193). -/
  | directiveSent
  /-- Player status frames (R150 to R154, R196). -/
  | ready (platform : Nat)
  | started (platform : Nat)
  | refused (platform : Nat)
  | ended (platform : Nat)
  /-- R196. -/
  | statusFrameBad
  /-- R196. -/
  | statusFrameByteGap
  /-- Expiries name the record that holds the deadline: a train's slot (R77, R57, R159). -/
  | departureExpiry (slot : Nat)
  | overdueExpiry (slot : Nat)
  | approachExpiry (slot : Nat)
  /-- The entry of `train` in the queue of `substation` (R118). -/
  | waitExpiry (substation : Nat) (train : Handle)
  /-- The lease of `train` on the list of `substation` (R110). -/
  | leaseExpiry (substation : Nat) (train : Handle)
  /-- R92. -/
  | operationExpiry (sect : Nat)
  /-- An incident's slot (R128). -/
  | escalationExpiry (slot : Nat)
  /-- An announcement's slot (R152). -/
  | restExpiry (slot : Nat)
  /-- R153. -/
  | startExpiry (platform : Nat)
  /-- R154. -/
  | stopExpiry (platform : Nat)
  deriving DecidableEq, Repr

end Sys2Proof
end

