-- ==== Sys2Proof/Machine/State.lean ====
section
/-! DEFINITION. The state of the part as plain data: every piece of state the manual names (INVENTORY.md
lists them with their rules), and its value after cold reset. -/

namespace Sys2Proof.Machine

open Sys2Proof

/-- Reasons for which the part stops. There is none: a refused request is answered with a status (R178), a
bad or dropped frame moves a count or a latch (R3, R190, R196), and every other event has its effect. -/
inductive Fault where
  deriving DecidableEq, Repr

/-- Reasons for which the model gives a command no meaning. -/
inductive Refusal where
  /-- Raised by an arm of `exec` for a command that has no meaning yet; safe, since it stops. No arm answers so. -/
  | notModelled (mnemonic : String)
  deriving DecidableEq, Repr

/-! ### Line tables (01, R198) -/

/-- R14. -/
inductive PartState where
  | unconfigured | operating
  deriving DecidableEq, Repr

/-- Table 0 (R3). -/
structure Header where
  platforms   : Nat := 0
  sections    : Nat := 0
  substations : Nat := 0
  deriving DecidableEq, Repr

/-- One entry of table 1 (R4). -/
structure PlatformCfg where
  runSection    : Nat := 0
  originAllowed : Bool := false
  terminus      : Bool := false
  approachLead  : Nat := 0
  approachCode  : Nat := 0
  player        : Bool := false
  deriving DecidableEq, Repr

/-- One entry of table 2 (R6). -/
structure SectCfg where
  primary  : Nat := 0
  fallback : Option Nat := none
  warning  : Nat := 0
  deriving DecidableEq, Repr

/-- The eight values of one platform in one pattern, tables 3..6 (R8). -/
structure PatternVals where
  d0      : Nat := 0
  dmin    : Nat := 0
  dmax    : Nat := 0
  run     : Nat := 0
  headway : Nat := 0
  wh      : Nat := 0
  ws      : Nat := 0
  accel   : Nat := 0
  deriving DecidableEq, Repr

/-- One entry of table 7 (R8). -/
structure PatternLine where
  overdueMargin : Nat := 0
  waitLimit     : Nat := 0
  degraded      : Bool := false
  budgets       : List Nat := List.replicate Config.substationEntries 0
  deriving DecidableEq, Repr

/-- One entry of table 8 (R9). -/
structure MessageCfg where
  raiseCode : Nat := 0
  clearCode : Nat := 0
  priority  : Nat := 0
  copyDelay : Bool := false
  copyTrain : Bool := false
  deriving DecidableEq, Repr

/-- The ten loadable tables (section 1.1). `vals` holds tables 3..6, one list for each pattern; a route is
the byte as loaded (R183). -/
structure Tables where
  header    : Header
  platforms : List PlatformCfg
  sects     : List SectCfg
  vals      : List (List PatternVals)
  lines     : List PatternLine
  messages  : List MessageCfg
  routes    : List Nat
  deriving DecidableEq, Repr

/-- Every loadable entry zeroed (R19). -/
def Tables.zero : Tables :=
  { header := {},
    platforms := List.replicate Config.platformEntries {},
    sects := List.replicate Config.sectionEntries {},
    vals := List.replicate Config.patternEntries (List.replicate Config.platformEntries {}),
    lines := List.replicate Config.patternEntries {},
    messages := List.replicate Config.messageEntries {},
    routes := List.replicate Config.sourceEntries 0 }

/-! ### Living records -/

/-- The two kinds a locating record may owe, in the service order of R32, each with its severity. -/
structure Owed where
  first  : Option Nat := none
  second : Option Nat := none
  deriving DecidableEq, Repr

/-- The hold reasons of a train (R43), a set of four members. -/
structure HoldSet where
  manual      : Bool := false
  restriction : Bool := false
  noSupply    : Bool := false
  conflict    : Bool := false
  deriving DecidableEq, Repr

/-- R44. -/
inductive TrainState where
  | awaiting | dwelling | held | waiting | released | running | overdue
  deriving DecidableEq, Repr

/-- The clamp part of the dwell note (R76). -/
inductive ClampNote where
  | unclamped | low | high
  deriving DecidableEq, Repr

/-- A train record (R43) with its three deadlines; its handle is its slot and that slot's epoch. -/
structure Train where
  vehicle      : Nat
  service      : Nat
  origin       : Nat
  tripStart    : Nat
  state        : TrainState := .awaiting
  position     : Option Nat := none
  schedArr     : Nat
  lateness     : Int := 0
  lastArr      : Option Nat := none
  lastDep      : Option Nat := none
  predicted    : Option Nat := none
  depTime      : Option Nat := none
  saturated    : Bool := false
  clamp        : ClampNote := .unclamped
  holds        : HoldSet := {}
  lease        : Option (Nat × Nat) := none
  permitReq    : Option Nat := none
  skip         : Nat := 0
  timeClamped  : Bool := false
  approached   : Bool := false
  saved        : Bool := false
  owed         : Owed := {}
  depDl        : Option Nat := none
  overdueDl    : Option Nat := none
  approachDl   : Option Nat := none
  deriving DecidableEq, Repr

/-- The nine incident kinds, in the order of R9. -/
inductive Kind where
  | operator | platformAlarm | platformConflict | trainOverdue | unauthorised
  | sectionLockout | breakerFailure | supplyTransfer | powerDelay
  deriving DecidableEq, Repr

/-- A location (R122). -/
inductive Location where
  | platform (p : Nat) | sect (s : Nat) | substation (k : Nat) | train (h : Handle)
  deriving DecidableEq, Repr

/-- R123. -/
inductive IncidentState where
  | raised | acknowledged | cleared
  deriving DecidableEq, Repr

/-- HOLD, or DELAY with a value (R122). -/
inductive RestrictionKind where
  | hold | delay (value : Nat)
  deriving DecidableEq, Repr

structure Restriction where
  kind  : RestrictionKind
  first : Nat
  last  : Nat
  deriving DecidableEq, Repr

/-- The platforms an announcement is copied to (R122). -/
inductive Coverage where
  | range (first last : Nat) | locationPlatforms
  deriving DecidableEq, Repr

/-- The announcement part of an incident (R122). -/
structure IncidentAnn where
  message   : Nat
  clear     : Nat
  priority  : Nat
  coverage  : Coverage
  copyDelay : Bool
  copyTrain : Bool
  deriving DecidableEq, Repr

/-- An incident record (R122). Its origin is OPERATOR for kind OPERATOR and AUTOMATIC otherwise. The owed
copies are a set, kept as an ascending list. -/
structure Incident where
  kind        : Kind
  severity    : Nat
  location    : Option Location
  state       : IncidentState := .raised
  causeEnded  : Bool := false
  raisedTime  : Nat
  ackTime     : Option Nat := none
  occurrences : Nat := 1
  restriction : Option Restriction := none
  ann         : Option IncidentAnn := none
  copied      : Bool := false
  owedCopies  : List Nat := []
  escDl       : Option Nat := none
  deriving DecidableEq, Repr

/-- R143. -/
inductive AnnOrigin where
  | operator | incident | approach
  deriving DecidableEq, Repr

/-- R143. -/
inductive Mode where
  | once | repeated (interval count : Nat)
  deriving DecidableEq, Repr

/-- R144; DONE is passed through in the event that retires the record. -/
inductive AnnState where
  | queued | selected | playing | resting | done
  deriving DecidableEq, Repr

/-- An announcement record (R143). -/
structure Ann where
  platform   : Nat
  message    : Nat
  priority   : Nat
  origin     : AnnOrigin
  train      : Option Handle := none
  minutes    : Option Nat := none
  source     : Option Handle := none
  mode       : Mode := .once
  plays      : Nat := 0
  state      : AnnState := .queued
  updated    : Bool := false
  superseded : Bool := false
  restDl     : Option Nat := none
  deriving DecidableEq, Repr

/-- What a slot holds (R20). -/
inductive Rec where
  | free
  | train (t : Train)
  | incident (i : Incident)
  | ann (a : Ann)
  deriving DecidableEq, Repr

structure Slot where
  epoch  : Nat := 0
  record : Rec := .free
  deriving DecidableEq, Repr

/-- The Record Pool (R20): the slots, and the lists of slot numbers, head first. The links of a slot and the
counts of R20 are views of the lists. -/
structure Pool where
  slots     : List Slot
  free      : List Nat
  trains    : List Nat
  incidents : List Nat
  queues    : List (List Nat)
  deriving DecidableEq, Repr

/-- R42. -/
def Pool.reset : Pool :=
  { slots := List.replicate Config.slotEntries {}, free := List.range Config.slotEntries, trains := [], incidents := [],
    queues := List.replicate Config.platformEntries [] }

/-! ### Live fields of the fixed records -/

/-- R149. -/
inductive PlayerState where
  | idle | cued | playing | stopping | offline
  deriving DecidableEq, Repr

/-- The live fields of a platform with their values after START and cold reset (R5). -/
structure Platform where
  occupant    : Option Handle := none
  lastDep     : Option Nat := none
  lastForeign : Option (Nat × Nat) := none
  owed        : Owed := {}
  player      : PlayerState := .idle
  cue         : Option Handle := none
  playerDl    : Option Nat := none
  deriving DecidableEq, Repr

/-- Section 5.1. -/
inductive SectState where
  | energised | onFallback | dead | isolating | isolated | energising | lockedOut | recovering
  deriving DecidableEq, Repr

/-- The level of a section (R85). -/
inductive Level where
  | normal | warning | restricted
  deriving DecidableEq, Repr

inductive Reported where
  | opened | closed | unknown
  deriving DecidableEq, Repr

/-- A breaker operation (R90). -/
inductive BreakerOp where
  | opening | closing
  deriving DecidableEq, Repr

/-- The live fields of a section (R6). `warning` is the warning level in force, 1 after cold reset (R19). -/
structure Sect where
  state     : SectState := .energised
  counter   : Nat := 0
  warning   : Nat := 1
  recovery  : Nat := 0
  breaker   : Reported := .unknown
  op        : Option (BreakerOp × Nat) := none
  occupants : Nat := 0
  owed      : Owed := {}
  deriving DecidableEq, Repr

/-- R105. -/
structure Lease where
  train  : Handle
  weight : Nat
  expiry : Nat
  deriving DecidableEq, Repr

/-- An entry of a wait queue (R105). -/
structure Entry where
  train  : Handle
  weight : Nat
  req    : Nat
  waitDl : Option Nat
  deriving DecidableEq, Repr

/-- The live fields of a substation (R7, R105); the budget in force is 1 after cold reset (R19). -/
structure Substation where
  up     : Bool := true
  inUse  : Nat := 0
  leases : List Lease := []
  queue  : List Entry := []
  owed   : Owed := {}
  budget : Nat := 1
  deriving DecidableEq, Repr

/-! ### Pattern Control, Attention Unit, links -/

/-- R162. -/
structure SaveEntry where
  train    : Handle
  service  : Nat
  lateness : Int
  deriving DecidableEq, Repr

structure PatternControl where
  active   : Nat := 0
  degraded : Bool := false
  resume   : Nat := 0
  saves    : List SaveEntry := []
  deriving DecidableEq, Repr

/-- The latched sources, 9..15 in this order (R9, R182). -/
inductive Latch where
  | poolLow | fieldLink | directiveLink | playerOffline | sectionWarning | foreignPassage | reportConflict
  deriving DecidableEq, Repr

structure Latches where
  poolLow        : Bool := false
  fieldLink      : Bool := false
  directiveLink  : Bool := false
  playerOffline  : Bool := false
  sectionWarning : Bool := false
  foreignPassage : Bool := false
  reportConflict : Bool := false
  deriving DecidableEq, Repr

/-- R189. A line is `true` while it is asserted. -/
structure Attention where
  mask    : Nat := 0
  latches : Latches := {}
  lines   : List Bool := List.replicate Config.lineEntries false
  deriving DecidableEq, Repr

/-- R192. -/
inductive Directive where
  | dwell (time : Nat) | hold | depart | clearIndicator
  | play (message : Nat) (minutes service : Option Nat) | stop
  | breakerOpen | breakerClose
  deriving DecidableEq, Repr

/-- A receiver in the middle of a frame (R175): `collecting n got` wants `n` more bytes after `got`, the
bytes from the length on, in order. -/
inductive Rx where
  | hunting | length | collecting (need : Nat) (got : List Byte)
  deriving DecidableEq, Repr

/-- The setting of the two straps of each link, 0..3 (R200). -/
structure LinkRates where
  control   : Nat := 0
  field     : Nat := 0
  directive : Nat := 0
  deriving DecidableEq, Repr

/-- The link interfaces (R175, R176, R190, R193, R195). `waiting` holds the complete Control Link frames that wait to be taken, in
the order in which they completed; `transmitting` is the directive whose transmission began last. -/
structure Links where
  controlRx    : Rx := .hunting
  waiting      : List Instr := []
  fieldRx      : Rx := .hunting
  statusRx     : Rx := .hunting
  badCount     : Nat := 0
  queue        : List (Nat × Directive) := []
  shadows      : List (Option Directive) := List.replicate Config.targetEntries none
  transmitting : Option (Nat × Directive) := none
  rates        : LinkRates := {}
  deriving DecidableEq, Repr

/-! ### Responses -/

/-- R178, in the order of R199's status values. -/
inductive Status where
  | done | accepted | notFound | staleHandle | wrongState | noRoom | limit | outOfRange | occupied | busy
  | notConfigured | badFrame
  deriving DecidableEq, Repr

/-- The kind of a living record (R20). -/
inductive RecKind where
  | free | train | incident | announcement
  deriving DecidableEq, Repr

/-- What READ STATUS returns (R188). -/
structure StatusReport where
  part          : PartState
  lineTime      : Nat
  free          : Nat
  trains        : Nat
  incidents     : Nat
  announcements : Nat
  active        : Nat
  degraded      : Bool
  resume        : Nat
  saves         : Nat
  mask          : Nat
  pending       : List Nat
  lines         : List Bool
  badCount      : Nat
  directives    : Nat
  deriving DecidableEq, Repr

/-- The body of a response after its status byte, as the owning rule gives it. -/
inductive Body where
  | empty
  | partState (p : PartState)
  | startFailure (table entry : Nat)
  | created (h : Handle)
  | train (h : Handle) (t : Train)
  | incident (h : Handle) (i : Incident)
  | announcement (h : Handle) (a : Ann)
  | trainState (st : TrainState)
  | retired (k : RecKind)
  | incidentState (st : IncidentState)
  | platform (cfg : PlatformCfg) (live : Platform)
  | sect (cfg : SectCfg) (live : Sect) (level : Level) (supplier : Option Nat) (supplied : Bool)
  | substation (live : Substation)
  | warning (level : Nat) (derived : Level)
  | pattern (active : Nat)
  | degraded (active : Nat) (flag : Bool) (saves : Nat)
  | resumed (active restored : Nat)
  | saveEntry (e : SaveEntry)
  | time (t : Nat)
  | adjusted (step : Int) (t : Nat)
  | clock (t : Nat) (p : PartState)
  | attention (source : Nat) (leading : Option (Handle × Nat × Nat)) (route : Nat)
  | mask (m : Nat)
  | status (r : StatusReport)
  | shadow (shadow : Option Directive) (queued : Option (Directive × Nat))
  deriving DecidableEq, Repr

/-- A response frame (R175, R178): code and tag of the request it answers, or 0 and 0. -/
structure Response where
  code   : Nat
  tag    : Nat
  status : Status
  body   : Body
  deriving DecidableEq, Repr

/-! ### The whole part -/

/-- The part. `responses` are the response frames formed, in the order in which they leave; `straps` are
the rate pins; `pending` is the queue of commands
that the senders have put forward. -/
structure State where
  part        : PartState
  tables      : Tables
  lineTime    : Nat
  pool        : Pool
  platforms   : List Platform
  sects       : List Sect
  substations : List Substation
  control     : PatternControl
  attention   : Attention
  links       : Links
  straps      : LinkRates
  responses   : List Response
  pending     : List Instr
  deriving DecidableEq, Repr

/-- The part after cold reset (R19, R42, R121, R161, R162, R180, R189, R190, R193, R195). -/
def State.reset : State :=
  { part := .unconfigured,
    tables := Tables.zero,
    lineTime := 0,
    pool := Pool.reset,
    platforms := List.replicate Config.platformEntries {},
    sects := List.replicate Config.sectionEntries {},
    substations := List.replicate Config.substationEntries {},
    control := {},
    attention := {},
    links := {},
    straps := {},
    responses := [],
    pending := [] }

/-- What one command answers. -/
abbrev Out := Host.Outcome State Fault Refusal

end Sys2Proof.Machine
end

