-- ==== Sys2Proof/Machine/Ops.lean ====
section
/-! DEFINITION. The named operations every block shares: time and ring arithmetic, reading and updating
the records, slots and lists of the pool, latches, directives and responses. -/

namespace Sys2Proof.Machine

open Sys2Proof

/-! ### Time (R1) -/

/-- `diff a b` is b minus a taken round the day; positive when b is after a (R1). -/
def diff (a b : Nat) : Int := ((b : Int) - a + Config.halfDay) % Config.day - Config.halfDay

/-- A time plus a signed duration, reduced modulo a day (R1). -/
def later (t : Nat) (d : Int) : Nat := (((t : Int) + d) % Config.day).toNat

/-- Line time has the value of a deadline (R10). -/
def reached (now deadline : Nat) : Bool := deadline == now

/-- A positive step from `old` passes a deadline: it lies after the old line time and at or before the new one (R12). -/
def passed (old : Nat) (step : Int) (deadline : Nat) : Bool := decide (0 < diff old deadline) && decide (diff old deadline ≤ step)

/-- The value clamped to low..high. -/
def clampInt (low high x : Int) : Int := if x < low then low else if high < x then high else x

def clampNat (low high x : Nat) : Nat := if x < low then low else if high < x then high else x

/-! ### Lists -/

/-- `x` placed before the first member that `lower` accepts, or at the tail. -/
def insertBefore (lower : Nat → Bool) (x : Nat) : List Nat → List Nat
  | [] => [x]
  | y :: ys => if lower y then x :: y :: ys else y :: insertBefore lower x ys

/-- The members that follow `x`. -/
def membersAfter (x : Nat) : List Nat → List Nat
  | [] => []
  | y :: ys => if y = x then ys else membersAfter x ys

/-- The member before `x`. -/
def memberBefore (x : Nat) : List Nat → Option Nat
  | [] => none
  | [_] => none
  | y :: z :: ys => if z = x then some y else memberBefore x (z :: ys)

/-- `x` put into an ascending list once. -/
def insertAscending (x : Nat) : List Nat → List Nat
  | [] => [x]
  | y :: ys => if x < y then x :: y :: ys else if x = y then y :: ys else y :: insertAscending x ys

/-- The first member that no later member betters, by a strict comparison. -/
def firstBest {α : Type} (better : α → α → Bool) : List α → Option α
  | [] => none
  | x :: xs => some (xs.foldl (fun best y => if better y best then y else best) x)

/-! ### Sets and small records -/

def HoldSet.isEmpty (h : HoldSet) : Bool := !(h.manual || h.restriction || h.noSupply || h.conflict)

/-- Any reason other than CONFLICT (R77). -/
def HoldSet.beyondConflict (h : HoldSet) : Bool := h.manual || h.restriction || h.noSupply

/-- The reasons an accepted departure leaves: MANUAL alone (R54). -/
def HoldSet.afterDeparture (h : HoldSet) : HoldSet := { manual := h.manual }

/-- The at-platform states (R44). -/
def TrainState.atPlatform : TrainState → Bool
  | .dwelling | .held | .waiting | .released => true
  | .awaiting | .running | .overdue => false

/-- The running states (R44). -/
def TrainState.isRunning : TrainState → Bool
  | .running | .overdue => true
  | .awaiting | .dwelling | .held | .waiting | .released => false

/-- The kind number of R9. -/
def Kind.number : Kind → Nat
  | .operator => 0 | .platformAlarm => 1 | .platformConflict => 2 | .trainOverdue => 3 | .unauthorised => 4
  | .sectionLockout => 5 | .breakerFailure => 6 | .supplyTransfer => 7 | .powerDelay => 8

def Kind.ofNumber : Nat → Option Kind
  | 0 => some .operator | 1 => some .platformAlarm | 2 => some .platformConflict | 3 => some .trainOverdue
  | 4 => some .unauthorised | 5 => some .sectionLockout | 6 => some .breakerFailure | 7 => some .supplyTransfer
  | 8 => some .powerDelay | _ => none

/-- The second of the two kinds a locating record may owe (R32). -/
def Kind.owedSecond : Kind → Bool
  | .platformConflict | .unauthorised | .breakerFailure | .powerDelay => true
  | .operator | .platformAlarm | .trainOverdue | .sectionLockout | .supplyTransfer => false

def Owed.get (o : Owed) (second : Bool) : Option Nat := if second then o.second else o.first

def Owed.put (o : Owed) (second : Bool) (v : Option Nat) : Owed :=
  if second then { o with second := v } else { o with first := v }

/-- RAISED or ACKNOWLEDGED (R123). -/
def Incident.active (i : Incident) : Bool := i.state != .cleared

/-- The origin of an incident is OPERATOR for kind OPERATOR alone (R122). -/
def Incident.automatic (i : Incident) : Bool := i.kind != .operator

def Directive.isPlay : Directive → Bool
  | .play _ _ _ => true
  | _ => false

def Rec.kind : Rec → RecKind
  | .free => .free
  | .train _ => .train
  | .incident _ => .incident
  | .ann _ => .announcement

/-! ### Reading the state -/

namespace State

/-- P (R3). -/
def ringSize (s : State) : Nat := s.tables.header.platforms

/-- The successor of a platform (R2). -/
def next (s : State) (p : Nat) : Nat := (p + 1) % s.ringSize

/-- The ring distance (R2). -/
def dist (s : State) (a b : Nat) : Nat := (((b : Int) - a) % s.ringSize).toNat

/-- A platform range covers a platform (R2). -/
def covers (s : State) (first last p : Nat) : Bool := decide (s.dist first p ≤ s.dist first last)

def platformOk (s : State) (p : Nat) : Bool := decide (p < s.tables.header.platforms)
def sectOk (s : State) (i : Nat) : Bool := decide (i < s.tables.header.sections)
def substationOk (s : State) (k : Nat) : Bool := decide (k < s.tables.header.substations)

def platformCfg (s : State) (p : Nat) : PlatformCfg := s.tables.platforms.getD p {}
def sectCfg (s : State) (i : Nat) : SectCfg := s.tables.sects.getD i {}
def message (s : State) (k : Kind) : MessageCfg := s.tables.messages.getD k.number {}
def route (s : State) (source : Nat) : Nat := s.tables.routes.getD source 0

/-- The values of a pattern for a platform, and its line values (R8). -/
def patternVals (s : State) (q p : Nat) : PatternVals := (s.tables.vals.getD q []).getD p {}
def patternLine (s : State) (q : Nat) : PatternLine := s.tables.lines.getD q {}

/-- The same of the active pattern. -/
def vals (s : State) (p : Nat) : PatternVals := s.patternVals s.control.active p
def line (s : State) : PatternLine := s.patternLine s.control.active

def platform (s : State) (p : Nat) : Platform := s.platforms.getD p {}
def sect (s : State) (i : Nat) : Sect := s.sects.getD i {}
def substation (s : State) (k : Nat) : Substation := s.substations.getD k {}
def queue (s : State) (p : Nat) : List Nat := s.pool.queues.getD p []

def slot (s : State) (i : Nat) : Slot := s.pool.slots.getD i {}

/-- The handle of a living record (R21). -/
def handle (s : State) (i : Nat) : Handle := ⟨i, (s.slot i).epoch⟩

def train? (s : State) (i : Nat) : Option Train := match (s.slot i).record with | .train t => some t | _ => none
def incident? (s : State) (i : Nat) : Option Incident := match (s.slot i).record with | .incident c => some c | _ => none
def ann? (s : State) (i : Nat) : Option Ann := match (s.slot i).record with | .ann a => some a | _ => none

/-- A handle is current (R21). -/
def current (s : State) (h : Handle) : Bool :=
  h != Handle.null && decide (h.slot < Config.slotEntries) && (s.slot h.slot).record.kind != .free
    && (s.slot h.slot).epoch == h.epoch

/-- R20. -/
def freeCount (s : State) : Nat := s.pool.free.length
def trainCount (s : State) : Nat := s.pool.trains.length
def incidentCount (s : State) : Nat := s.pool.incidents.length
def annCount (s : State) : Nat := (s.pool.queues.map List.length).sum

/-- The link fields of a slot (R20) on the list it stands on. -/
def homeList (s : State) (i : Nat) : List Nat :=
  match (s.slot i).record with
  | .free => s.pool.free
  | .train _ => s.pool.trains
  | .incident _ => s.pool.incidents
  | .ann a => s.queue a.platform

def nextSlot (s : State) (i : Nat) : Option Nat := (membersAfter i (s.homeList i)).head?
def previousSlot (s : State) (i : Nat) : Option Nat := memberBefore i (s.homeList i)

/-- A copy, an approach announcement or a request may take a slot (R27). -/
def aboveReserve (s : State) : Bool := decide (Config.reserve < s.freeCount)

/-- A platform's queue has room (R28). -/
def queueRoom (s : State) (p : Nat) : Bool := decide ((s.queue p).length < Config.queueCap)

/-! ### Updating the state -/

def modPool (s : State) (f : Pool → Pool) : State := { s with pool := f s.pool }

def modSlot (s : State) (i : Nat) (f : Slot → Slot) : State :=
  s.modPool fun q => { q with slots := q.slots.modify i f }

def modTrain (s : State) (i : Nat) (f : Train → Train) : State :=
  s.modSlot i fun sl => { sl with record := match sl.record with | .train t => .train (f t) | r => r }

def modIncident (s : State) (i : Nat) (f : Incident → Incident) : State :=
  s.modSlot i fun sl => { sl with record := match sl.record with | .incident c => .incident (f c) | r => r }

def modAnn (s : State) (i : Nat) (f : Ann → Ann) : State :=
  s.modSlot i fun sl => { sl with record := match sl.record with | .ann a => .ann (f a) | r => r }

def modQueue (s : State) (p : Nat) (f : List Nat → List Nat) : State :=
  s.modPool fun q => { q with queues := q.queues.modify p f }

def modPlatform (s : State) (p : Nat) (f : Platform → Platform) : State :=
  { s with platforms := s.platforms.modify p f }

def modSect (s : State) (i : Nat) (f : Sect → Sect) : State :=
  { s with sects := s.sects.modify i f }

def modSubstation (s : State) (k : Nat) (f : Substation → Substation) : State :=
  { s with substations := s.substations.modify k f }

def modControl (s : State) (f : PatternControl → PatternControl) : State := { s with control := f s.control }

def modAttention (s : State) (f : Attention → Attention) : State := { s with attention := f s.attention }

def modLinks (s : State) (f : Links → Links) : State := { s with links := f s.links }

def setTables (s : State) (t : Tables) : State := { s with tables := t }

def setTime (s : State) (t : Nat) : State := { s with lineTime := t }

def setPart (s : State) (p : PartState) : State := { s with part := p }

/-- A response frame is formed (R176, R178). -/
def reply (s : State) (r : Response) : State := { s with responses := s.responses ++ [r] }

/-- A completed frame of the Control Link waits behind those that completed before it (R176). -/
def await (s : State) (c : Instr) : State := s.modLinks fun l => { l with waiting := l.waiting ++ [c] }

end State

/-! ### Latches (R182) -/

def Latches.put (l : Latches) (b : Bool) : Latch → Latches
  | .poolLow => { l with poolLow := b }
  | .fieldLink => { l with fieldLink := b }
  | .directiveLink => { l with directiveLink := b }
  | .playerOffline => { l with playerOffline := b }
  | .sectionWarning => { l with sectionWarning := b }
  | .foreignPassage => { l with foreignPassage := b }
  | .reportConflict => { l with reportConflict := b }

def Latches.get (l : Latches) : Latch → Bool
  | .poolLow => l.poolLow
  | .fieldLink => l.fieldLink
  | .directiveLink => l.directiveLink
  | .playerOffline => l.playerOffline
  | .sectionWarning => l.sectionWarning
  | .foreignPassage => l.foreignPassage
  | .reportConflict => l.reportConflict

/-- The latched sources by number (R9). -/
def Latch.ofSource : Nat → Option Latch
  | 9 => some .poolLow | 10 => some .fieldLink | 11 => some .directiveLink | 12 => some .playerOffline
  | 13 => some .sectionWarning | 14 => some .foreignPassage | 15 => some .reportConflict | _ => none

namespace State

/-- Setting a latch that is set leaves it set (R182). -/
def latch (s : State) (x : Latch) : State := s.modAttention fun a => { a with latches := a.latches.put true x }

def unlatch (s : State) (x : Latch) : State := s.modAttention fun a => { a with latches := a.latches.put false x }

/-! ### Directives (R192, R193) -/

/-- The queue with a directive issued: in place of the one queued for its target, or at the tail (R193). -/
def issueInto (q : List (Nat × Directive)) (target : Nat) (d : Directive) : List (Nat × Directive) :=
  if q.any (fun e => e.1 == target) then q.map (fun e => if e.1 == target then (target, d) else e) else q ++ [(target, d)]

def issue (s : State) (target : Nat) (d : Directive) : State :=
  s.modLinks fun l => { l with queue := issueInto l.queue target d }

/-- Directives to the indicator and the player of a platform and to the breaker of a section (R192). -/
def issueIndicator (s : State) (p : Nat) (d : Directive) : State := s.issue p d
def issuePlayer (s : State) (p : Nat) (d : Directive) : State := s.issue (Config.playerBase + p) d
def issueBreaker (s : State) (i : Nat) (d : Directive) : State := s.issue (Config.breakerBase + i) d

/-- The player of a platform has a PLAY still in the directive queue (R194). -/
def playQueued (s : State) (p : Nat) : Bool :=
  s.links.queue.any fun e => e.1 == Config.playerBase + p && e.2.isPlay

/-! ### Allocation and release of slots (R21, R23, R27, R29, R30) -/

/-- The epoch of a slot's next allocation: 15 advances to 1 (R21). -/
def nextEpoch (e : Nat) : Nat := if e ≥ 15 then 1 else e + 1

/-- The head free slot is taken for a record: its epoch advances, POOL LOW is latched when 16 or fewer slots
stay free (R27, R29). The creator's threshold has been checked before. -/
def allocate (s : State) (r : Rec) : Option (State × Nat) :=
  match s.pool.free with
  | [] => none
  | i :: rest =>
    let t := (s.modSlot i fun sl => { epoch := nextEpoch sl.epoch, record := r }).modPool fun q => { q with free := rest }
    some (if rest.length ≤ Config.reserve then t.latch .poolLow else t, i)

/-- A slot goes back to the tail of the free list with its epoch unchanged (R30). -/
def release (s : State) (i : Nat) : State :=
  (s.modSlot i fun sl => { sl with record := .free }).modPool fun q => { q with free := q.free ++ [i] }

/-- The live trains in train-list order (R24), with their slots. -/
def liveTrains (s : State) : List (Nat × Train) := s.pool.trains.filterMap fun i => (s.train? i).map fun t => (i, t)

/-- The live incidents in incident-list order (R25), with their slots. -/
def liveIncidents (s : State) : List (Nat × Incident) := s.pool.incidents.filterMap fun i => (s.incident? i).map fun c => (i, c)

/-- The live announcements, platform by platform in ascending index and in queue order (R26; log 5). -/
def liveAnns (s : State) : List (Nat × Ann) :=
  s.pool.queues.flatten.filterMap fun i => (s.ann? i).map fun a => (i, a)

/-- A record was retired between two moments of one event (R35): a slot that was live is free or has been
allocated again. -/
def retiredBetween (before after : State) : Bool :=
  (List.range Config.slotEntries).any fun i =>
    (before.slot i).record.kind != .free
      && ((after.slot i).record.kind == .free || (after.slot i).epoch != (before.slot i).epoch)

end State

end Sys2Proof.Machine
end

