-- ==== Sys2Proof/Machine/Operands.lean ====
section
/-! DEFINITION. The operands of the commands: values checked or clamped (R40, R41, R124, R147), and the table
entries of LOAD CONFIG (R198). -/

namespace Sys2Proof.Machine

open Sys2Proof

/-! ### Multi-byte values, most significant byte first (R198) -/

def word2 (a b : Nat) : Nat := a * 256 + b
def word3 (a b c : Nat) : Nat := (a * 256 + b) * 256 + c

/-- Two's complement (R198). -/
def signed2 (v : Nat) : Int := if v < 32768 then v else (v : Int) - 65536
def signed3 (v : Nat) : Int := if v < 8388608 then v else (v : Int) - 16777216

/-- A handle in two bytes, slot then epoch (R198). -/
def handleOf (v : Nat) : Handle := ⟨v / 256, v % 256⟩

/-! ### LOAD CONFIG (R15, R198) -/

/-- Bytes of one entry of a table; no table above 9 (R198). -/
def entryBytes : Nat → Option Nat
  | 0 => some 3 | 1 => some 8 | 2 => some 4
  | 3 => some 16 | 4 => some 16 | 5 => some 16 | 6 => some 16
  | 7 => some 17 | 8 => some 7 | 9 => some 1 | _ => none

/-- Entry counts of the tables (R15). -/
def entryCount : Nat → Nat
  | 0 => 1 | 1 => 48 | 2 => 32 | 3 => 48 | 4 => 48 | 5 => 48 | 6 => 48 | 7 => 4 | 8 => 9 | 9 => 16 | _ => 0

/-- The bytes cut into entries of `n` bytes; `fuel` bounds the number of entries. -/
def chunks (n : Nat) : Nat → List Nat → List (List Nat)
  | 0, _ => []
  | _ + 1, [] => []
  | fuel + 1, x :: xs => (x :: xs).take n :: chunks n fuel ((x :: xs).drop n)

def headerOf : List Nat → Header
  | [p, n, k] => ⟨p, n, k⟩
  | _ => {}

def platformCfgOf : List Nat → PlatformCfg
  | [r, o, t, l1, l0, c1, c0, pl] =>
    { runSection := r, originAllowed := o != 0, terminus := t != 0, approachLead := word2 l1 l0, approachCode := word2 c1 c0,
      player := pl != 0 }
  | _ => {}

def sectCfgOf : List Nat → SectCfg
  | [p, present, f, w] => { primary := p, fallback := if present != 0 then some f else none, warning := w }
  | _ => {}

def patternValsOf : List Nat → PatternVals
  | [a1, a0, b1, b0, c1, c0, d1, d0, e1, e0, f1, f0, g1, g0, h1, h0] =>
    { d0 := word2 a1 a0, dmin := word2 b1 b0, dmax := word2 c1 c0, run := word2 d1 d0, headway := word2 e1 e0,
      wh := word2 f1 f0, ws := word2 g1 g0, accel := word2 h1 h0 }
  | _ => {}

def patternLineOf : List Nat → PatternLine
  | o1 :: o0 :: w1 :: w0 :: d :: budgets =>
    { overdueMargin := word2 o1 o0, waitLimit := word2 w1 w0, degraded := d != 0, budgets := budgets }
  | _ => {}

def messageCfgOf : List Nat → MessageCfg
  | [r1, r0, c1, c0, p, d, t] =>
    { raiseCode := word2 r1 r0, clearCode := word2 c1 c0, priority := p, copyDelay := d != 0, copyTrain := t != 0 }
  | _ => {}

def routeOf : List Nat → Nat
  | [r] => r
  | _ => 0

/-- One entry stored as received in its table (R15). -/
def loadEntry (t : Tables) (table index : Nat) (e : List Nat) : Tables :=
  match table with
  | 0 => { t with header := headerOf e }
  | 1 => { t with platforms := t.platforms.set index (platformCfgOf e) }
  | 2 => { t with sects := t.sects.set index (sectCfgOf e) }
  | 3 => { t with vals := t.vals.modify 0 fun l => l.set index (patternValsOf e) }
  | 4 => { t with vals := t.vals.modify 1 fun l => l.set index (patternValsOf e) }
  | 5 => { t with vals := t.vals.modify 2 fun l => l.set index (patternValsOf e) }
  | 6 => { t with vals := t.vals.modify 3 fun l => l.set index (patternValsOf e) }
  | 7 => { t with lines := t.lines.set index (patternLineOf e) }
  | 8 => { t with messages := t.messages.set index (messageCfgOf e) }
  | 9 => { t with routes := t.routes.set index (routeOf e) }
  | _ => t

/-- Consecutive entries from an index on (R15). -/
def loadEntries (t : Tables) (table : Nat) : Nat → List (List Nat) → Tables
  | _, [] => t
  | index, e :: es => loadEntries (loadEntry t table index e) table (index + 1) es

/-! ### Values -/

def vehicleOk (v : Nat) : Bool := decide (1 ≤ v) && decide (v ≤ 16777215)
def serviceOk (v : Nat) : Bool := decide (1 ≤ v) && decide (v ≤ 9999)
def timeOk (t : Nat) : Bool := decide (t < Config.day)
def codeOk (c : Nat) : Bool := decide (c ≤ 4095)

/-- A value that is not given passes its check. -/
def okIfGiven {α : Type} (check : α → Bool) : Option α → Bool
  | none => true
  | some x => check x

/-- The mode of an announcement request after the clamps of R147; `none` for a code outside the list. -/
def modeOf (m : ModeArg) : Option Mode :=
  match m.code with
  | 0 => some .once
  | 1 => some (.repeated (clampNat 100 6000 m.interval) (clampNat 1 15 m.count))
  | _ => none

/-- The minutes of AMEND ANNOUNCEMENT: 255 removes them, 0..99 sets them (R199, R148). -/
def minutesOk (m : Nat) : Bool := decide (m ≤ 99) || m == 255
def minutesOf (m : Nat) : Option Nat := if m = 255 then none else some m

namespace State

/-- An origin-allowed configured platform (R45). -/
def originOk (s : State) (p : Nat) : Bool := s.platformOk p && (s.platformCfg p).originAllowed

/-- A configured platform with a player. -/
def playerOk (s : State) (p : Nat) : Bool := s.platformOk p && (s.platformCfg p).player

/-- The location of FIND INCIDENT: `none` where it is refused (R41, R3), `some none` for absent. -/
def findLocation (s : State) (locKind loc : Nat) : Option (Option Location) :=
  match locKind with
  | 0 => some none
  | 1 => if s.platformOk loc then some (some (.platform loc)) else none
  | 2 => if s.sectOk loc then some (some (.sect loc)) else none
  | 3 => if s.substationOk loc then some (some (.substation loc)) else none
  | 4 => some (some (.train (handleOf loc)))
  | _ => none

/-- The location of RAISE INCIDENT: absent, a platform or a section (R124). -/
def raiseLocation (s : State) (locKind loc : Nat) : Option (Option Location) :=
  match locKind with
  | 0 => some none
  | 1 => if s.platformOk loc then some (some (.platform loc)) else none
  | 2 => if s.sectOk loc then some (some (.sect loc)) else none
  | _ => none

/-- The restriction of RAISE INCIDENT and AMEND INCIDENT: `none` where it is refused; a DELAY above 6000 is
clamped (R124). -/
def restrictionOf (s : State) (r : RestrictionArg) : Option (Option Restriction) :=
  match r.code with
  | 0 => some none
  | 1 => if s.platformOk r.first && s.platformOk r.last then some (some ⟨.hold, r.first, r.last⟩) else none
  | 2 => if s.platformOk r.first && s.platformOk r.last then some (some ⟨.delay (min r.delay 6000), r.first, r.last⟩) else none
  | _ => none

/-- A given announcement with its range as coverage: `none` where it is refused (R124). -/
def givenAnnouncement (s : State) (a : AnnouncementArg) : Option IncidentAnn :=
  if codeOk a.message && codeOk a.clear && decide (a.priority ≤ 3) && s.platformOk a.first && s.platformOk a.last then
    some { message := a.message, clear := a.clear, priority := a.priority, coverage := .range a.first a.last,
           copyDelay := a.copyDelay, copyTrain := a.copyTrain }
  else none

/-- The announcement a message table entry gives, present when either code is non-zero (R125, R126). A raise code of 0 with a
clear code is kept so, against R9's words (log 35). -/
def tableAnnouncement (s : State) (k : Kind) (c : Coverage) : Option IncidentAnn :=
  let m := s.message k
  if m.raiseCode = 0 && m.clearCode = 0 then none
  else some { message := m.raiseCode, clear := m.clearCode, priority := m.priority, coverage := c,
              copyDelay := m.copyDelay, copyTrain := m.copyTrain }

/-- The announcement part of RAISE INCIDENT (R125): `none` where it is refused. -/
def raiseAnnouncement (s : State) (loc : Option Location) (a : AnnouncementArg) : Option (Option IncidentAnn) :=
  match a.part with
  | 0 => match loc with
    | none => some none
    | some (.platform p) => some (s.tableAnnouncement .operator (.range p p))
    | some _ => some (s.tableAnnouncement .operator .locationPlatforms)
  | 1 => some none
  | 2 => (s.givenAnnouncement a).map some
  | _ => none

/-- The announcement part of AMEND INCIDENT (R136): `none` where it is refused. -/
def amendedAnnouncement (s : State) (a : AnnouncementArg) : Option (Option IncidentAnn) :=
  match a.part with
  | 0 => some none
  | 1 => (s.givenAnnouncement a).map some
  | _ => none

end State

end Sys2Proof.Machine
end

