-- ==== Sys2Proof/Decode.lean ====
section
/-! DEFINITION. From the bytes of a link to commands: the frame form of R175, and the bodies of R198 and R199. Frames are
variable in length and are read byte by byte; the opcode table gives no row bits, so no table word spells a command. Then the
frames of the directives the part sends (R198). -/

namespace Sys2Proof

open Sys2Proof.Machine

/-- No row of the opcode table gives bits. -/
def decodeTableWord (_nbits _w : Nat) : Option Instr := none

/-! ### Frames (R175) -/

/-- What a received byte completes (R175). -/
inductive FrameEvent where
  | nothing
  | badLength
  | frame (bytes : List Byte)
  deriving DecidableEq, Repr

/-- One byte at a receiver: it hunts for a start mark, reads the length, and collects that many bytes and the check. The bytes
of a frame run from the length through the check (R175). -/
def receive (r : Rx) (b : Byte) : Rx × FrameEvent :=
  match r with
  | .hunting => (if b.toNat = Config.startMark then .length else .hunting, .nothing)
  | .length =>
    if b.toNat < Config.minLength ∨ Config.maxLength < b.toNat then (.hunting, .badLength)
    else (.collecting (b.toNat + 1) [b], .nothing)
  | .collecting need got =>
    if need ≤ 1 then (.hunting, .frame (got ++ [b])) else (.collecting (need - 1) (got ++ [b]), .nothing)

/-- The bytes from the length through the check sum to 0 modulo 256 (R175). -/
def checkGood (bytes : List Byte) : Bool := (bytes.map BitVec.toNat).sum % 256 == 0

/-- The bytes of a good frame from the code through the body, as numbers. -/
def frameBody (bytes : List Byte) : List Nat := ((bytes.drop 1).dropLast).map BitVec.toNat

/-! ### Fields (R199) -/

def flagOf (b : Nat) : Bool := b != 0

/-- An amendment that its bit of the amendments-present byte marks as given (R199). -/
def given {α : Type} (present bit : Nat) (x : α) : Option α := if present / 2 ^ bit % 2 = 1 then some x else none

/-! ### Requests (R199) -/

/-- The request that a code, tag and body carry, or none where check 1 or 2 of R177 fails. -/
def decodeRequest (code tag : Nat) (body : List Nat) : Option Instr :=
  match code, body with
  | 1, [a, b] => some (.lookup tag ⟨a, b⟩)
  | 2, [l, p, a, b] => some (.walk tag l p ⟨a, b⟩)
  | 3, [k, x, y, z, a, b] => some (.findTrain tag k (word3 x y z) ⟨a, b⟩)
  | 4, [k, lk, x, y, a, b] => some (.findIncident tag k lk (word2 x y) ⟨a, b⟩)
  | 5, [x, y, z, u, v, o, a, b, c] => some (.createTrain tag (word3 x y z) (word2 u v) o (word3 a b c) none)
  | 5, [x, y, z, u, v, o, a, b, c, m] => some (.createTrain tag (word3 x y z) (word2 u v) o (word3 a b c) (some (flagOf m)))
  | 6, [a, b, p, u, v, o, x, y, z, m] =>
    some (.amendTrain tag ⟨a, b⟩ (given p 0 (word2 u v)) (given p 1 o) (given p 2 (word3 x y z)) (given p 3 (flagOf m)))
  | 7, [a, b] => some (.forceDepart tag ⟨a, b⟩)
  | 8, [a, b] => some (.retire tag ⟨a, b⟩)
  | 9, [sv, lk, x, y, r, d1, d0, rf, rl, part, m1, m0, c1, c0, p, cf, cl, cd, ct] =>
    some (.raiseIncident tag sv lk (word2 x y) ⟨r, word2 d1 d0, rf, rl⟩
      ⟨part, word2 m1 m0, word2 c1 c0, p, cf, cl, flagOf cd, flagOf ct⟩)
  | 10, [a, b, g, sv, r, d1, d0, rf, rl, part, m1, m0, c1, c0, p, cf, cl, cd, ct] =>
    some (.amendIncident tag ⟨a, b⟩ (given g 0 sv) (given g 1 ⟨r, word2 d1 d0, rf, rl⟩)
      (given g 2 ⟨part, word2 m1 m0, word2 c1 c0, p, cf, cl, flagOf cd, flagOf ct⟩))
  | 11, [a, b] => some (.acknowledge tag ⟨a, b⟩)
  | 12, [a, b] => some (.clear tag ⟨a, b⟩)
  | 13, [p, m1, m0, pr, a, b, mp, mi, md, i1, i0, c] =>
    some (.createAnnouncement tag p (word2 m1 m0) pr ⟨a, b⟩ (if flagOf mp then some mi else none) ⟨md, word2 i1 i0, c⟩)
  | 14, [a, b, g, m1, m0, mi, md, i1, i0, c] =>
    some (.amendAnnouncement tag ⟨a, b⟩ (given g 0 (word2 m1 m0)) (given g 1 mi) (given g 2 ⟨md, word2 i1 i0, c⟩))
  | 15, [p] => some (.readPlatform tag p)
  | 16, [i] => some (.readSection tag i)
  | 17, [k] => some (.readSubstation tag k)
  | 18, [i, e] => some (.isolate tag i (flagOf e))
  | 19, [i] => some (.energise tag i)
  | 20, [i] => some (.restore tag i)
  | 21, [i, l] => some (.setWarningLevel tag i l)
  | 22, [q] => some (.selectPattern tag q)
  | 23, [q] => some (.enterDegraded tag q)
  | 24, [] => some (.resume tag)
  | 25, [a, b] => some (.readSaveEntry tag ⟨a, b⟩)
  | 26, [a, b, g, x, y, z, u, v] =>
    some (.amendSaveEntry tag ⟨a, b⟩ (given g 0 (signed3 (word3 x y z))) (given g 1 (word2 u v)))
  | 27, [x, y, z] => some (.setTime tag (word3 x y z))
  | 28, [x, y] => some (.adjustTime tag (signed2 (word2 x y)))
  | 29, [] => some (.readTime tag)
  | 30, t :: f :: entries => some (.loadConfig tag t f (entries.map (BitVec.ofNat 8)))
  | 31, [] => some (.start tag)
  | 32, [] => some (.configReload tag)
  | 33, [] => some (.linkRestart tag)
  | 34, [] => some (.readAttention tag none)
  | 34, [c] => some (.readAttention tag (some c))
  | 35, [m] => some (.setAttentionMask tag m)
  | 36, [] => some (.readStatus tag)
  | 37, [t] => some (.readShadow tag t)
  | _, _ => none

/-- The command a completed Control Link frame carries (R175, R177). -/
def decodeControl (bytes : List Byte) : Instr :=
  if checkGood bytes then
    match frameBody bytes with
    | code :: tag :: body => (decodeRequest code tag body).getD (.unknownRequestCode code tag body.length)
    | _ => .badFrame
  else .badFrame

/-! ### Reports (R190, R198) -/

def classOf : Nat → Option SupplyClass
  | 0 => some .healthy | 1 => some .low | 2 => some .absent | _ => none

def positionOf : Nat → Option Position
  | 0 => some .opened | 1 => some .closed | _ => none

/-- A field that holds a code for no or yes, 0 or 1 (R190). -/
def binaryOf : Nat → Option Bool
  | 0 => some false | 1 => some true | _ => none

/-- The report that a code and body carry, or none where the frame is bad (R190). -/
def decodeReport (code : Nat) (body : List Nat) : Option Instr :=
  match code, body with
  | 1, [x, y, z, p, a, b, c] => if timeOk (word3 a b c) then some (.arrive (word3 x y z) p (word3 a b c)) else none
  | 2, [x, y, z, p, a, b, c] => if timeOk (word3 a b c) then some (.depart (word3 x y z) p (word3 a b c)) else none
  | 3, [i, k, q, a, b, c] =>
    match classOf k, positionOf q with
    | some cls, some pos => if timeOk (word3 a b c) then some (.feeder i cls pos (word3 a b c)) else none
    | _, _ => none
  | 4, [k, u, a, b, c] =>
    match binaryOf u with
    | some up => if timeOk (word3 a b c) then some (.substation k up (word3 a b c)) else none
    | none => none
  | 5, [p, u, v, a, b, c] =>
    match binaryOf u with
    | some on => if timeOk (word3 a b c) then some (.platformAlarm p on v (word3 a b c)) else none
    | none => none
  | _, _ => none

/-- The command a completed Field Link frame carries; its tag plays no part (R190, R191). -/
def decodeField (bytes : List Byte) : Instr :=
  if checkGood bytes then
    match frameBody bytes with
    | code :: _ :: body => (decodeReport code body).getD .fieldBadFrame
    | _ => .fieldBadFrame
  else .fieldBadFrame

/-! ### Status frames (R196) -/

/-- The command a completed status frame carries: its tag is the platform and its body is empty (R196). -/
def decodeStatus (bytes : List Byte) : Instr :=
  if checkGood bytes then
    match frameBody bytes with
    | [1, p] => .ready p
    | [2, p] => .started p
    | [3, p] => .refused p
    | [4, p] => .ended p
    | _ => .statusFrameBad
  else .statusFrameBad

/-! ### Frames the part sends (R175, R198) -/

/-- The length byte of a frame whose code, tag and body are more bytes than R198 lets a length count: any byte (log 43). -/
opaque Config.longLength : Nat → Byte

/-- The length byte of a frame: the bytes of code, tag and body, 2..250 (R198). -/
def lengthByte (n : Nat) : Nat := if n ≤ Config.maxLength then n else (Config.longLength n).toNat

/-- A frame as it leaves: the start mark, the length of code, tag and body, those bytes, and the check (R198). A body too long for
a length of 2..250 leaves in one frame too (R176; log 43). -/
def frameOf (code tag : Nat) (body : List Nat) : List Byte :=
  let counted := lengthByte (body.length + 2) :: code :: tag :: body
  (Config.startMark :: counted ++ [(256 - counted.sum % 256) % 256]).map (BitVec.ofNat 8)

def bytes2 (x : Nat) : List Nat := [x / 256, x % 256]
def bytes3 (x : Nat) : List Nat := [x / 65536, x / 256 % 256, x % 256]

/-- The code and body of a directive; a part of PLAY that is absent is sent as 0 (R198). -/
def directiveBody : Directive → Nat × List Nat
  | .dwell time => (1, bytes3 time)
  | .hold => (2, [])
  | .depart => (3, [])
  | .clearIndicator => (4, [])
  | .play message minutes service =>
    (5, bytes2 message ++ [(if minutes.isSome then 1 else 0) + (if service.isSome then 2 else 0), minutes.getD 0]
      ++ bytes2 (service.getD 0))
  | .stop => (6, [])
  | .breakerOpen => (7, [])
  | .breakerClose => (8, [])

/-- The bytes of a directive to a target, whose number is the tag (R192, R198). -/
def directiveFrame (target : Nat) (d : Directive) : List Byte := frameOf (directiveBody d).1 target (directiveBody d).2

/-- The status byte that begins a response body (R199). -/
def statusCode : Status → Nat
  | .done => 0 | .accepted => 1 | .notFound => 2 | .staleHandle => 3 | .wrongState => 4 | .noRoom => 5 | .limit => 6
  | .outOfRange => 7 | .occupied => 8 | .busy => 9 | .notConfigured => 10 | .badFrame => 11

/-- The bytes of the response bodies to which the manual gives no layout: any layout (log 7). -/
opaque Config.bodyLayout : Body → List Nat

/-- The bytes of a response body after the status byte: none where it is empty (R199), a handle in two bytes, a time in three
(R198). -/
def bodyBytes : Body → List Nat
  | .empty => []
  | .created h => [h.slot, h.epoch]
  | .time t => bytes3 t
  | b => Config.bodyLayout b

/-- The frame of a response (R175, R199): code, tag, the status byte and the response body. -/
def responseFrame (r : Response) : List Byte := frameOf r.code r.tag (statusCode r.status :: bodyBytes r.body)

/-- The frames sent on the Control Link, in the order in which they leave (R176). -/
def Machine.State.responseFrames (s : State) : List (List Byte) := s.responses.map responseFrame

end Sys2Proof
end

