-- ==== Sys2Proof/Machine/Flags.lean ====
section
/-! DEFINITION. The flags the part shows: pending attention sources, the eight lines, the leading incidents,
and the level and supply of a section. -/

namespace Sys2Proof.Machine

open Sys2Proof

/-- A RAISED incident that makes its kind pending under a mask (R181). -/
def Incident.calls (c : Incident) (mask : Nat) : Bool :=
  c.state == .raised && (decide (mask < c.severity) || c.severity == 7)

/-- The source number of a latch (R9). -/
def Latch.source : Latch → Nat
  | .poolLow => 9 | .fieldLink => 10 | .directiveLink => 11 | .playerOffline => 12 | .sectionWarning => 13
  | .foreignPassage => 14 | .reportConflict => 15

namespace State

/-- The incidents of a kind that make it pending, in incident-list order (R181). -/
def callers (s : State) (k : Kind) : List (Nat × Incident) :=
  s.liveIncidents.filter fun e => e.2.kind == k && e.2.calls s.attention.mask

/-- A kind is pending (R181). -/
def kindPending (s : State) (k : Kind) : Bool := !(s.callers k).isEmpty

/-- A source is pending: 0..8 by its incidents (R181), 9..15 by its latch (R182). -/
def sourcePending (s : State) (n : Nat) : Bool :=
  match Kind.ofNumber n with
  | some k => s.kindPending k
  | none => match Latch.ofSource n with
    | some x => s.attention.latches.get x
    | none => false

/-- The pending sources, ascending (R188). -/
def pendingSources (s : State) : List Nat := (List.range Config.sourceEntries).filter s.sourcePending

/-- A line is asserted while at least one source routed to it is pending (R183). -/
def lineAsserted (s : State) (l : Nat) : Bool := s.pendingSources.any fun n => s.route n == l

/-- The eight lines judged from the sources, the mask and the routes (R183). -/
def judgedLines (s : State) : List Bool := (List.range Config.lineEntries).map s.lineAsserted

/-- The lines are judged again (R183). -/
def judgeLines (s : State) : State := s.modAttention fun a => { a with lines := s.judgedLines }

/-! ### Leading incidents (R185) -/

/-- The first incident outranks the second: a higher severity, or the same and an older raised time (R185). -/
def outranks (now : Nat) (a b : Incident) : Bool :=
  decide (b.severity < a.severity)
    || (a.severity == b.severity && decide (diff b.raisedTime now < diff a.raisedTime now))

/-- The entry that no later entry outranks, the earlier one on equals. -/
def leadingOf (now : Nat) (l : List (Nat × Incident)) : Option (Nat × Incident) :=
  firstBest (fun x best => outranks now x.2 best.2) l

/-- The leading incident of a kind (R185). -/
def leading (s : State) (k : Kind) : Option (Nat × Incident) := leadingOf s.lineTime (s.callers k)

def kinds : List Kind :=
  [.operator, .platformAlarm, .platformConflict, .trainOverdue, .unauthorised, .sectionLockout, .breakerFailure,
    .supplyTransfer, .powerDelay]

/-- The leading incident of the first pending kind: kinds are ordered by the rank of their leading incidents,
the lower kind number first on equals (R185). -/
def firstCaller (s : State) : Option (Nat × Incident) := leadingOf s.lineTime (kinds.filterMap s.leading)

def latchOrder : List Latch :=
  [.poolLow, .fieldLink, .directiveLink, .playerOffline, .sectionWarning, .foreignPassage, .reportConflict]

/-- The first set latch in the order of R185. -/
def firstLatch (s : State) : Option Latch := latchOrder.find? s.attention.latches.get

/-! ### Sections (R83, R84, R85) -/

end State

/-- The level of a section (R85). -/
def Sect.level (x : Sect) : Level :=
  if 128 ≤ x.counter then .restricted else if x.warning ≤ x.counter then .warning else .normal

namespace State

def up (s : State) (k : Nat) : Bool := (s.substation k).up

/-- The fallback of a section is present and UP. -/
def fallbackUp (s : State) (i : Nat) : Bool :=
  match (s.sectCfg i).fallback with
  | some f => s.up f
  | none => false

/-- The supplier of a section (R83). -/
def supplier (s : State) (i : Nat) : Option Nat :=
  let x := s.sect i
  let c := s.sectCfg i
  if s.up c.primary then
    if x.state == .energised || x.state == .recovering then some c.primary else none
  else if x.state == .onFallback && s.fallbackUp i then c.fallback else none

/-- A section meets the supply condition (R78, R84). -/
def supplied (s : State) (i : Nat) : Bool := (s.supplier i).isSome && (s.sect i).state != .recovering

/-- The fed state of a section as its substations stand (R83). -/
def fedState (s : State) (i : Nat) : SectState :=
  if s.up (s.sectCfg i).primary then .energised else if s.fallbackUp i then .onFallback else .dead

/-- SECTION WARNING is latched by an event that takes the counter of a section to the warning level or past
127 (R85): `before` and `after` are the section at the start and at the end of the event. -/
def warningCrossed (before after : Sect) : Bool :=
  (decide (after.warning ≤ after.counter) && decide (before.counter < before.warning))
    || (decide (128 ≤ after.counter) && decide (before.counter < 128))

def latchWarning (s : State) (before : Sect) (i : Nat) : State :=
  if warningCrossed before (s.sect i) then s.latch .sectionWarning else s

/-! ### Restrictions (R73, 7.6) -/

/-- An active incident's HOLD covers a platform. -/
def holdsPlatform (s : State) (c : Incident) (p : Nat) : Bool :=
  c.active && match c.restriction with
    | some ⟨.hold, first, last⟩ => s.covers first last p
    | _ => false

/-- A platform is held (7.6). -/
def held (s : State) (p : Nat) : Bool := s.liveIncidents.any fun e => s.holdsPlatform e.2 p

/-- The delay an incident puts on a platform, 0 where none (R73). -/
def delayBy (s : State) (c : Incident) (p : Nat) : Nat :=
  if c.active then
    match c.restriction with
    | some ⟨.delay v, first, last⟩ => if s.covers first last p then v else 0
    | _ => 0
  else 0

/-- The incident term Ei of a platform (R73). -/
def delayAt (s : State) (p : Nat) : Nat := s.liveIncidents.foldl (fun m e => max m (s.delayBy e.2 p)) 0

end State

end Sys2Proof.Machine
end

