-- ==== Sys2Proof/Machine/Announce.lean ====
section
/-! DEFINITION. The Announcement Scheduler (08): queues, creation, cutting, selection, retirement of
announcement records and the player protocol. -/

namespace Sys2Proof.Machine

open Sys2Proof

/-- The count that plays done is compared with; ONCE counts as 1 (R143). -/
def Mode.count : Mode → Nat
  | .once => 1
  | .repeated _ c => c

/-- A number of tenths as whole minutes rounded up, 0..99 (R159). -/
def minutesUp (g : Int) : Nat := (clampInt 0 99 ((g + 599) / 600)).toNat

namespace State

def annPriority (s : State) (i : Nat) : Nat := match s.ann? i with | some a => a.priority | none => 0

/-- A record placed after the last of its priority on its platform's queue (R26). -/
def linkAnn (s : State) (p i : Nat) : State :=
  s.modQueue p fun q => insertBefore (fun j => decide (s.annPriority j < s.annPriority i)) i q

def unlinkAnn (s : State) (p i : Nat) : State := s.modQueue p fun q => q.erase i

/-- The player of a platform takes a state, with no cue and no deadline (R149). -/
def quietPlayer (s : State) (p : Nat) (x : PlayerState) : State :=
  s.modPlatform p fun q => { q with player := x, cue := none, playerDl := none }

/-- STOP is queued for a player that had a cue. A PLAY still in the directive queue is replaced and the player
goes IDLE at once; otherwise it goes STOPPING with a stop deadline (R155, R156). -/
def stopCue (s : State) (p : Nat) (unsent : Bool) : State :=
  let t := s.issuePlayer p .stop
  if unsent then t.quietPlayer p .idle
  else t.modPlatform p fun q => { q with player := .stopping, cue := none, playerDl := some (later s.lineTime Config.playerLimit) }

/-- The cue of a platform goes back to QUEUED in its place, plays done unchanged (R153, R154, R156). -/
def requeueCue (s : State) (p : Nat) : State :=
  match (s.platform p).cue with
  | some h => s.modAnn h.slot fun a => { a with state := .queued }
  | none => s

/-- The PLAY of a SELECTED record has not been sent (R155, R156). -/
def unsentCue (s : State) (p : Nat) (a : Ann) : Bool := a.state == .selected && s.playQueued p

/-- A priority-3 record that has become QUEUED cuts a cue of priority 0..2 (R156). -/
def preempt (s : State) (p : Nat) : State :=
  match (s.platform p).cue with
  | none => s
  | some h => match s.ann? h.slot with
    | none => s
    | some a => if a.priority < 3 then (s.requeueCue p).stopCue p (s.unsentCue p a) else s

/-- An announcement is created on the queue of its platform (R27, R26); a record of priority 3 may pre-empt the
cue (R156). The creator has checked its threshold. -/
def createAnn (s : State) (a : Ann) : State :=
  match s.allocate (.ann a) with
  | none => s
  | some (t, i) =>
    let u := t.linkAnn a.platform i
    if a.priority = 3 then u.preempt a.platform else u

/-- An announcement is retired (R155, R30): the player is stopped according to the record's state, the record
leaves its queue and its slot is freed. -/
def retireAnn (s : State) (i : Nat) : State :=
  match s.ann? i with
  | none => s
  | some a =>
    let t := match a.state with
      | .selected => s.stopCue a.platform (s.playQueued a.platform)
      | .playing => s.stopCue a.platform false
      | .queued | .resting | .done => s
    (t.unlinkAnn a.platform i).release i

/-- The announcements that satisfy a test are retired, in the order of `liveAnns` (log 5). -/
def retireAnns (s : State) (test : Ann → Bool) : State :=
  (s.liveAnns.filter fun e => test e.2).foldl (fun t e => t.retireAnn e.1) s

/-- Every live announcement is changed by `f` (R61, R135). -/
def mapAnns (s : State) (f : Ann → Ann) : State := s.liveAnns.foldl (fun t e => t.modAnn e.1 f) s

/-! ### Selection (R146) -/

def queuedOn (s : State) (p : Nat) : Option Nat :=
  (s.queue p).find? fun i => match s.ann? i with | some a => a.state == .queued | none => false

/-- The service number a PLAY carries: that of the record's train, where there is one (R146). -/
def serviceOf (s : State) (h : Option Handle) : Option Nat :=
  match h with
  | some h => (s.train? h.slot).map Train.service
  | none => none

/-- An IDLE player with a QUEUED record makes its selection (R146). -/
def select (s : State) (p : Nat) : State :=
  if (s.platform p).player = .idle then
    match s.queuedOn p with
    | none => s
    | some i => match s.ann? i with
      | none => s
      | some a =>
        ((s.modAnn i fun b => { b with state := .selected, updated := false }).issuePlayer p
            (.play a.message a.minutes (s.serviceOf a.train))).modPlatform p fun q =>
          { q with player := .cued, cue := some (s.handle i), playerDl := some (later s.lineTime Config.playerLimit) }
  else s

/-- The selections at the end of an event, platforms in ascending index (R146; log 5). -/
def selections (s : State) : State := (List.range Config.platformEntries).foldl select s

/-! ### The player protocol (R150 to R154) -/

/-- ENDED while PLAYING: a play of the cue is completed (R151). -/
def completePlay (s : State) (p : Nat) : State :=
  match (s.platform p).cue with
  | none => s.quietPlayer p .idle
  | some h => match s.ann? h.slot with
    | none => s.quietPlayer p .idle
    | some a =>
      let t := s.quietPlayer p .idle
      match a.mode with
      | .once => (t.modAnn h.slot fun b => { b with plays := b.plays + 1, state := .done }).retireAnn h.slot
      | .repeated interval count =>
        if count ≤ a.plays + 1 then (t.modAnn h.slot fun b => { b with plays := b.plays + 1, state := .done }).retireAnn h.slot
        else t.modAnn h.slot fun b =>
          { b with plays := b.plays + 1, state := .resting, restDl := some (later s.lineTime interval) }

/-- READY (R153, R154). -/
def playerReady (s : State) (p : Nat) : State :=
  match (s.platform p).player with
  | .idle => s
  | .cued | .playing => (s.requeueCue p).quietPlayer p .idle
  | .stopping | .offline => s.quietPlayer p .idle

/-- STARTED (R150, R154). -/
def playerStarted (s : State) (p : Nat) : State :=
  match (s.platform p).player with
  | .idle | .stopping | .offline => s.issuePlayer p .stop
  | .playing => s
  | .cued =>
    let t := match (s.platform p).cue with
      | some h => s.modAnn h.slot fun a => { a with state := .playing }
      | none => s
    t.modPlatform p fun q => { q with player := .playing, playerDl := none }

/-- REFUSED (R153, R154). No directive is queued, and a PLAY of the cue that is still unsent stays in the queue (log 39). -/
def playerRefused (s : State) (p : Nat) : State :=
  match (s.platform p).player with
  | .idle | .playing | .offline => s
  | .cued => (s.requeueCue p).quietPlayer p .offline
  | .stopping => s.quietPlayer p .offline

/-- ENDED (R151, R154). -/
def playerEnded (s : State) (p : Nat) : State :=
  match (s.platform p).player with
  | .idle | .cued | .offline => s
  | .playing => s.completePlay p
  | .stopping => s.quietPlayer p .idle

/-- A start-deadline expiry, and the treatment of a player at LINK RESTART (R153, R161): the cue goes back to
QUEUED, STOP is queued, the player goes OFFLINE and PLAYER OFFLINE is latched. -/
def playerLost (s : State) (p : Nat) : State :=
  (((s.requeueCue p).issuePlayer p .stop).quietPlayer p .offline).latch .playerOffline

/-- A RESTING record's rest ends (R152, R26). -/
def endRest (s : State) (i : Nat) : State :=
  match s.ann? i with
  | none => s
  | some a =>
    let t := ((s.modAnn i fun b => { b with state := .queued, restDl := none }).unlinkAnn a.platform i).linkAnn a.platform i
    if a.priority = 3 then t.preempt a.platform else t

/-! ### Approach announcements (R158, R159) -/

/-- An approach announcement for the train in slot `i` on platform `n`, or none for want of room (R159). -/
def announceApproach (s : State) (i n : Nat) : State :=
  match s.train? i with
  | none => s
  | some t =>
    let u := s.modTrain i fun t => { t with approachDl := none }
    if s.aboveReserve && s.queueRoom n then
      (u.createAnn { platform := n, message := (s.platformCfg n).approachCode, priority := 1, origin := .approach,
                     train := some (s.handle i), minutes := some (minutesUp (diff s.lineTime (t.predicted.getD s.lineTime))) }).modTrain i
        fun t => { t with approached := true }
    else u

/-- The approach check of a train that has departed towards platform `n` (R158). -/
def approachCheck (s : State) (i n : Nat) : State :=
  match s.train? i with
  | none => s
  | some t =>
    let c := s.platformCfg n
    match t.predicted with
    | none => s
    | some x =>
      if c.approachLead = 0 || !c.player then s
      else if diff s.lineTime x ≤ c.approachLead then s.announceApproach i n
      else s.modTrain i fun t => { t with approachDl := some (later x (-(c.approachLead : Int))) }

end State

end Sys2Proof.Machine
end

