-- ==== Sys2Proof/Machine/Permits.lean ====
section
/-! DEFINITION. The departure gate: the schedule check and the hold-removal check of the Regulation Unit (04)
and the requests, grants, leases and withdrawals of the Permit Arbiter (06). -/

namespace Sys2Proof.Machine

open Sys2Proof

namespace State

/-- The platform a train stands at or has left, and the run section of that platform. -/
def placeOf (t : Train) : Nat := t.position.getD 0
def runSectionOf (s : State) (t : Train) : Nat := (s.platformCfg (placeOf t)).runSection

/-- The substations of the part, ascending. -/
def substationIndices : List Nat := List.range Config.substationEntries

/-! ### Requests and grants (R106, R107, R108) -/

/-- The weight a request is given when it is made (R106). -/
def requestWeight (s : State) (sec k : Nat) : Nat :=
  if (s.sect sec).level = .restricted ∧ (s.substation k).budget ≠ 1 then 2 else 1

/-- The weight with which a queue entry is tested and granted (R106). -/
def serviceWeight (s : State) (k weight : Nat) : Nat := min weight (s.substation k).budget

/-- A weight fits the budget in force (R107, R111). -/
def fits (s : State) (k weight : Nat) : Bool := decide ((s.substation k).inUse + weight ≤ (s.substation k).budget)

/-- The entry of a train leaves a queue, its wait deadline with it. -/
def dropEntry (s : State) (k : Nat) (h : Handle) : State :=
  s.modSubstation k fun b => { b with queue := b.queue.filter fun e => e.train != h }

/-- A grant of a permit (R108), with the stored weight of the request or entry. -/
def grant (s : State) (k : Nat) (h : Handle) (weight : Nat) : State :=
  let w := s.serviceWeight k weight
  let t := s.dropEntry k h
  match s.train? h.slot with
  | none => t
  | some x =>
    let p := placeOf x
    let lease : Lease := ⟨h, w, later s.lineTime (s.vals p).accel⟩
    ((t.modSubstation k fun b => { b with leases := b.leases ++ [lease], inUse := b.inUse + w }).modTrain h.slot fun x =>
      { x with lease := some (k, w), state := .released }).issueIndicator p .depart

/-- A permit request for the train in slot `i`, whose run section has a supplier (R107). -/
def requestPermit (s : State) (i : Nat) : State :=
  match s.train? i with
  | none => s
  | some x =>
    match s.supplier (s.runSectionOf x) with
    | none => s
    | some k =>
      let w := s.requestWeight (s.runSectionOf x) k
      let h := s.handle i
      let t := s.modTrain i fun x => { x with permitReq := some s.lineTime }
      if (s.substation k).queue = [] && s.fits k w then t.grant k h w
      else
        (t.modSubstation k fun b =>
          { b with queue := b.queue ++ [⟨h, w, s.lineTime, some (later s.lineTime s.line.waitLimit)⟩] }).modTrain i fun x =>
          { x with state := .waiting }

/-! ### The schedule check and the hold-removal check (R77, R80, R81) -/

/-- The occupant of a platform is RELEASED, so that the directives of its waiters are not queued (R81). -/
def occupantReleased (s : State) (p : Nat) : Bool :=
  match (s.platform p).occupant with
  | some h => match s.train? h.slot with
    | some t => t.state == .released
    | none => false
  | none => false

/-- DWELL or HOLD of a train at a platform: not queued for a waiter whose occupant is RELEASED (R66, R81). -/
def issueForTrain (s : State) (t : Train) (d : Directive) : State :=
  if t.holds.conflict && s.occupantReleased (placeOf t) then s else s.issueIndicator (placeOf t) d

/-- The hold reasons that apply to a train now (R77), where `held` says which platforms a HOLD covers. -/
def gathered (s : State) (held : Nat → Bool) (t : Train) : HoldSet :=
  { manual := t.holds.manual,
    restriction := held (placeOf t),
    noSupply := !s.supplied (s.runSectionOf t),
    conflict := t.holds.conflict }

/-- The schedule check of the train in slot `i` (R77), where `held` says which platforms a HOLD covers. -/
def scheduleCheckUnder (held : Nat → Bool) (s : State) (i : Nat) : State :=
  match s.train? i with
  | none => s
  | some t =>
    let g := s.gathered held t
    if g.isEmpty then (s.modTrain i fun t => { t with holds := g, depDl := none }).requestPermit i
    else
      let u := s.modTrain i fun t => { t with holds := g, depDl := none, state := .held }
      if g.beyondConflict then u.issueForTrain { t with holds := g } .hold else u

/-- The schedule check under the HOLDs in force (R77). -/
def scheduleCheck (s : State) (i : Nat) : State := scheduleCheckUnder s.held s i

/-- The departure deadline that goes with a departure time: that time if it lies ahead, now otherwise (R65). -/
def departureDeadline (s : State) (d : Nat) : Nat := if 0 < diff s.lineTime d then d else s.lineTime

/-- The hold-removal check of a HELD train whose last reason has been taken out (R80), where `held` says which platforms a HOLD
covers. -/
def holdRemovalCheck (held : Nat → Bool) (s : State) (i : Nat) : State :=
  match s.train? i with
  | none => s
  | some t =>
    let d := t.depTime.getD s.lineTime
    if diff s.lineTime d ≤ 0 then scheduleCheckUnder held s i
    else
      (s.modTrain i fun t => { t with state := .dwelling, depDl := some (s.departureDeadline d) }).issueForTrain t (.dwell d)

/-- A train is HELD with no reason left. -/
def reasonless (t : Train) : Bool := t.state == .held && t.holds.isEmpty

/-- The trains whose last hold reason has been taken out since `before`, in train-list order (R80). -/
def freedSince (before s : State) : List Nat :=
  (s.liveTrains.filter fun e => reasonless e.2 && !(before.train? e.1).any reasonless).map Prod.fst

/-- The hold-removal checks of an event: each train whose last reason has been taken out since `before` is checked once, in
train-list order, under the HOLDs that the event leaves in force (R80; log 18). -/
def checkFreed (held : Nat → Bool) (before s : State) : State := (freedSince before s).foldl (holdRemovalCheck held) s

/-! ### Leases and withdrawals (R109, R113) -/

/-- A lease leaves the list of the substation that granted it, its units are returned and the train holds it no
longer (R109). The queue is served afterwards. -/
def dropLease (s : State) (k : Nat) (h : Handle) : State :=
  let t := s.modSubstation k fun b =>
    { b with leases := b.leases.filter (fun l => l.train != h),
             inUse := b.inUse - ((b.leases.filter fun l => l.train == h).map Lease.weight).sum }
  if t.current h then t.modTrain h.slot fun x => { x with lease := none } else t

/-- The lease of the train in slot `i` ends, where it holds one. -/
def dropLeaseOf (s : State) (i : Nat) : State :=
  match s.train? i with
  | some t => match t.lease with
    | some (k, _) => s.dropLease k (s.handle i)
    | none => s
  | none => s

/-- The entry of a train leaves the queue it stands in. -/
def dropEntries (s : State) (h : Handle) : State :=
  substationIndices.foldl (fun t k => if (t.substation k).queue.any (fun e => e.train == h) then t.dropEntry k h else t) s

/-- The permit request of the train in slot `i` is withdrawn to HELD with a reason (R113). The queue is served
afterwards. -/
def withdraw (s : State) (i : Nat) (reason : HoldSet → HoldSet) : State :=
  match s.train? i with
  | none => s
  | some t =>
    ((s.dropEntries (s.handle i)).modTrain i fun x =>
      { x with state := .held, holds := reason x.holds, permitReq := none }).issueIndicator (placeOf t) .hold

/-- Every WAITING PERMIT train that satisfies a test is withdrawn, in train-list order (R113). -/
def withdrawWhere (s : State) (test : Train → Bool) (reason : HoldSet → HoldSet) : State :=
  (s.liveTrains.filter fun e => e.2.state == .waiting && test e.2).foldl (fun t e => t.withdraw e.1 reason) s

/-- A reason is taken out of every HELD train that satisfies a test and has it, in train-list order (R84 step 4, R138); a train
left with none takes its hold-removal check with the others that the event frees (R80, `checkFreed`). -/
def takeOutWhere (s : State) (test : Train → Bool) (has : HoldSet → Bool) (out : HoldSet → HoldSet) : State :=
  (s.liveTrains.filter fun e => e.2.state == .held && has e.2.holds && test e.2).foldl
    (fun t e => t.modTrain e.1 fun x => { x with holds := out x.holds }) s

/-- Grants from the head while the head fits (R111); `fuel` bounds the number of entries. -/
def grantFromHead (s : State) (k : Nat) : Nat → State
  | 0 => s
  | fuel + 1 =>
    match (s.substation k).queue with
    | [] => s
    | e :: _ => if s.fits k (s.serviceWeight k e.weight) then (s.grant k e.train e.weight).grantFromHead k fuel else s

end State

end Sys2Proof.Machine
end

