-- ==== Sys2Proof/Machine/Incidents.lean ====
section
/-! DEFINITION. The Incident Manager (07): clearing, ends of causes, severity changes, copies, raises and owed
work (02, 2.5); and the service of the permit queues (R111), which may end the cause of POWER DELAY (R119). -/

namespace Sys2Proof.Machine

open Sys2Proof

/-- The acknowledgement limit of a severity (R128). -/
def ackLimit : Nat → Option Nat
  | 1 => some 1200 | 2 => some 900 | 3 => some 600 | 4 => some 450 | 5 => some 300 | _ => none

/-- DELAY minutes of a raise copy (R140): the value divided by 600, rounded up, where it is 1 or more. -/
def delayMinutes (r : Option Restriction) : Option Nat :=
  match r with
  | some ⟨.delay v, _, _⟩ => if 1 ≤ v then some ((v + 599) / 600) else none
  | _ => none

namespace State

/-! ### Owed sets of the locating records (R32) -/

def owed (s : State) (k : Kind) (loc : Location) : Option Nat :=
  match loc with
  | .platform p => (s.platform p).owed.get k.owedSecond
  | .sect i => (s.sect i).owed.get k.owedSecond
  | .substation j => (s.substation j).owed.get k.owedSecond
  | .train h => match s.train? h.slot with
    | some t => if s.handle h.slot = h then t.owed.get k.owedSecond else none
    | none => none

def putOwed (s : State) (k : Kind) (loc : Location) (v : Option Nat) : State :=
  match loc with
  | .platform p => s.modPlatform p fun x => { x with owed := x.owed.put k.owedSecond v }
  | .sect i => s.modSect i fun x => { x with owed := x.owed.put k.owedSecond v }
  | .substation j => s.modSubstation j fun x => { x with owed := x.owed.put k.owedSecond v }
  | .train h => if s.handle h.slot = h then s.modTrain h.slot fun x => { x with owed := x.owed.put k.owedSecond v } else s

/-- A kind becomes owed, or folds into the owed entry with the higher severity (R32). -/
def owe (s : State) (k : Kind) (loc : Location) (severity : Nat) : State :=
  s.putOwed k loc (some (max severity ((s.owed k loc).getD 0)))

/-! ### The incident list (R25) -/

def severityAt (s : State) (i : Nat) : Nat := match s.incident? i with | some c => c.severity | none => 0

/-- An incident enters the list after the last incident of its severity (R25). -/
def linkIncident (s : State) (i : Nat) : State :=
  s.modPool fun q => { q with incidents := insertBefore (fun j => decide (s.severityAt j < s.severityAt i)) i q.incidents }

def unlinkIncident (s : State) (i : Nat) : State := s.modPool fun q => { q with incidents := q.incidents.erase i }

/-- The active automatic incident of a kind at a location (R126, R133). -/
def activeAt (s : State) (k : Kind) (loc : Location) : Option (Nat × Incident) :=
  s.liveIncidents.find? fun e => e.2.active && e.2.automatic && e.2.kind == k && e.2.location == some loc

/-! ### Copies (R139, R140, R141, R37) -/

/-- A platform lies in the coverage of an incident's announcement (R122). -/
def covered (s : State) (c : Coverage) (loc : Option Location) (p : Nat) : Bool :=
  match c with
  | .range first last => s.covers first last p
  | .locationPlatforms => match loc with
    | some (.sect i) => (s.platformCfg p).runSection == i
    | some (.substation k) =>
      let x := s.sectCfg (s.platformCfg p).runSection
      x.primary == k || x.fallback == some k
    | some (.platform q) => p == q
    | _ => false

/-- The configured platforms of a coverage that have a player, ascending (R139). -/
def copyPlatforms (s : State) (c : Coverage) (loc : Option Location) : List Nat :=
  (List.range s.ringSize).filter fun p => (s.platformCfg p).player && s.covered c loc p

/-- The train a raise copy names (R140). -/
def copyTrainOf (s : State) (a : IncidentAnn) (loc : Option Location) : Option Handle :=
  match loc with
  | some (.train h) => if a.copyTrain && s.current h then some h else none
  | _ => none

/-- The raise copy of an incident for a platform (R140). -/
def raiseCopy (s : State) (i : Nat) (c : Incident) (a : IncidentAnn) (p : Nat) : Ann :=
  { platform := p, message := a.message, priority := a.priority, origin := .incident, source := some (s.handle i),
    minutes := if a.copyDelay then delayMinutes c.restriction else none, train := s.copyTrainOf a c.location }

/-- The clear copy of an incident for a platform (R141). -/
def clearCopy (s : State) (i : Nat) (a : IncidentAnn) (p : Nat) : Ann :=
  { platform := p, message := a.clear, priority := a.priority, origin := .incident, source := some (s.handle i) }

/-- A copy has room on a platform (R27, R28). -/
def copyRoom (s : State) (p : Nat) : Bool := s.aboveReserve && s.queueRoom p

/-- A raise copy is created on a platform, or the platform becomes owed (R140, R33). -/
def copyOrOwe (s : State) (i p : Nat) : State :=
  match s.incident? i with
  | none => s
  | some c => match c.ann with
    | none => s
    | some a =>
      if s.copyRoom p then s.createAnn (s.raiseCopy i c a p)
      else s.modIncident i fun c => { c with owedCopies := insertAscending p c.owedCopies }

/-- The copy step (R140). -/
def copyStep (s : State) (i : Nat) : State :=
  match s.incident? i with
  | none => s
  | some c => match c.ann with
    | none => s
    | some a =>
      if a.message = 0 then s
      else (s.copyPlatforms a.coverage c.location).foldl (fun t p => t.copyOrOwe i p) (s.modIncident i fun c => { c with copied := true })

/-- The clear copies of an incident (R141). -/
def clearCopies (s : State) (i : Nat) : State :=
  match s.incident? i with
  | none => s
  | some c => match c.ann with
    | none => s
    | some a =>
      if a.clear = 0 then s
      else (s.copyPlatforms a.coverage c.location).foldl (fun t p => if t.copyRoom p then t.createAnn (t.clearCopy i a p) else t) s

/-! ### Clearing (R133, R134, R138) -/

/-- RESTRICTION is taken out of the HELD trains at the platforms that were held before and are not under `held` (R138). -/
def takeRestriction (before s : State) (held : Nat → Bool) : State :=
  s.takeOutWhere (fun t => before.held (placeOf t) && !held (placeOf t)) HoldSet.restriction fun h => { h with restriction := false }

/-- The same at the entry to CLEARED or at the amendment itself (R138); a HOLD that the same event's owed work creates later begins
anew (log 38). -/
def holdsStop (before s : State) : State := takeRestriction before s s.held

/-- Entry to CLEARED (R134). -/
def enterCleared (s : State) (i : Nat) : State :=
  let h := s.handle i
  let t := holdsStop s (s.modIncident i fun c => { c with state := .cleared, escDl := none })
  let u := t.retireAnns fun a => a.source == some h && (a.state == .queued || a.state == .resting)
  (u.modIncident i fun c => { c with owedCopies := [] }).clearCopies i

/-- The end of a cause (R133, R34): the active incident is cleared, or marked if RAISED at severity 7; an owed kind
is dropped. -/
def endCause (s : State) (k : Kind) (loc : Location) : State :=
  let t := match s.activeAt k loc with
    | none => s
    | some (i, c) =>
      if c.state = IncidentState.raised ∧ c.severity = 7 then s.modIncident i fun c => { c with causeEnded := true } else s.enterCleared i
  if (t.owed k loc).isSome then t.putOwed k loc none else t

/-! ### Service of the permit queues (R111, R119) -/

/-- A queue is served; where the event has `emptied` it before, or the service empties it, the cause of POWER DELAY ends (R111,
R119; log 20). -/
def serveQueue (s : State) (k : Nat) (emptied : Bool) : State :=
  let t := s.grantFromHead k (s.substation k).queue.length
  if emptied = true ∨ ((s.substation k).queue ≠ [] ∧ (t.substation k).queue = []) then t.endCause .powerDelay (.substation k)
  else t

/-- The queue of a substation has lost its last entry since `before` (R119). -/
def emptiedSince (before s : State) (k : Nat) : Bool :=
  decide ((before.substation k).queue ≠ []) && decide ((s.substation k).queue = [])

/-- Each substation whose queue or lease list has changed since `before` is served once, in ascending index (R84,
R109, R113, R116). -/
def serveChanged (before s : State) : State :=
  (substationIndices.filter fun k =>
    decide ((s.substation k).queue ≠ (before.substation k).queue) || decide ((s.substation k).leases ≠ (before.substation k).leases)).foldl
    (fun t k => t.serveQueue k (emptiedSince before s k)) s

/-- Every configured substation is served once, in ascending index (R117). -/
def serveAll (s : State) : State := (List.range s.tables.header.substations).foldl (fun t k => t.serveQueue k false) s

/-! ### Restrictions that begin (R137) -/

/-- What an event does as restrictions begin, from the part `before` them: see `holdsBegin` and `holdsLater`. -/
abbrev Begins := State → State → State

/-- Trains WAITING PERMIT at platforms that were not held before and are now are withdrawn; then the queues they
left are served (R137, R113). -/
def holdsBegin (before s : State) : State :=
  let t := s.withdrawWhere (fun t => !before.held (placeOf t) && s.held (placeOf t)) fun h => { h with restriction := true }
  serveChanged s t

/-- The withdrawals and the service wait until every restriction of the event has begun (R113, R35). -/
def holdsLater (_before s : State) : State := s

/-! ### Severity (R129) -/

/-- A new severity: the incident re-enters the list and, if RAISED, its escalation deadline is set or removed
(R129 steps 1 to 3, R128). -/
def changeSeverity (s : State) (i severity : Nat) : State :=
  let t := ((s.unlinkIncident i).modIncident i fun c => { c with severity := severity }).linkIncident i
  t.modIncident i fun c =>
    if c.state = .raised then { c with escDl := (ackLimit severity).map fun d => later s.lineTime d } else c

/-! ### Raising (R124, R126, R127) -/

/-- An incident is created: slot, list, escalation deadline, restriction, copies, in this order (R124, R126). -/
def createWith (begins : Begins) (s : State) (c : Incident) : State × Option Nat :=
  match s.allocate (.incident { c with escDl := (ackLimit c.severity).map fun d => later s.lineTime d }) with
  | none => (s, none)
  | some (t, i) => ((begins s (t.linkIncident i)).copyStep i, some i)

def createIncident : State → Incident → State × Option Nat := createWith holdsBegin

/-- The successor of the position of a train, where its incidents are announced (R126). -/
def aheadOf (s : State) (h : Handle) : Nat :=
  match s.train? h.slot with
  | some t => match t.position with
    | some p => s.next p
    | none => t.origin
  | none => 0

/-- The default coverage of an automatic incident (R126). -/
def defaultCoverage (s : State) : Location → Coverage
  | .platform p => .range p p
  | .sect _ => .locationPlatforms
  | .substation _ => .locationPlatforms
  | .train h => .range (s.aheadOf h) (s.aheadOf h)

/-- The record of a new automatic incident (R126): a PLATFORM ALARM at severity 6 or 7 carries HOLD over its
platform. -/
def automaticIncident (s : State) (k : Kind) (loc : Location) (severity : Nat) : Incident :=
  { kind := k, severity := severity, location := some loc, raisedTime := s.lineTime,
    ann := s.tableAnnouncement k (s.defaultCoverage loc),
    restriction := match k, loc with
      | .platformAlarm, .platform p => if 6 ≤ severity then some ⟨.hold, p, p⟩ else none
      | _, _ => none }

/-- A coalescing PLATFORM ALARM that stands at severity 6 or 7 without a restriction takes HOLD over its platform
(R127, R129 step 4). -/
def alarmHold (begins : Begins) (s : State) (i : Nat) : State :=
  match s.incident? i with
  | none => s
  | some c => match c.kind, c.location, c.restriction with
    | .platformAlarm, some (.platform p), none =>
      if 6 ≤ c.severity then begins s (s.modIncident i fun c => { c with restriction := some ⟨.hold, p, p⟩ }) else s
    | _, _, _ => s

/-- A raise coalesces into the active incident in slot `i` (R126). -/
def coalesce (begins : Begins) (s : State) (i : Nat) (c : Incident) (severity : Nat) : State :=
  let t := s.modIncident i fun c => { c with occurrences := min 255 (c.occurrences + 1), causeEnded := false }
  if c.severity < severity then
    let u := (t.changeSeverity i severity).alarmHold begins i
    if c.copied then u else u.copyStep i
  else t.alarmHold begins i

/-- An automatic incident has room (R27, R28). -/
def incidentRoom (s : State) : Bool := decide (1 ≤ s.freeCount) && decide (s.incidentCount < Config.incidentCap)

/-- An automatic raise (R126): it coalesces, creates a record, or becomes owed. While its kind is owed it folds into the owed
entry, even where room has come since (R32; log 31). -/
def raiseWith (begins : Begins) (s : State) (k : Kind) (loc : Location) (severity : Nat) : State :=
  match s.activeAt k loc with
  | some (i, c) => s.coalesce begins i c severity
  | none =>
    if s.incidentRoom && (s.owed k loc).isNone then (s.createWith begins (s.automaticIncident k loc severity)).1
    else s.owe k loc severity

def autoRaise : State → Kind → Location → Nat → State := raiseWith holdsBegin

/-! ### Service of owed work (R35, R36, R37) -/

/-- The locating records with the kinds they may owe, in the order of R35. -/
def owedOrder (s : State) : List (Kind × Location) :=
  (List.range Config.sectionEntries).flatMap (fun i => [(.sectionLockout, .sect i), (.breakerFailure, .sect i)])
    ++ (List.range Config.substationEntries).flatMap (fun k => [(.supplyTransfer, .substation k), (.powerDelay, .substation k)])
    ++ (List.range Config.platformEntries).flatMap (fun p => [(.platformAlarm, .platform p), (.platformConflict, .platform p)])
    ++ s.pool.trains.flatMap (fun i => [(.trainOverdue, .train (s.handle i)), (.unauthorised, .train (s.handle i))])

/-- One owed automatic incident is served, or passed over for want of room (R35, R36). -/
def serveOwedIncident (s : State) (k : Kind) (loc : Location) : State :=
  match s.owed k loc with
  | none => s
  | some severity => if s.incidentRoom then (s.putOwed k loc none).raiseWith holdsLater k loc severity else s

/-- One owed copy is served, or passed over for want of room (R35, R37). An announcement amended to message code 0
makes no raise copy (R122; log 14). -/
def serveOwedCopy (s : State) (i p : Nat) : State :=
  match s.incident? i with
  | none => s
  | some c => match c.ann with
    | none => s
    | some a =>
      if s.copyRoom p then
        let t := s.modIncident i fun c => { c with owedCopies := c.owedCopies.erase p }
        if a.message = 0 then t else t.createAnn (s.raiseCopy i c a p)
      else s

/-- The owed copies, incidents in list order and platforms ascending (R35). -/
def owedCopyOrder (s : State) : List (Nat × Nat) := s.liveIncidents.flatMap fun e => e.2.owedCopies.map fun p => (e.1, p)

/-- Phase 1 (R35): the owed automatic incidents; then every withdrawal that their restrictions call for, and the service of the
queues that lost an entry (R113, R137; log 32). Such a HOLD begins anew where the event has ended one before (log 38), and the
withdrawals may end POWER DELAY and so retire its announcements (R119, R134; log 41). -/
def serveOwedIncidents (s : State) : State := holdsBegin s (s.owedOrder.foldl (fun t e => t.serveOwedIncident e.1 e.2) s)

/-- The one pass over the owed work, in two phases (R35). What phase 1 itself retires is free in phase 2, and no second phase 1 is
made for what was passed over (log 41). -/
def serveOwed (s : State) : State :=
  let t := s.serveOwedIncidents
  t.owedCopyOrder.foldl (fun u e => u.serveOwedCopy e.1 e.2) t

/-- The end of an event that began at `before`: the hold-removal checks (R80), owed work if a record was retired (R35), with the
checks that it calls for in its turn (log 18), then the selections of IDLE players (R146), then the attention lines (R183). -/
def endEvent (before s : State) : State :=
  let t := checkFreed s.held before s
  let owedServed := t.serveOwed
  (if retiredBetween before t then checkFreed owedServed.held t owedServed else t).selections.judgeLines

end State

end Sys2Proof.Machine
end

