-- ==== Sys2Proof/Machine/Requests.lean ====
section
/-! DEFINITION. How a request is answered (R177, R178): the checks every request shares, and the response frame. -/

namespace Sys2Proof.Machine

open Sys2Proof

/-- What a request comes to: the state after it, its status and the response body. -/
structure Reply where
  state  : State
  status : Status
  body   : Body
  deriving DecidableEq, Repr

/-- A taken request (R178). -/
def done (s : State) (b : Body) : Reply := ⟨s, .done, b⟩

/-- A taken breaker request (R178). -/
def accepted (s : State) : Reply := ⟨s, .accepted, .empty⟩

/-- A refused request changes nothing, and its body is empty (R177). -/
def refuse (s : State) (st : Status) : Reply := ⟨s, st, .empty⟩

/-- A request refused because of the part state carries it (R177). -/
def refusePart (s : State) : Reply := ⟨s, .wrongState, .partState s.part⟩

/-- A check of a request: it goes on where the check holds, and is refused otherwise (R177). -/
def need (s : State) (ok : Bool) (st : Status) (r : Reply) : Reply := if ok then r else refuse s st

/-- Check 3 of R177 for a request not taken in UNCONFIGURED (R14). -/
def whenOperating (s : State) (r : Reply) : Reply := need s (s.part == .operating) .notConfigured r

/-- Check 4 of R177: the handle is current (R22). -/
def withCurrent (s : State) (h : Handle) (r : Reply) : Reply := need s (s.current h) .staleHandle r

/-- A current handle of a train (R22). -/
def withTrain (s : State) (h : Handle) (r : Train → Reply) : Reply :=
  withCurrent s h <| match s.train? h.slot with
    | some t => r t
    | none => refuse s .notFound

/-- A current handle of an incident (R22). -/
def withIncident (s : State) (h : Handle) (r : Incident → Reply) : Reply :=
  withCurrent s h <| match s.incident? h.slot with
    | some c => r c
    | none => refuse s .notFound

/-- A current handle of an announcement (R22). -/
def withAnn (s : State) (h : Handle) (r : Ann → Reply) : Reply :=
  withCurrent s h <| match s.ann? h.slot with
    | some a => r a
    | none => refuse s .notFound

/-- An optional handle, the null handle standing for none or for the head (R22). -/
def withOptional (s : State) (h : Handle) (r : Reply) : Reply := need s (h == Handle.null || s.current h) .staleHandle r

/-- A value that its check gives or refuses OUT OF RANGE (R177). -/
def withValue {α : Type} (s : State) (v : Option α) (r : α → Reply) : Reply :=
  match v with
  | some x => r x
  | none => refuse s .outOfRange

/-- The response frame is formed with the code and tag of the request (R176, R178, R199). -/
def answer (code tag : Nat) (r : Reply) : Out := .next (r.state.reply ⟨code, tag, r.status, r.body⟩)

namespace State

/-- The fields of the record in a slot, as LOOKUP gives them (R38). -/
def recordBody (s : State) (i : Nat) : Body :=
  match (s.slot i).record with
  | .free => .empty
  | .train t => .train (s.handle i) t
  | .incident c => .incident (s.handle i) c
  | .ann a => .announcement (s.handle i) a

/-- The state of the train in a slot. -/
def trainStateBody (s : State) (i : Nat) : Body :=
  match s.train? i with
  | some t => .trainState t.state
  | none => .empty

/-- The state of the incident in a slot. -/
def incidentStateBody (s : State) (i : Nat) : Body :=
  match s.incident? i with
  | some c => .incidentState c.state
  | none => .empty

/-- The head of the free list, which the next allocation takes (R23). -/
def headSlot (s : State) : Nat := s.pool.free.headD 0

end State

end Sys2Proof.Machine
end

