-- ==== Sys2Proof/Machine/AnnouncementRequests.lean ====
section
/-! DEFINITION. The requests on announcement records (08): CREATE ANNOUNCEMENT and AMEND ANNOUNCEMENT. -/

namespace Sys2Proof.Machine

open Sys2Proof

/-- A message code of an announcement record, 1..4095 (R143). -/
def messageOk (m : Nat) : Bool := decide (1 ≤ m) && decide (m ≤ 4095)

/-- A mode that may be absent: `none` for a code outside the list (R199). -/
def modeIfGiven : Option ModeArg → Option (Option Mode)
  | none => some none
  | some m => (modeOf m).map some

namespace State

/-- The train handle of CREATE ANNOUNCEMENT: null, or a current handle of a train (R147). -/
def withTrainArg (s : State) (h : Handle) (r : Option Handle → Reply) : Reply :=
  if h = Handle.null then r none else withTrain s h fun _ => r (some h)

/-- The record of a new operator announcement (R147). -/
def operatorAnn (platform message priority : Nat) (train : Option Handle) (minutes : Option Nat) (mode : Mode) : Ann :=
  { platform := platform, message := message, priority := priority, origin := .operator, train := train, minutes := minutes,
    mode := mode }

/-- The amendments of an announcement; the flags move first (R148). -/
def amendAnn (s : State) (i : Nat) (message minutes : Option Nat) (mode : Option Mode) : State :=
  if message.isNone && minutes.isNone && mode.isNone then s
  else s.modAnn i fun a =>
    { a with superseded := a.superseded || a.updated, updated := true, message := message.getD a.message,
             minutes := match minutes with | some m => minutesOf m | none => a.minutes,
             mode := mode.getD a.mode }

end State

/-- CREATE ANNOUNCEMENT (R147). -/
def execCreateAnnouncement (tag platform message priority : Nat) (train : Handle) (minutes : Option Nat) (mode : ModeArg)
    (s : State) : Out :=
  answer 13 tag (whenOperating s (s.withTrainArg train fun t =>
    need s (s.playerOk platform && messageOk message && decide (priority ≤ 3) && okIfGiven (fun m => decide (m ≤ 99)) minutes)
      .outOfRange
      (withValue s (modeOf mode) fun m => need s (s.queueRoom platform) .limit (need s s.aboveReserve .noRoom
        (let u := State.endEvent s (s.createAnn (State.operatorAnn platform message priority t minutes m))
         done u (u.recordBody s.headSlot))))))

/-- AMEND ANNOUNCEMENT (R148). -/
def execAmendAnnouncement (tag : Nat) (h : Handle) (message minutes : Option Nat) (mode : Option ModeArg) (s : State) : Out :=
  answer 14 tag (whenOperating s (withAnn s h fun _ =>
    need s (okIfGiven messageOk message && okIfGiven minutesOk minutes) .outOfRange
      (withValue s (modeIfGiven mode) fun m =>
        (let u := State.endEvent s (s.amendAnn h.slot message minutes m)
         done u (u.recordBody h.slot)))))

end Sys2Proof.Machine
end

