-- ==== Sys2Proof/Machine/Regulation.lean ====
section
/-! DEFINITION. The Regulation Unit at an arrival (04, 4.2 and 4.3): the origin rule and the ten stages of the dwell
computation. -/

namespace Sys2Proof.Machine

open Sys2Proof

/-- The range of the 24-bit accumulator (R74). -/
abbrev accLow : Int := -8388608
abbrev accHigh : Int := 8388607

/-- One term added in full and brought back into the range, with the saturated flag (R74). -/
def addTerm (acc : Int × Bool) (x : Int) : Int × Bool :=
  let v := acc.1 + x
  if accHigh < v then (accHigh, true) else if v < accLow then (accLow, true) else (v, acc.2)

/-- Stage 7: 256 × D0, then Wh × Eh, Ws × Es and 256 × Ei (R74). -/
def accumulate (v : PatternVals) (eh es : Int) (ei : Nat) : Int × Bool :=
  addTerm (addTerm (addTerm (256 * (v.d0 : Int), false) ((v.wh : Int) * eh)) ((v.ws : Int) * es)) (256 * (ei : Int))

/-- Stage 8: to whole tenths, exact halves up (R75). -/
def scaleDwell (acc : Int) : Int := (acc + 128) / 256

/-- Stage 9: the dwell within Dmin..Dmax and the clamp note (R76). -/
def clampDwell (v : PatternVals) (d : Int) : Int × ClampNote :=
  if d < v.dmin then (v.dmin, .low) else if (v.dmax : Int) < d then (v.dmax, .high) else (d, .unclamped)

/-- Stage 1: the schedule error of a lateness (R68). -/
def scheduleError (lateness : Int) : Int := clampInt (-6000) 6000 (-lateness)

/-- Stage 5: the headway error (R72). -/
def headwayError (hb hf : Int) : Int := clampInt (-6000) 6000 (Int.tdiv (hb - hf) 2)

namespace State

/-- Stage 2: the forward gap at a platform for an arrival at `a` (R69). -/
def forwardGap (s : State) (p a : Nat) : Int :=
  match (s.platform p).lastDep with
  | some d => diff d a
  | none => (s.vals p).headway

/-! ### Stage 3: the follower (R70) -/

/-- Running trains stand before the occupant of their platform, and it before the waiters. -/
def followerClass (s : State) (e : Nat × Train) : Nat :=
  if e.2.state.isRunning then 0
  else if (s.platform (placeOf e.2)).occupant = some (s.handle e.1) then 1 else 2

/-- How long ago a train left, if running, or arrived. -/
def followerAge (s : State) (t : Train) : Int :=
  diff ((if t.state.isRunning then t.lastDep else t.lastArr).getD s.lineTime) s.lineTime

/-- The first train is physically nearer to platform `p` than the second (R70). -/
def nearer (s : State) (p : Nat) (a b : Nat × Train) : Bool :=
  let da := s.dist (placeOf a.2) p
  let db := s.dist (placeOf b.2) p
  decide (da < db) || (da == db &&
    (decide (s.followerClass a < s.followerClass b) || (s.followerClass a == s.followerClass b &&
      decide (s.followerAge b.2 < s.followerAge a.2))))

/-- The trains other than slot `i` that may follow at `p` (R70). -/
def followers (s : State) (i p : Nat) : List (Nat × Train) :=
  s.liveTrains.filter fun e => e.1 != i && e.2.state != .awaiting && e.2.position.isSome && decide (1 ≤ s.dist (placeOf e.2) p)

/-- The follower of slot `i` at `p` (R70). -/
def follower (s : State) (i p : Nat) : Option (Nat × Train) := firstBest (s.nearer p) (s.followers i p)

/-! ### Stage 4: the follower's arrival (R71) -/

/-- The arrival of a train at the successor of its position (R71). -/
def firstLeg (s : State) (t : Train) : Nat :=
  let run : Int := (s.vals (placeOf t)).run
  match t.state with
  | .running | .overdue => t.predicted.getD s.lineTime
  | .released => later s.lineTime run
  | .dwelling | .held | .waiting | .awaiting =>
    let d := t.depTime.getD s.lineTime
    later (if diff s.lineTime d ≤ 0 then s.lineTime else d) run

/-- D0 plus run time of the `n` platforms from `q` on (R51, R71). -/
def legTime (s : State) (q n : Nat) : Nat :=
  ((List.range n).map fun j => (s.vals ((q + j) % s.ringSize)).d0 + (s.vals ((q + j) % s.ringSize)).run).sum

/-- The predicted arrival of a follower at `p` (R71). -/
def followerArrival (s : State) (t : Train) (p : Nat) : Nat :=
  later (s.firstLeg t) (s.legTime (s.next (placeOf t)) (s.dist (placeOf t) p - 1))

/-- hb of slot `i` at `p` for an arrival at `a` (R71). -/
def backwardGap (s : State) (i p a : Nat) : Int :=
  match s.follower i p with
  | some e => diff a (s.followerArrival e.2 p)
  | none => (s.vals p).headway

/-! ### The results -/

/-- The dwell, the saturated flag and the clamp note of an arrival (R67 to R76). -/
def dwellOf (s : State) (i p a : Nat) (lateness : Int) : Int × Bool × ClampNote :=
  let v := s.vals p
  let acc := accumulate v (headwayError (s.backwardGap i p a) (s.forwardGap p a)) (scheduleError lateness) (s.delayAt p)
  let d := clampDwell v (scaleDwell acc.1)
  (d.1, acc.2, d.2)

/-- The train in slot `i` begins its dwell at `p` with a departure time and a dwell note; DWELL is queued unless it is a
waiter whose occupant is RELEASED (R65, R66, R81). -/
def beginDwell (s : State) (i depTime : Nat) (saturated : Bool) (note : ClampNote) : State :=
  let u := s.modTrain i fun t =>
    { t with depTime := some depTime, saturated := saturated, clamp := note, depDl := some (s.departureDeadline depTime),
             state := .dwelling }
  match s.train? i with
  | some t => u.issueForTrain t (.dwell depTime)
  | none => u

/-- The regulation computation at an arrival (R67, R76). -/
def regulate (s : State) (i p a : Nat) (lateness : Int) : State :=
  let d := s.dwellOf i p a lateness
  s.beginDwell i (later a d.1) d.2.1 d.2.2

/-- The departure time of the origin rule (R64). -/
def originDeparture (s : State) (p t tripStart : Nat) : Nat :=
  let m := later t (s.vals p).dmin
  if 0 < diff m tripStart then tripStart else m

/-- The scheduled arrival of a train that waits to start its trip (R45). -/
def originArrival (s : State) (origin tripStart : Nat) : Nat := later tripStart (-((s.vals origin).d0 : Int))

end State

end Sys2Proof.Machine
end

