-- ==== Sys2Proof/Machine/Passages.lean ====
section
/-! DEFINITION. The Passage Tracker (03): occupants and waiters, accepted arrivals and departures, and the retirement of
a train. -/

namespace Sys2Proof.Machine

open Sys2Proof

namespace State

/-- The live train that carries a vehicle identity (R45, R49). -/
def trainByVehicle (s : State) (v : Nat) : Option (Nat × Train) := s.liveTrains.find? fun e => e.2.vehicle == v

/-! ### Occupants and waiters (R52, R53) -/

/-- A waiter at a platform (R52). -/
def waitsAt (t : Train) (p : Nat) : Bool := t.state.atPlatform && t.position == some p && t.holds.conflict

/-- The waiters at a platform other than slot `i`, in train-list order. -/
def waiters (s : State) (i p : Nat) : List (Nat × Train) := s.liveTrains.filter fun e => e.1 != i && waitsAt e.2 p

/-- The occupant rule for slot `i` arriving at `p` (R52). -/
def occupy (s : State) (i p : Nat) : State :=
  match (s.platform p).occupant with
  | none => s.modPlatform p fun x => { x with occupant := some (s.handle i) }
  | some _ => (s.modTrain i fun t => { t with holds := { t.holds with conflict := true } }).autoRaise .platformConflict (.platform p) 5

/-- Slot `i` is the occupant of `p`. -/
def isOccupant (s : State) (i p : Nat) : Bool := (s.platform p).occupant == some (s.handle i)

/-- The occupant of `p`, slot `i`, leaves: the waiter that arrived earliest becomes the occupant and loses CONFLICT
(R53); left with no reason, it takes its hold-removal check at the end of the event (R80). Whether there was one is answered. -/
def promote (s : State) (i p : Nat) : State × Bool :=
  match firstBest (fun a b => decide (diff (b.2.lastArr.getD s.lineTime) s.lineTime < diff (a.2.lastArr.getD s.lineTime) s.lineTime))
      (s.waiters i p) with
  | none => (s.modPlatform p fun x => { x with occupant := none }, false)
  | some w =>
    ((s.modPlatform p fun x => { x with occupant := some (s.handle w.1) }).modTrain w.1 fun t =>
      { t with holds := { t.holds with conflict := false } }, true)

/-- The cause of PLATFORM CONFLICT at `p` ends if a waiter has just stopped being one and none but slot `i` is left (R52). -/
def judgeConflict (s : State) (i p : Nat) (stopped : Bool) : State :=
  if stopped && (s.waiters i p).isEmpty then s.endCause .platformConflict (.platform p) else s

/-! ### Arrivals (R50, R51) -/

/-- An ARRIVE of an AWAITING train at its origin (R50, R64). -/
def arriveAtOrigin (s : State) (i : Nat) (t : Train) (a : Nat) (clamped : Bool) : State :=
  let p := t.origin
  let sched := s.originArrival p t.tripStart
  let u := s.modTrain i fun t =>
    { t with position := some p, lastArr := some a, schedArr := sched, lateness := diff sched a, skip := 0, approached := false,
             timeClamped := clamped }
  (u.occupy i p).beginDwell i (s.originDeparture p a t.tripStart) false .unclamped

/-- A running train may arrive at `p`: at most three platforms are skipped, none of them a terminus, and `p` is not the
position (R51). -/
def mayArrive (s : State) (t : Train) (p : Nat) : Bool :=
  let e := s.next (placeOf t)
  let k := s.dist e p
  decide (k ≤ 3) && k != s.ringSize - 1
    && !((List.range k).any fun j => (s.platformCfg ((e + j) % s.ringSize)).terminus)

/-- An accepted ARRIVE of a running train at `p` (R51). In step 4 the cause of TRAIN OVERDUE ends before that of UNAUTHORISED
DEPARTURE (log 36). -/
def arriveRunning (s : State) (i : Nat) (t : Train) (p a : Nat) (clamped : Bool) : State :=
  let e := s.next (placeOf t)
  let k := s.dist e p
  let sched := later t.schedArr (s.legTime e k)
  let lateness := diff sched a
  let s1 := serveChanged s (s.dropLeaseOf i)
  let s2 := s1.modSect (s.runSectionOf t) fun x => { x with occupants := x.occupants - 1 }
  let s3 := s2.modTrain i fun t =>
    { t with position := some p, lastArr := some a, schedArr := sched, lateness := lateness, skip := k, predicted := none,
             overdueDl := none, approachDl := none, approached := false, timeClamped := clamped }
  let s4 := (s3.endCause .trainOverdue (.train (s.handle i))).endCause .unauthorised (.train (s.handle i))
  (s4.occupy i p).regulate i p a lateness

/-! ### Departures (R54, R55, R56) -/

/-- The overdue deadline of a predicted arrival (R54 step 5). -/
def overdueDeadline (s : State) (predicted : Nat) : Nat :=
  let d := later predicted s.line.overdueMargin
  if diff s.lineTime d ≤ 0 then s.lineTime else d

/-- Steps 1 to 8 of an accepted departure from `p` at `a` (R54). -/
def departFrom (s : State) (i : Nat) (t : Train) (p a : Nat) (clamped : Bool) : State :=
  let s1 := s.modPlatform p fun x => { x with lastDep := some a }
  let pr := if s1.isOccupant i p then s1.promote i p else (s1, false)
  let v := s.vals p
  let predicted := later a v.run
  let s2 := pr.1.modTrain i fun t =>
    { t with lastDep := some a, holds := t.holds.afterDeparture, depTime := none, depDl := none, permitReq := none,
             schedArr := later t.schedArr ((v.d0 + v.run : Nat) : Int), predicted := some predicted,
             overdueDl := some (s.overdueDeadline predicted), timeClamped := clamped, state := .running }
  let s3 := s2.modSect (s.runSectionOf t) fun x => { x with occupants := x.occupants + 1 }
  (s3.judgeConflict i p (pr.2 || waitsAt t p)).approachCheck i (s.next p)

/-- An accepted DEPART (R55, R56). -/
def departTrain (s : State) (i : Nat) (t : Train) (p a : Nat) (clamped : Bool) : State :=
  let s1 := if t.state = .waiting then serveChanged s (s.dropEntries (s.handle i)) else s
  let s2 := s1.departFrom i t p a clamped
  if t.state = .released then s2 else s2.autoRaise .unauthorised (.train (s.handle i)) 5

/-! ### Retirement of a train (R59, R60, R61) -/

/-- A retiring train leaves the train list, after the effects of R60 and R61 and before its slot is freed (R30). -/
def unlist (s : State) (i : Nat) : State := s.modPool fun q => { q with trains := q.trains.erase i }

/-- The effects of a train's retirement on the gate and the ring: its queue entry and its lease end, the queues that changed are
served, and it leaves its section or its platform (R60). -/
def retireFromGate (s : State) (i : Nat) (t : Train) : State :=
  let p := placeOf t
  let s1 := serveChanged s ((s.dropEntries (s.handle i)).dropLeaseOf i)
  if t.state.isRunning then s1.modSect (s.runSectionOf t) fun x => { x with occupants := x.occupants - 1 }
  else if t.state.atPlatform then
    let pr := if s1.isOccupant i p then s1.promote i p else (s1, false)
    pr.1.judgeConflict i p (pr.2 || waitsAt t p)
  else s1

/-- The effects of a train's retirement on other records and on its indicator (R61; log 26, log 36). -/
def retireFromRecords (s : State) (i : Nat) (t : Train) (wasOccupant : Bool) : State :=
  let h := s.handle i
  let s1 := s.retireAnns fun a => a.origin == .approach && a.train == some h
  let s2 := s1.mapAnns fun a => if a.train = some h then { a with train := none } else a
  let s3 := (s2.endCause .trainOverdue (.train h)).endCause .unauthorised (.train h)
  let s4 := if t.saved then s3.modControl fun c => { c with saves := c.saves.filter fun e => e.train != h } else s3
  if t.state.atPlatform && wasOccupant then s4.issueIndicator (placeOf t) .clearIndicator else s4

/-- A train is retired (R60, R61, R30). Where a restriction that ends inside takes its own last reason out, it is gone by the end
of the event and takes no hold-removal check (R80; log 15). -/
def retireTrain (s : State) (i : Nat) (t : Train) : State :=
  (((s.retireFromGate i t).retireFromRecords i t (s.isOccupant i (placeOf t))).unlist i).release i

end State

end Sys2Proof.Machine
end

