-- ==== Sys2Proof/Machine/Supply.lean ====
section
/-! DEFINITION. The Supply Monitor (05): breaker operations, fault counters, lockout and recovery, and the moves of
sections and queued requests when a substation changes. -/

namespace Sys2Proof.Machine

open Sys2Proof

/-! ### Moved requests (R115) -/

/-- The age of an entry (R115). -/
def Entry.age (now : Nat) (e : Entry) : Nat := (((now : Int) - e.req) % Config.day).toNat

/-- The moved entries merged into a queue by their heads; the entry already there stands first on equal ages (R115).
`fuel` bounds the number of entries. -/
def mergeEntries (now : Nat) : Nat → List Entry → List Entry → List Entry
  | 0, moved, there => there ++ moved
  | _ + 1, [], there => there
  | _ + 1, moved, [] => moved
  | fuel + 1, m :: ms, t :: ts =>
    if t.age now < m.age now then m :: mergeEntries now fuel ms (t :: ts) else t :: mergeEntries now fuel (m :: ms) ts

/-- The position an operation orders (R91). -/
def BreakerOp.position : BreakerOp → Position
  | .opening => .opened
  | .closing => .closed

/-- The reported breaker after a report (R86). -/
def reportedOf : Position → Reported
  | .opened => .opened
  | .closed => .closed

/-- The report completes the operation in flight (R86, R91). -/
def Sect.completes (x : Sect) (pos : Position) : Bool :=
  match x.op with
  | some (op, _) => op.position == pos
  | none => false

/-- The report is a trip (R86). -/
def Sect.trips (x : Sect) (pos : Position) : Bool := pos == .opened && x.breaker == .closed && !x.completes pos

namespace State

/-! ### Breaker operations (R90) -/

/-- A breaker operation is issued with a deadline of now + 50; it replaces the one in flight (R90). -/
def issueOperation (s : State) (i : Nat) (op : BreakerOp) : State :=
  (s.modSect i fun x => { x with op := some (op, later s.lineTime Config.operationLimit) }).issueBreaker i
    (match op with | .opening => .breakerOpen | .closing => .breakerClose)

/-! ### Supply before and after (R84) -/

def lostSupply (before s : State) (i : Nat) : Bool := before.supplied i && !s.supplied i

def gainedSupply (before s : State) (i : Nat) : Bool := !before.supplied i && s.supplied i

/-- The entries of the queue of `g` for section `i` are merged into the queue of `r` (R115). -/
def moveRequests (s : State) (i g r : Nat) : State :=
  let goes := fun e : Entry => match s.train? e.train.slot with
    | some t => s.runSectionOf t == i
    | none => false
  let moved := (s.substation g).queue.filter goes
  let t := s.modSubstation g fun b => { b with queue := b.queue.filter fun e => !goes e }
  t.modSubstation r fun b => { b with queue := mergeEntries s.lineTime (moved.length + b.queue.length) moved b.queue }

/-- The requests of one section follow its supplier from one substation to another (R98, R99). -/
def followSupplier (before s : State) (i : Nat) : State :=
  match before.supplier i, s.supplier i with
  | some g, some r => if g = r then s else s.moveRequests i g r
  | _, _ => s

/-- Steps 2 to 4 of R84, up to the checks of step 4: withdrawals, moves, the service of the queues that changed, and NO SUPPLY taken
out of the trains of sections that regained supply. `before` is the part before the event. -/
def supplyWork (before s : State) : State :=
  let w := s.withdrawWhere (fun t => lostSupply before s (s.runSectionOf t)) fun h => { h with noSupply := true }
  let m := (List.range s.tables.header.sections).foldl (fun t i => followSupplier before t i) w
  (serveChanged before m).takeOutWhere (fun t => gainedSupply before s (s.runSectionOf t)) HoldSet.noSupply
    fun h => { h with noSupply := false }

/-- The hold-removal checks of step 4 and the incidents of step 5 (R84), from the part `before` the event. The checks read the HOLDs
that step 5 leaves in force (R80), so a RESTRICTION that step 5 ends is taken out ahead of it, and all the trains that the event
frees are checked together in step 4 (log 18). -/
def thenIncidents (before s : State) (incidents : State → State) : State :=
  let held := (incidents s).held
  incidents (checkFreed held before (takeRestriction s s held))

/-! ### The fault counter, lockout and relapse (R87, R88, R89) -/

/-- The leases of trains whose platform runs into section `i` end (R88 step 3). -/
def dropLeasesInto (s : State) (i : Nat) : State :=
  (s.liveTrains.filter fun e => e.2.lease.isSome && s.runSectionOf e.2 == i).foldl (fun t e => t.dropLeaseOf e.1) s

/-- Steps 1 to 3 of a lockout (R88). -/
def lockOut (s : State) (i : Nat) : State :=
  ((s.modSect i fun x => { x with counter := Config.counterMax, state := .lockedOut, recovery := 0 }).issueOperation i .opening).dropLeasesInto i

/-- An increment of the fault counter: past 255 it locks the section out (R87). -/
def addFault (s : State) (i n : Nat) : State :=
  let x := s.sect i
  if x.state = .lockedOut then s
  else if x.counter + n ≤ Config.counterMax then s.modSect i fun x => { x with counter := x.counter + n }
  else s.lockOut i

/-- A HEALTHY report takes 1 from the counter (R87). -/
def easeFault (s : State) (i : Nat) : State := s.modSect i fun x => { x with counter := x.counter - 1 }

/-- A relapse of a RECOVERING section (R89). -/
def relapse (s : State) (i : Nat) : State :=
  (s.modSect i fun x => { x with state := .lockedOut, counter := Config.counterMax, recovery := 0 }).issueOperation i .opening

/-! ### FEEDER reports (R86, R87, R89, R91) -/

/-- The state a completed operation leaves (R91). -/
def completedState (s : State) (i : Nat) : SectState :=
  match (s.sect i).op, (s.sect i).state with
  | some (.opening, _), .isolating => .isolated
  | some (.closing, _), .energising => s.fedState i
  | _, st => st

/-- The breaker part: a completion, and the reported breaker (R86, R91). -/
def breakerPart (s : State) (i : Nat) (pos : Position) : State :=
  let t := if (s.sect i).completes pos then s.modSect i fun x => { x with op := none, state := s.completedState i } else s
  t.modSect i fun x => { x with breaker := reportedOf pos }

/-- The supply-class part outside RECOVERING (R87). -/
def classPart (s : State) (i : Nat) (cls : SupplyClass) (pos : Position) : State :=
  if (s.sect i).state = .lockedOut then s
  else match cls with
    | .healthy => s.easeFault i
    | .low => s.addFault i 1
    | .absent => if pos = .closed ∧ (s.supplier i).isSome then s.addFault i 1 else s

/-- Recovery ends with success (R89). -/
def recoverySuccess (s : State) (i : Nat) : State :=
  s.modSect i fun x => { x with counter := 0, recovery := Config.recoveryLength, state := s.fedState i }

/-- A report taken in RECOVERING after its breaker part; `trip` says that part was a trip (R89). -/
def recoveryPart (s : State) (i : Nat) (cls : SupplyClass) (pos : Position) (trip : Bool) : State :=
  if cls ≠ .healthy ∨ trip = true then s.relapse i
  else
    let t := s.easeFault i
    if pos = .closed ∧ (s.supplier i).isSome then
      let u := t.modSect i fun x => { x with recovery := x.recovery + 1 }
      if Config.recoveryLength ≤ (u.sect i).recovery then u.recoverySuccess i else u
    else t

/-- SECTION LOCKOUT at a section that was `before` the event (R88 step 5, R89, R102): raised at a lockout, and at a
return from RECOVERING when none is active or owed; its cause ends when the section leaves LOCKED OUT and RECOVERING. -/
def judgeLockout (s : State) (before : Sect) (i : Nat) : State :=
  match before.state, (s.sect i).state with
  | .lockedOut, .lockedOut | .lockedOut, .recovering | .recovering, .recovering => s
  | .recovering, .lockedOut =>
    if (s.activeAt .sectionLockout (.sect i)).isNone && (s.owed .sectionLockout (.sect i)).isNone then
      s.autoRaise .sectionLockout (.sect i) 6
    else s
  | _, .lockedOut => s.autoRaise .sectionLockout (.sect i) 6
  | .lockedOut, _ | .recovering, _ => s.endCause .sectionLockout (.sect i)
  | _, _ => s

/-- A FEEDER report for section `i` (R86 to R91), up to the end-of-event work. -/
def takeFeeder (s : State) (i : Nat) (cls : SupplyClass) (pos : Position) : State :=
  let before := s.sect i
  let t := s.breakerPart i pos
  let trip := before.trips pos
  let u := if before.state = .recovering then t.recoveryPart i cls pos trip
    else (if trip then t.addFault i 8 else t).classPart i cls pos
  (thenIncidents s (supplyWork s u) fun v =>
    (if before.completes pos then v.endCause .breakerFailure (.sect i) else v).judgeLockout before i).latchWarning before i

/-! ### The expiry of an operation (R92) -/

/-- Step 1: the operation is removed and the state returns (R92). -/
def abandonOperation (s : State) (i : Nat) : State :=
  let t := s.modSect i fun x => { x with op := none }
  match (s.sect i).state with
  | .isolating => t.modSect i fun x => { x with state := t.fedState i }
  | .energising => t.modSect i fun x => { x with state := .isolated }
  | .recovering => t.relapse i
  | .energised | .onFallback | .dead | .isolated | .lockedOut => t

/-- The expiry of the operation in flight (R92), up to the end-of-event work. -/
def expireOperation (s : State) (i : Nat) : State :=
  let before := s.sect i
  (thenIncidents s (supplyWork s ((s.abandonOperation i).addFault i 8)) fun t =>
    (t.judgeLockout before i).autoRaise .breakerFailure (.sect i) 5).latchWarning before i

/-! ### Requests on sections (R93, R94, R95, R96) -/

/-- An accepted ISOLATE (R93). -/
def isolateSect (s : State) (i : Nat) : State :=
  let before := s.sect i
  let t := s.modSect i fun x =>
    { x with state := .isolating, recovery := if x.state = .recovering then 0 else x.recovery }
  thenIncidents s (supplyWork s (t.issueOperation i .opening)) fun u => u.judgeLockout before i

/-- An accepted ENERGISE (R94). -/
def energiseSect (s : State) (i : Nat) : State :=
  (s.modSect i fun x => { x with state := .energising }).issueOperation i .closing

/-- An accepted RESTORE (R95). -/
def restoreSect (s : State) (i : Nat) : State :=
  (s.modSect i fun x => { x with state := .recovering, recovery := 0 }).issueOperation i .closing

/-- SET WARNING LEVEL (R96). -/
def setWarning (s : State) (i level : Nat) : State :=
  (s.modSect i fun x => { x with warning := level }).latchWarning (s.sect i) i

/-! ### SUBSTATION reports (R98, R99, R101) -/

/-- The new state of a section when substation `k` has just gone DOWN, if it moves (R98). -/
def stateOnDown (s : State) (k i : Nat) : Option SectState :=
  let c := s.sectCfg i
  let x := s.sect i
  if c.primary = k ∧ (x.state = .energised ∨ x.state = .recovering) then some (if s.fallbackUp i then .onFallback else .dead)
  else if c.fallback = some k ∧ x.state = .onFallback then some .dead
  else none

/-- The new state of a section when substation `k` has just come UP, if it moves (R99). -/
def stateOnUp (s : State) (k i : Nat) : Option SectState :=
  let c := s.sectCfg i
  let x := s.sect i
  if c.primary = k ∧ (x.state = .onFallback ∨ x.state = .dead) then some .energised
  else if c.fallback = some k ∧ x.state = .dead ∧ s.up c.primary = false then some .onFallback
  else none

/-- A section takes the state a substation report gives it; a recovery it ends loses its count (R98). -/
def moveSect (s : State) (i : Nat) (st : Option SectState) : State :=
  match st with
  | some st => s.modSect i fun x => { x with state := st, recovery := if x.state = .recovering then 0 else x.recovery }
  | none => s

/-- Substation `k` goes DOWN or UP and the sections are taken in ascending index (R98, R99). -/
def moveSects (s : State) (k : Nat) (up : Bool) : State :=
  (List.range s.tables.header.sections).foldl
    (fun t i => t.moveSect i (if up then t.stateOnUp k i else t.stateOnDown k i))
    (s.modSubstation k fun b => { b with up := up })

/-- A section went DEAD between two moments (R101). -/
def anyWentDead (before s : State) : Bool :=
  (List.range s.tables.header.sections).any fun i => (s.sect i).state == .dead && (before.sect i).state != .dead

/-- SECTION LOCKOUT is judged at every section, ascending (R98, R102). -/
def judgeLockouts (before s : State) : State :=
  (List.range s.tables.header.sections).foldl (fun t i => t.judgeLockout (before.sect i) i) s

/-- A SUBSTATION report (R98, R99, R101), up to the end-of-event work; a report of the state the substation is in
changes nothing. -/
def takeSubstation (s : State) (k : Nat) (up : Bool) : State :=
  if s.up k = up then s
  else
    let t := s.moveSects k up
    thenIncidents s (supplyWork s t) fun v =>
      let u := judgeLockouts s v
      if up then u.endCause .supplyTransfer (.substation k)
      else u.autoRaise .supplyTransfer (.substation k) (if anyWentDead s t then 6 else 4)

end State

end Sys2Proof.Machine
end

