-- ==== Sys2Proof/Machine/Expiries.lean ====
section
/-! DEFINITION. The ten expiries (R10): each takes a deadline that its event reaches, while OPERATING. A command for a deadline
that is absent or that line time does not have changes nothing (log 10). Then the passage of line time, which takes every
deadline it reaches (R10, R12; log 11). -/

namespace Sys2Proof.Machine

open Sys2Proof

/-- The deadlines an event reaches. -/
abbrev Reach := Nat → Bool

namespace State

/-- The deadlines that line time has reached (R10). -/
def dueNow (s : State) : Reach := reached s.lineTime

/-- The event of an expiry, where its deadline is reached and the part is OPERATING (R10). -/
def expire (s : State) (isDue : Bool) (event : State) : State :=
  if s.part == .operating && isDue then endEvent s event else s

/-! ### Which deadline is due -/

def trainDue (s : State) (due : Reach) (i : Nat) (inState : TrainState → Bool) (dl : Train → Option Nat) : Bool :=
  match s.train? i with
  | some t => inState t.state && (dl t).any due
  | none => false

def waitDue (s : State) (due : Reach) (k : Nat) (h : Handle) : Bool :=
  (s.substation k).queue.any fun e => e.train == h && e.waitDl.any due

def leaseDue (s : State) (due : Reach) (k : Nat) (h : Handle) : Bool :=
  (s.substation k).leases.any fun l => l.train == h && due l.expiry

def operationDue (s : State) (due : Reach) (i : Nat) : Bool := (s.sect i).op.any fun o => due o.2

def escalationDue (s : State) (due : Reach) (i : Nat) : Bool :=
  match s.incident? i with
  | some c => c.state == .raised && c.escDl.any due
  | none => false

def restDue (s : State) (due : Reach) (i : Nat) : Bool :=
  match s.ann? i with
  | some a => a.state == .resting && a.restDl.any due
  | none => false

def playerDue (s : State) (due : Reach) (p : Nat) (x : PlayerState) : Bool :=
  (s.platform p).player == x && (s.platform p).playerDl.any due

/-! ### What an expiry does -/

/-- A running train goes OVERDUE (R57). -/
def goOverdue (s : State) (i : Nat) : State :=
  (s.modTrain i fun t => { t with state := .overdue, overdueDl := none }).autoRaise .trainOverdue (.train (s.handle i)) 3

/-- The approach announcement of a train for the successor of its position (R159). -/
def approachNow (s : State) (i : Nat) : State :=
  match s.train? i with
  | some t => s.announceApproach i (s.next (placeOf t))
  | none => s

/-- The wait deadline of an entry is removed and POWER DELAY is raised at the substation (R118). -/
def waitExpired (s : State) (k : Nat) (h : Handle) : State :=
  (s.modSubstation k fun b => { b with queue := b.queue.map fun e => if e.train = h then { e with waitDl := none } else e }).autoRaise
    .powerDelay (.substation k) 3

/-- A lease ends and the queue of the substation that granted it is served (R109, R110). -/
def leaseExpired (s : State) (k : Nat) (h : Handle) : State := serveChanged s (s.dropLease k h)

/-- An unacknowledged incident rises by one (R128). -/
def escalate (s : State) (i : Nat) : State := s.changeSeverity i (s.severityAt i + 1)

/-- A player whose stop deadline has passed goes OFFLINE (R154). -/
def stopLost (s : State) (p : Nat) : State := (s.quietPlayer p .offline).latch .playerOffline

/-! ### The expiries -/

/-- The departure deadline of a DWELLING train (R77). -/
def takeDeparture (due : Reach) (s : State) (i : Nat) : State :=
  s.expire (s.trainDue due i (· == .dwelling) Train.depDl) (s.scheduleCheck i)

/-- The overdue deadline of a RUNNING train (R57). -/
def takeOverdue (due : Reach) (s : State) (i : Nat) : State :=
  s.expire (s.trainDue due i (· == .running) Train.overdueDl) (s.goOverdue i)

/-- The approach deadline of a running train (R159). -/
def takeApproach (due : Reach) (s : State) (i : Nat) : State :=
  s.expire (s.trainDue due i TrainState.isRunning Train.approachDl) (s.approachNow i)

/-- The wait deadline of a queue entry (R118). -/
def takeWait (due : Reach) (s : State) (k : Nat) (h : Handle) : State := s.expire (s.waitDue due k h) (s.waitExpired k h)

/-- The expiry of a lease (R110). -/
def takeLease (due : Reach) (s : State) (k : Nat) (h : Handle) : State := s.expire (s.leaseDue due k h) (s.leaseExpired k h)

/-- The deadline of a breaker operation (R92). -/
def takeOperation (due : Reach) (s : State) (i : Nat) : State := s.expire (s.operationDue due i) (s.expireOperation i)

/-- The escalation deadline of an incident (R128). -/
def takeEscalation (due : Reach) (s : State) (i : Nat) : State := s.expire (s.escalationDue due i) (s.escalate i)

/-- The rest deadline of an announcement (R152). -/
def takeRest (due : Reach) (s : State) (i : Nat) : State := s.expire (s.restDue due i) (s.endRest i)

/-- The start deadline of a CUED player (R153). -/
def takeStart (due : Reach) (s : State) (p : Nat) : State := s.expire (s.playerDue due p .cued) (s.playerLost p)

/-- The stop deadline of a STOPPING player (R154). -/
def takeStop (due : Reach) (s : State) (p : Nat) : State := s.expire (s.playerDue due p .stopping) (s.stopLost p)

/-! ### The passage of line time (R10, R12) -/

/-- Trains in list order. -/
def dueTrains (due : Reach) (s : State) : State :=
  s.pool.trains.foldl (fun t i => ((t.takeDeparture due i).takeOverdue due i).takeApproach due i) s

/-- Queue entries, by substation and in queue order. -/
def dueWaits (due : Reach) (s : State) : State :=
  substationIndices.foldl (fun t k => (t.substation k).queue.foldl (fun u e => u.takeWait due k e.train) t) s

/-- Leases, by substation and in grant order. -/
def dueLeases (due : Reach) (s : State) : State :=
  substationIndices.foldl (fun t k => (t.substation k).leases.foldl (fun u l => u.takeLease due k l.train) t) s

/-- Breaker operations, by section. -/
def dueOperations (due : Reach) (s : State) : State := (List.range Config.sectionEntries).foldl (takeOperation due) s

/-- Incidents in list order. -/
def dueEscalations (due : Reach) (s : State) : State := s.pool.incidents.foldl (takeEscalation due) s

/-- Announcements, by platform and in queue order. -/
def dueRests (due : Reach) (s : State) : State := s.pool.queues.flatten.foldl (takeRest due) s

/-- Players, by platform. -/
def duePlayers (due : Reach) (s : State) : State :=
  (List.range Config.platformEntries).foldl (fun t p => (t.takeStart due p).takeStop due p) s

/-- Every deadline that is reached expires, each in an event of its own (R10); the order is log 11's. -/
def takeDue (due : Reach) (s : State) : State :=
  ((((((s.dueTrains due).dueWaits due).dueLeases due).dueOperations due).dueEscalations due).dueRests due).duePlayers due

/-- One tenth passes. A deadline that line time has reached is taken at the latest before line time leaves it (R10; log 11). -/
def tick (s : State) : State := (s.takeDue s.dueNow).setTime ((s.lineTime + 1) % Config.day)

/-- A clamped step of ADJUST TIME (R12): the deadlines that line time has reached are taken before it, those that a positive step
passes after it, with now equal to the new line time; a step of 0 changes nothing. -/
def adjustTime (s : State) (step : Int) : State :=
  if step = 0 then s
  else ((s.takeDue s.dueNow).setTime (later s.lineTime step)).takeDue (passed s.lineTime step)

end State

/-- The departure deadline of a DWELLING train (R77). -/
def execDepartureExpiry (slot : Nat) (s : State) : Out := .next (s.takeDeparture s.dueNow slot)

/-- The overdue deadline of a RUNNING train (R57). -/
def execOverdueExpiry (slot : Nat) (s : State) : Out := .next (s.takeOverdue s.dueNow slot)

/-- The approach deadline of a running train (R159). -/
def execApproachExpiry (slot : Nat) (s : State) : Out := .next (s.takeApproach s.dueNow slot)

/-- The wait deadline of a queue entry (R118). -/
def execWaitExpiry (substation : Nat) (train : Handle) (s : State) : Out := .next (s.takeWait s.dueNow substation train)

/-- The expiry of a lease (R110). -/
def execLeaseExpiry (substation : Nat) (train : Handle) (s : State) : Out := .next (s.takeLease s.dueNow substation train)

/-- The deadline of a breaker operation (R92). -/
def execOperationExpiry (sect : Nat) (s : State) : Out := .next (s.takeOperation s.dueNow sect)

/-- The escalation deadline of an incident (R128). -/
def execEscalationExpiry (slot : Nat) (s : State) : Out := .next (s.takeEscalation s.dueNow slot)

/-- The rest deadline of an announcement (R152). -/
def execRestExpiry (slot : Nat) (s : State) : Out := .next (s.takeRest s.dueNow slot)

/-- The start deadline of a CUED player (R153). -/
def execStartExpiry (platform : Nat) (s : State) : Out := .next (s.takeStart s.dueNow platform)

/-- The stop deadline of a STOPPING player (R154). -/
def execStopExpiry (platform : Nat) (s : State) : Out := .next (s.takeStop s.dueNow platform)

end Sys2Proof.Machine
end

