-- ==== Sys2Proof/Machine/Configuration.lean ====
section
/-! DEFINITION. The Line Tables and the Line Clock (01): cold reset, the tick, SET TIME, ADJUST TIME, READ TIME, LOAD CONFIG,
START and CONFIG RELOAD. -/

namespace Sys2Proof.Machine

open Sys2Proof

def within (low high x : Nat) : Bool := decide (low ≤ x) && decide (x ≤ high)

/-! ### The checks of START (R16) -/

namespace State

def headerGood (s : State) : Bool :=
  let h := s.tables.header
  within 4 48 h.platforms && within 1 32 h.sections && within 1 12 h.substations

/-- A platform entry passes (R4). -/
def platformGood (s : State) (p : Nat) : Bool :=
  let c := s.platformCfg p
  s.sectOk c.runSection && (c.approachLead == 0 || (within 100 1800 c.approachLead && within 1 4095 c.approachCode))

/-- A section entry passes (R6). -/
def sectGood (s : State) (i : Nat) : Bool :=
  let c := s.sectCfg i
  s.substationOk c.primary && okIfGiven (fun f => s.substationOk f && f != c.primary) c.fallback && within 1 255 c.warning

/-- A pattern's platform values pass (R8). -/
def valsGood (s : State) (q p : Nat) : Bool :=
  let v := s.patternVals q p
  within 0 6000 v.d0 && within 0 6000 v.dmin && within v.dmin 6000 v.dmax && within 50 6000 v.run && within 300 6000 v.headway
    && within 0 1023 v.wh && within 0 1023 v.ws && within 50 600 v.accel

/-- A pattern's line values pass (R16); pattern 0 is not degraded. -/
def lineGood (s : State) (q : Nat) : Bool :=
  let v := s.patternLine q
  within 100 6000 v.overdueMargin && within 100 6000 v.waitLimit
    && (List.range s.tables.header.substations).all (fun k => within 1 8 (v.budgets.getD k 0))
    && (q != 0 || !v.degraded)

/-- A message entry passes (R9). -/
def messageGood (s : State) (k : Nat) : Bool :=
  let m := s.tables.messages.getD k {}
  decide (m.priority ≤ 3) && codeOk m.raiseCode && codeOk m.clearCode

/-- A route entry is none or a line (R9). -/
def routeGood (s : State) (n : Nat) : Bool := decide (s.route n ≤ 7) || s.route n == 255

/-- The entries of START's check with their results, in the order of R16: table, entry index, pass. -/
def startChecks (s : State) : List (Nat × Nat × Bool) :=
  let h := s.tables.header
  (0, 0, s.headerGood) :: (List.range h.platforms).map (fun p => (1, p, s.platformGood p))
    ++ (List.range h.sections).map (fun i => (2, i, s.sectGood i))
    ++ (List.range Config.patternEntries).flatMap (fun q => (List.range h.platforms).map fun p => (3 + q, p, s.valsGood q p))
    ++ (List.range Config.patternEntries).map (fun q => (7, q, s.lineGood q))
    ++ (List.range Config.messageEntries).map (fun k => (8, k, s.messageGood k))
    ++ (List.range Config.sourceEntries).map (fun n => (9, n, s.routeGood n))

/-- The first entry that fails (R16); where the header fails, no later entry is looked at. -/
def startFailure (s : State) : Option (Nat × Nat) :=
  if s.headerGood then (s.startChecks.find? fun e => !e.2.2).map fun e => (e.1, e.2.1) else some (0, 0)

/-! ### The work of START (R17) -/

/-- A platform record at START: the values of R5 where it is configured; owed set, player, cue and deadline in every record
(R34, R161). -/
def startPlatform (s : State) (p : Nat) (x : Platform) : Platform :=
  if s.platformOk p then {} else { x with owed := {}, player := .idle, cue := none, playerDl := none }

/-- A section record at START: the values of R6 where it is configured; owed set and operation in every record (R17, R34). -/
def startSect (s : State) (i : Nat) (x : Sect) : Sect :=
  if s.sectOk i then { warning := (s.sectCfg i).warning } else { x with owed := {}, op := none }

/-- A substation record at START: the values of R7 and the budget of pattern 0 where it is configured (R17, R105). -/
def startSubstation (s : State) (k : Nat) (x : Substation) : Substation :=
  if s.substationOk k then { budget := (s.patternLine 0).budgets.getD k 0 } else { x with owed := {} }

/-- START once every check has passed (R17). -/
def startLine (s : State) : State :=
  { s with
    part := .operating
    platforms := s.platforms.mapIdx s.startPlatform
    sects := s.sects.mapIdx s.startSect
    substations := s.substations.mapIdx s.startSubstation
    control := {} }

/-! ### Deadlines moved by SET TIME (R11) -/

def shiftTrain (d : Int) (t : Train) : Train :=
  { t with depDl := t.depDl.map (later · d), overdueDl := t.overdueDl.map (later · d), approachDl := t.approachDl.map (later · d) }

/-- Every deadline of a living record moved by `d`. -/
def shiftRec (d : Int) : Rec → Rec
  | .free => .free
  | .train t => .train (shiftTrain d t)
  | .incident c => .incident { c with escDl := c.escDl.map (later · d) }
  | .ann a => .ann { a with restDl := a.restDl.map (later · d) }

def shiftSect (d : Int) (x : Sect) : Sect := { x with op := x.op.map fun o => (o.1, later o.2 d) }

def shiftSubstation (d : Int) (b : Substation) : Substation :=
  { b with leases := b.leases.map fun l => { l with expiry := later l.expiry d },
           queue := b.queue.map fun e => { e with waitDl := e.waitDl.map (later · d) } }

def shiftPlatform (d : Int) (x : Platform) : Platform := { x with playerDl := x.playerDl.map (later · d) }

/-- Every pending deadline in every record moved by `d` (R11). -/
def shiftDeadlines (s : State) (d : Int) : State :=
  { s with
    pool := { s.pool with slots := s.pool.slots.map fun sl => { sl with record := shiftRec d sl.record } }
    platforms := s.platforms.map (shiftPlatform d)
    sects := s.sects.map (shiftSect d)
    substations := s.substations.map (shiftSubstation d) }

/-- An accepted SET TIME (R11). -/
def moveTime (s : State) (t : Nat) : State := (s.shiftDeadlines (diff s.lineTime t)).setTime t

/-- No record is live (R18). -/
def poolEmpty (s : State) : Bool := s.trainCount == 0 && s.incidentCount == 0 && s.annCount == 0

/-- The part after cold reset: the pins and the senders' queue lie outside it, and the straps are read (R19, R200; log 1). -/
def coldReset (s : State) : State :=
  { State.reset with straps := s.straps, pending := s.pending, links := { rates := s.straps } }

end State

/-- The body length of LOAD CONFIG is a whole number of entries of its table; no table above 9 fixes a length (R198, R199;
log 6). -/
def bodyLengthOk (table : Nat) (bytes : List Byte) : Bool :=
  match entryBytes table with
  | some n => bytes.length % n == 0
  | none => true

/-- The entries a LOAD CONFIG carries. -/
def entriesOf (table : Nat) (bytes : List Byte) : List (List Nat) :=
  match entryBytes table with
  | some n => chunks n bytes.length (bytes.map BitVec.toNat)
  | none => []

/-- Cold reset (R19). -/
def execColdReset (s : State) : Out := .next s.coldReset

/-- One tenth passes (R10). -/
def execLineTimeTick (s : State) : Out := .next s.tick

/-- SET TIME (R11). -/
def execSetTime (tag time : Nat) (s : State) : Out :=
  answer 27 tag (need s (s.trainCount == 0) .wrongState (need s (timeOk time) .outOfRange (done (s.moveTime time) (.time time))))

/-- ADJUST TIME (R12). -/
def execAdjustTime (tag : Nat) (step : Int) (s : State) : Out :=
  let d := clampInt (-Config.adjustLimit) Config.adjustLimit step
  answer 28 tag (done (s.adjustTime d) (.adjusted d (later s.lineTime d)))

/-- READ TIME (R10). -/
def execReadTime (tag : Nat) (s : State) : Out := answer 29 tag (done s (.clock s.lineTime s.part))

/-- LOAD CONFIG (R15, R177). -/
def execLoadConfig (tag table first : Nat) (bytes : List Byte) (s : State) : Out :=
  let es := entriesOf table bytes
  answer 30 tag (need s (bodyLengthOk table bytes) .outOfRange (if s.part = .operating then refusePart s
    else need s (decide (table ≤ 9) && !es.isEmpty && decide (first + es.length ≤ entryCount table)) .outOfRange
      (done (s.setTables (loadEntries s.tables table first es)).judgeLines .empty)))

/-- START (R16, R17). -/
def execStart (tag : Nat) (s : State) : Out :=
  answer 31 tag (if s.part = .operating then refusePart s
    else match s.startFailure with
      | some (table, entry) => ⟨s, .outOfRange, .startFailure table entry⟩
      | none => done s.startLine.judgeLines .empty)

/-- CONFIG RELOAD (R18). -/
def execConfigReload (tag : Nat) (s : State) : Out :=
  answer 32 tag (if s.part = .unconfigured then refusePart s
    else need s s.poolEmpty .wrongState (done (s.setPart .unconfigured).judgeLines .empty))

end Sys2Proof.Machine
end

