-- ==== Sys2Proof/Machine/Control.lean ====
section
/-! DEFINITION. The Control Link Interface and the Attention Unit (10), and the requests on the links (11): LINK RESTART,
READ SHADOW, READ ATTENTION, SET ATTENTION MASK, READ STATUS, and the frames that carry no request. -/

namespace Sys2Proof.Machine

open Sys2Proof

namespace State

/-! ### LINK RESTART (R197) -/

/-- Steps 1 and 2: the three interfaces are reinitialised, with the frames that wait discarded unanswered, and the queue is emptied;
the straps are read (R197, R180, R200). -/
def restartLinks (s : State) : State :=
  s.modLinks fun l => { l with controlRx := .hunting, waiting := [], fieldRx := .hunting, statusRx := .hunting, badCount := 0,
                               transmitting := none, queue := [], rates := s.straps }

/-- The targets whose shadows are replayed, in order: indicators, then breakers (R197). -/
def replayTargets : List Nat :=
  List.range Config.platformEntries ++ (List.range Config.sectionEntries).map (Config.breakerBase + ·)

def shadow (s : State) (target : Nat) : Option Directive := s.links.shadows.getD target none

/-- Step 3: every non-empty shadow, that of an index no longer configured too (R197, against R192; log 33). -/
def replayShadows (s : State) : State :=
  replayTargets.foldl (fun t n => match s.shadow n with | some d => t.issue n d | none => t) s

/-- Step 4 (R189, R197). -/
def clearLatches (s : State) : State := s.modAttention fun a => { a with latches := {} }

/-- A player with work in hand is treated as at a start-deadline expiry (R161), also where its platform is no longer configured or
no longer has a player (R197, against R192; log 33), and also while UNCONFIGURED, where R161 keeps a player left STOPPING until START
(log 40). -/
def restartPlayer (s : State) (p : Nat) : State :=
  match (s.platform p).player with
  | .cued | .playing | .stopping => s.playerLost p
  | .idle | .offline => s

/-- LINK RESTART, players in ascending index (R197; log 5). -/
def restart (s : State) : State :=
  ((List.range Config.platformEntries).foldl restartPlayer s.restartLinks.replayShadows.clearLatches).judgeLines

/-! ### Reads -/

/-- The first pending source as READ ATTENTION gives it, with the latch it would clear (R185, R186). `all` is class ALL. -/
def attentionAnswer (s : State) (all : Bool) : Option (Body × Option Latch) :=
  match if all then s.firstCaller else none with
  | some (i, c) =>
    some (.attention c.kind.number (some (s.handle i, c.severity, c.raisedTime)) (s.route c.kind.number), none)
  | none => s.firstLatch.map fun x => (.attention x.source none (s.route x.source), some x)

/-- A latch that READ ATTENTION returns is cleared and the lines follow (R186). -/
def clearReturned (s : State) (x : Option Latch) : State :=
  match x with
  | some x => (s.unlatch x).judgeLines
  | none => s

/-- What READ STATUS returns (R188). -/
def statusReport (s : State) : StatusReport :=
  { part := s.part, lineTime := s.lineTime, free := s.freeCount, trains := s.trainCount, incidents := s.incidentCount,
    announcements := s.annCount, active := s.control.active, degraded := s.control.degraded, resume := s.control.resume,
    saves := s.control.saves.length, mask := s.attention.mask, pending := s.pendingSources, lines := s.attention.lines,
    badCount := s.links.badCount, directives := s.links.queue.length }

/-- The directive queued for a target, with its position counted from the head as 1 (R195). -/
def queuedFor (target : Nat) : Nat → List (Nat × Directive) → Option (Directive × Nat)
  | _, [] => none
  | n, e :: es => if e.1 = target then some (e.2, n) else queuedFor target (n + 1) es

/-- A frame that is not taken is answered BAD FRAME with code 0 and tag 0 (R175, R176). -/
def replyBadFrame (s : State) : State := s.reply ⟨0, 0, .badFrame, .empty⟩

/-- The Control Link looks for a start mark (R175). -/
def huntControl (s : State) : State := s.modLinks fun l => { l with controlRx := .hunting }

end State

/-- The class of READ ATTENTION: ALL where none is given (R185, R199); `none` for a code outside the list. -/
def attentionClass : Option Nat → Option Bool
  | none => some true
  | some 0 => some true
  | some 1 => some false
  | some _ => none

/-- LINK RESTART (R197, R180). -/
def execLinkRestart (tag : Nat) (s : State) : Out := answer 33 tag (done s.restart .empty)

/-- READ ATTENTION (R185, R186). -/
def execReadAttention (tag : Nat) (cls : Option Nat) (s : State) : Out :=
  answer 34 tag (withValue s (attentionClass cls) fun all => match s.attentionAnswer all with
    | some (b, x) => done (s.clearReturned x) b
    | none => refuse s .notFound)

/-- SET ATTENTION MASK (R184). -/
def execSetAttentionMask (tag mask : Nat) (s : State) : Out :=
  let m := min 7 mask
  answer 35 tag (done (s.modAttention fun a => { a with mask := m }).judgeLines (.mask m))

/-- READ STATUS (R188). -/
def execReadStatus (tag : Nat) (s : State) : Out := answer 36 tag (done s (.status s.statusReport))

/-- READ SHADOW (R195). -/
def execReadShadow (tag target : Nat) (s : State) : Out :=
  answer 37 tag (need s (decide (target < Config.targetEntries)) .outOfRange
    (done s (.shadow (s.shadow target) (State.queuedFor target 1 s.links.queue))))

/-- A good frame that fails check 1 or 2 of R177. -/
def execUnknownRequestCode (code tag _bodyLength : Nat) (s : State) : Out := answer code tag (refuse s .outOfRange)

/-- A frame with a bad check or a bad length (R175); the receiver already looks for a start mark. -/
def execBadFrame (s : State) : Out := .next s.replyBadFrame

/-- A frame whose bytes stop arriving (R175): it is answered at once where no frame waits, and otherwise its BAD FRAME answer
takes its place behind the frames that completed before it (R176; log 27). -/
def execControlFrameByteGap (s : State) : Out :=
  .next (match s.links.waiting with
    | [] => s.huntControl.replyBadFrame
    | _ :: _ => s.huntControl.await .badFrame)

/-- A frame that completes while two are waiting (R176). -/
def execFrameNotKept (s : State) : Out := .next s.replyBadFrame

end Sys2Proof.Machine
end

