-- ==== Sys2Proof/Machine/IncidentRequests.lean ====
section
/-! DEFINITION. The requests on incident records (07): RAISE INCIDENT, AMEND INCIDENT, ACKNOWLEDGE and CLEAR. -/

namespace Sys2Proof.Machine

open Sys2Proof

def severityOk (x : Nat) : Bool := decide (1 ≤ x) && decide (x ≤ 7)

/-- A value that may be absent, checked where it is given: `none` where it is refused. -/
def checkGiven {α β : Type} (check : α → Option β) : Option α → Option (Option β)
  | none => some none
  | some x => (check x).map some

namespace State

/-- The record of a new operator incident (R124). -/
def operatorIncident (s : State) (severity : Nat) (loc : Option Location) (restr : Option Restriction)
    (ann : Option IncidentAnn) : Incident :=
  { kind := .operator, severity := severity, location := loc, raisedTime := s.lineTime, restriction := restr, ann := ann }

/-- Step 1 of an amendment (R136, R129): a severity the incident already holds is no change. -/
def amendSeverity (s : State) (i : Nat) (severity : Option Nat) : State :=
  match severity with
  | none => s
  | some x => if s.severityAt i = x then s else s.changeSeverity i x

/-- Step 2 (R136, R137, R138): withdrawals and service first, then the removals. A HOLD given to a POWER DELAY may so end the cause
of that very incident (R119; log 42). -/
def amendRestriction (s : State) (i : Nat) (restr : Option (Option Restriction)) : State :=
  match restr with
  | none => s
  | some r => holdsStop s (holdsBegin s (s.modIncident i fun c => { c with restriction := r }))

/-- The owed copies that an amended announcement leaves (R136, R34). -/
def owedLeft (s : State) (c : Incident) (a : Option IncidentAnn) : List Nat :=
  match a with
  | none => []
  | some a => c.owedCopies.filter fun p => (s.copyPlatforms a.coverage c.location).contains p

/-- Step 3 (R136). -/
def amendAnnouncement (s : State) (i : Nat) (ann : Option (Option IncidentAnn)) : State :=
  match ann with
  | none => s
  | some a => s.modIncident i fun c => { c with ann := a, owedCopies := s.owedLeft c a }

/-- An accepted ACKNOWLEDGE (R130). -/
def acknowledgeIncident (s : State) (i : Nat) (c : Incident) : State :=
  let t := s.modIncident i fun c => { c with ackTime := some s.lineTime, escDl := none }
  if c.causeEnded then t.enterCleared i else t.modIncident i fun c => { c with state := .acknowledged }

end State

/-- RAISE INCIDENT (R124, R125). -/
def execRaiseIncident (tag severity locKind loc : Nat) (restr : RestrictionArg) (ann : AnnouncementArg) (s : State) : Out :=
  answer 9 tag (whenOperating s (need s (severityOk severity) .outOfRange
    (withValue s (s.raiseLocation locKind loc) fun l => withValue s (s.restrictionOf restr) fun r =>
      withValue s (s.raiseAnnouncement l ann) fun a =>
        need s (decide (s.incidentCount < Config.incidentCap)) .limit (need s s.aboveReserve .noRoom
          (let u := State.endEvent s (s.createIncident (s.operatorIncident severity l r a)).1
           done u (u.recordBody s.headSlot))))))

/-- AMEND INCIDENT (R136). -/
def execAmendIncident (tag : Nat) (h : Handle) (severity : Option Nat) (restr : Option RestrictionArg)
    (ann : Option AnnouncementArg) (s : State) : Out :=
  answer 10 tag (whenOperating s (withIncident s h fun c => need s c.active .wrongState
    (need s (okIfGiven severityOk severity) .outOfRange
      (withValue s (checkGiven s.restrictionOf restr) fun r => withValue s (checkGiven s.amendedAnnouncement ann) fun a =>
        (let u := State.endEvent s (((s.amendSeverity h.slot severity).amendRestriction h.slot r).amendAnnouncement h.slot a)
         done u (u.recordBody h.slot))))))

/-- ACKNOWLEDGE (R130). -/
def execAcknowledge (tag : Nat) (h : Handle) (s : State) : Out :=
  answer 11 tag (whenOperating s (withIncident s h fun c => need s (c.state == .raised) .wrongState
    (let u := State.endEvent s (s.acknowledgeIncident h.slot c)
     done u (u.incidentStateBody h.slot))))

/-- CLEAR (R131). -/
def execClear (tag : Nat) (h : Handle) (s : State) : Out :=
  answer 12 tag (whenOperating s (withIncident s h fun c =>
    need s (c.state == .acknowledged || (c.state == .raised && decide (c.severity < 7))) .wrongState
      (done (State.endEvent s (s.enterCleared h.slot)) .empty)))

end Sys2Proof.Machine
end

