-- ==== Sys2Proof/Machine/Patterns.lean ====
section
/-! DEFINITION. Pattern Control (09): the change of the active pattern, degraded working and the save area. -/

namespace Sys2Proof.Machine

open Sys2Proof

/-- The basis of a rebase (R167): the predicted arrival of a running train, the last arrival of another. -/
def Train.basis (t : Train) (now : Nat) : Nat := (if t.state.isRunning then t.predicted else t.lastArr).getD now

/-- A lateness within the range a save entry holds (R162, R166, R171). -/
def clampLateness (x : Int) : Int := clampInt (-36000) 36000 x

namespace State

/-- The budgets of a pattern come into force at the configured substations (R117). -/
def setBudgets (s : State) (q : Nat) : State :=
  (List.range s.tables.header.substations).foldl
    (fun t k => t.modSubstation k fun b => { b with budget := (s.patternLine q).budgets.getD k 0 }) s

/-- A pattern is made active: its budgets at once, then every queue served once (R163, R117). -/
def setPattern (s : State) (q : Nat) : State := ((s.modControl fun c => { c with active := q }).setBudgets q).serveAll

/-- A train that is not AWAITING is given a save entry and rebased (R166 steps 2 and 3, R167). -/
def saveTrain (s : State) (i : Nat) (t : Train) : State :=
  (s.modControl fun c => { c with saves := c.saves ++ [⟨s.handle i, t.service, clampLateness t.lateness⟩] }).modTrain i fun t =>
    { t with saved := true, schedArr := t.basis s.lineTime, lateness := 0 }

/-- The live trains that degraded working saves, in train-list order (R166): also one that has just arrived at its origin and is
DWELLING, against the last sentence of R174 (log 37). -/
def savedTrains (s : State) : List (Nat × Train) := s.liveTrains.filter fun e => e.2.state != .awaiting

/-- Entry to degraded working from the clear flag (R166). -/
def enterFromClear (s : State) (q : Nat) : State :=
  let t := s.modControl fun c => { c with resume := c.active }
  let u := t.savedTrains.foldl (fun u e => u.saveTrain e.1 e.2) t
  (u.modControl fun c => { c with degraded := true }).setPattern q

/-- The save entry of a train (R169). -/
def saveOf (s : State) (h : Handle) : Option SaveEntry := s.control.saves.find? fun e => e.train == h

/-- A saved train is given its context back (R172 step 2). -/
def restoreTrain (s : State) (e : SaveEntry) : State :=
  s.modTrain e.train.slot fun t =>
    { t with schedArr := later (t.basis s.lineTime) (-e.lateness), lateness := e.lateness, service := e.service, saved := false }

/-- An accepted RESUME (R172). -/
def leaveDegraded (s : State) : State :=
  let t := s.setPattern s.control.resume
  (t.control.saves.foldl restoreTrain t).modControl fun c => { c with saves := [], degraded := false }

/-- A save entry is amended in its place (R171). -/
def amendSave (s : State) (h : Handle) (lateness : Option Int) (service : Option Nat) : State :=
  s.modControl fun c =>
    { c with saves := c.saves.map fun e =>
        if e.train = h then
          { e with lateness := (lateness.map clampLateness).getD e.lateness, service := service.getD e.service }
        else e }

end State

end Sys2Proof.Machine
end

