-- ==== Sys2Proof/Machine/PatternRequests.lean ====
section
/-! DEFINITION. The requests of Pattern Control (09): SELECT PATTERN, ENTER DEGRADED, RESUME, READ SAVE ENTRY and AMEND
SAVE ENTRY. -/

namespace Sys2Proof.Machine

open Sys2Proof

def patternOk (q : Nat) : Bool := decide (q < Config.patternEntries)

/-- SELECT PATTERN (R164). -/
def execSelectPattern (tag pattern : Nat) (s : State) : Out :=
  answer 22 tag (whenOperating s (need s (patternOk pattern) .outOfRange (need s (!s.control.degraded) .wrongState
    (need s (!(s.patternLine pattern).degraded) .outOfRange
      (let u := State.endEvent s (s.setPattern pattern)
       done u (.pattern u.control.active))))))

/-- ENTER DEGRADED (R166, R168). -/
def execEnterDegraded (tag pattern : Nat) (s : State) : Out :=
  answer 23 tag (whenOperating s (need s (patternOk pattern) .outOfRange
    (need s (s.patternLine pattern).degraded .outOfRange
      (let u := State.endEvent s (if s.control.degraded then s.setPattern pattern else s.enterFromClear pattern)
       done u (.degraded u.control.active u.control.degraded u.control.saves.length)))))

/-- RESUME (R172). -/
def execResume (tag : Nat) (s : State) : Out :=
  answer 24 tag (whenOperating s (need s s.control.degraded .wrongState
    (let u := State.endEvent s s.leaveDegraded
     done u (.resumed u.control.active s.control.saves.length))))

/-- READ SAVE ENTRY (R170). -/
def execReadSaveEntry (tag : Nat) (h : Handle) (s : State) : Out :=
  answer 25 tag (whenOperating s (withTrain s h fun _ => need s s.control.degraded .wrongState
    (match s.saveOf h with
     | some e => done s (.saveEntry e)
     | none => refuse s .notFound)))

/-- AMEND SAVE ENTRY (R171). -/
def execAmendSaveEntry (tag : Nat) (h : Handle) (lateness : Option Int) (service : Option Nat) (s : State) : Out :=
  answer 26 tag (whenOperating s (withTrain s h fun _ => need s s.control.degraded .wrongState
    (need s (s.saveOf h).isSome .notFound (need s (okIfGiven serviceOk service) .outOfRange
      (let u := s.amendSave h lateness service
       match u.saveOf h with
       | some e => done u (.saveEntry e)
       | none => refuse s .notFound)))))

end Sys2Proof.Machine
end

