-- ==== Sys2Proof/Machine/Players.lean ====
section
/-! DEFINITION. The Directive Link Transmitter (11): the sending of directives and the status frames of its return half. -/

namespace Sys2Proof.Machine

open Sys2Proof

namespace State

/-- The head of the directive queue is sent: it leaves the queue and becomes the shadow of its target (R193, R194). -/
def sendHead (s : State) : State :=
  match s.links.queue with
  | [] => s
  | e :: rest => s.modLinks fun l =>
      { l with queue := rest, shadows := l.shadows.set e.1 (some e.2), transmitting := some e }

/-- A status frame of a player: dropped in UNCONFIGURED; dropped with DIRECTIVE LINK latched where the platform is
unconfigured or has no player; otherwise an event of that player (R196, R14, R3). -/
def takeStatus (s : State) (p : Nat) (owner : State → State) : State :=
  if s.part = .unconfigured then s
  else if s.playerOk p then endEvent s (owner s)
  else (s.latch .directiveLink).judgeLines

/-- The return half looks for a start mark (R196). -/
def huntStatus (s : State) : State := s.modLinks fun l => { l with statusRx := .hunting }

end State

/-- The transmit half is free: the transmitter takes the head while OPERATING (R193). -/
def execDirectiveSent (s : State) : Out := .next (if s.part = .operating then s.sendHead else s)

/-- READY (R153, R154). -/
def execReady (platform : Nat) (s : State) : Out := .next (s.takeStatus platform fun t => t.playerReady platform)

/-- STARTED (R150, R154). -/
def execStarted (platform : Nat) (s : State) : Out := .next (s.takeStatus platform fun t => t.playerStarted platform)

/-- REFUSED (R153, R154). -/
def execRefused (platform : Nat) (s : State) : Out := .next (s.takeStatus platform fun t => t.playerRefused platform)

/-- ENDED (R151, R154). -/
def execEnded (platform : Nat) (s : State) : Out := .next (s.takeStatus platform fun t => t.playerEnded platform)

/-- A bad status frame is dropped; nothing is latched or counted (R196), and the receiver already looks for a start mark. -/
def execStatusFrameBad (s : State) : Out := .next s

/-- A status frame whose bytes stop arriving is dropped (R196). -/
def execStatusFrameByteGap (s : State) : Out := .next s.huntStatus

end Sys2Proof.Machine
end

