-- ==== Sys2Proof/Machine/PoolRequests.lean ====
section
/-! DEFINITION. The Record Pool's requests (02): LOOKUP, WALK, FIND TRAIN, FIND INCIDENT and RETIRE. -/

namespace Sys2Proof.Machine

open Sys2Proof

namespace State

/-- The list a WALK names, or none where the list or its platform is out of range (R39). -/
def walked (s : State) (list platform : Nat) : Option (List Nat) :=
  match list with
  | 0 => some s.pool.trains
  | 1 => some s.pool.incidents
  | 2 => if s.platformOk platform then some (s.queue platform) else none
  | _ => none

/-- The after-handle names a record on the list, or is null (R39). -/
def onList (h : Handle) (l : List Nat) : Bool := h == Handle.null || l.contains h.slot

/-- The part of a list that follows the after-handle; all of it for the null handle (R39). -/
def listAfter (h : Handle) (l : List Nat) : List Nat := if h = Handle.null then l else membersAfter h.slot l

/-- The key of FIND TRAIN lies in its range (R40). -/
def keyOk (keyKind key : Nat) : Bool :=
  match keyKind with
  | 0 => vehicleOk key
  | 1 => serviceOk key
  | _ => false

/-- The train in a slot carries the key (R40). -/
def carriesKey (s : State) (keyKind key i : Nat) : Bool :=
  match s.train? i with
  | some t => if keyKind = 0 then t.vehicle == key else t.service == key
  | none => false

/-- The incident in a slot is of a kind and at a location (R41). -/
def matchesIncident (s : State) (k : Kind) (loc : Option Location) (i : Nat) : Bool :=
  match s.incident? i with
  | some c => c.kind == k && c.location == loc
  | none => false

/-- The answer of a search or a walk: a record with its fields, or NOT FOUND (R39, R40, R41). -/
def found (s : State) (i : Option Nat) : Reply :=
  match i with
  | some i => done s (s.recordBody i)
  | none => refuse s .notFound

/-- A CLEARED incident is retired (R135, R30). -/
def retireIncident (s : State) (i : Nat) : State :=
  let h := s.handle i
  ((s.mapAnns fun a => if a.source = some h then { a with source := none } else a).unlinkIncident i).release i

/-- RETIRE of a living record, by its kind (R31). -/
def retireRecord (s : State) (i : Nat) : Reply :=
  match (s.slot i).record with
  | .free => refuse s .staleHandle
  | .train t => done (endEvent s (s.retireTrain i t)) (.retired .train)
  | .incident c =>
    need s (c.state == .cleared) .wrongState (done (endEvent s (s.retireIncident i)) (.retired .incident))
  | .ann _ => done (endEvent s (s.retireAnn i)) (.retired .announcement)

end State

/-- LOOKUP (R38). -/
def execLookup (tag : Nat) (h : Handle) (s : State) : Out :=
  answer 1 tag (whenOperating s (withCurrent s h (done s (s.recordBody h.slot))))

/-- WALK (R39). -/
def execWalk (tag list platform : Nat) (after : Handle) (s : State) : Out :=
  answer 2 tag (whenOperating s (withOptional s after (withValue s (s.walked list platform) fun l =>
    need s (State.onList after l) .wrongState (s.found (State.listAfter after l).head?))))

/-- FIND TRAIN (R40). -/
def execFindTrain (tag keyKind key : Nat) (after : Handle) (s : State) : Out :=
  answer 3 tag (whenOperating s (withOptional s after (need s (State.keyOk keyKind key) .outOfRange
    (need s (State.onList after s.pool.trains) .wrongState
      (s.found ((State.listAfter after s.pool.trains).find? (s.carriesKey keyKind key)))))))

/-- FIND INCIDENT (R41). -/
def execFindIncident (tag kind locKind loc : Nat) (after : Handle) (s : State) : Out :=
  answer 4 tag (whenOperating s (withOptional s after (withValue s (Kind.ofNumber kind) fun k =>
    withValue s (s.findLocation locKind loc) fun l =>
      need s (State.onList after s.pool.incidents) .wrongState
        (s.found ((State.listAfter after s.pool.incidents).find? (s.matchesIncident k l))))))

/-- RETIRE (R31). -/
def execRetire (tag : Nat) (h : Handle) (s : State) : Out :=
  answer 8 tag (whenOperating s (withCurrent s h (s.retireRecord h.slot)))

end Sys2Proof.Machine
end

