-- ==== Sys2Proof/Machine/Reports.lean ====
section
/-! DEFINITION. The Field Link Receiver (11, 01 R13) and the reports it hands on: ARRIVE, DEPART, FEEDER, SUBSTATION and
PLATFORM ALARM. -/

namespace Sys2Proof.Machine

open Sys2Proof

/-- The alarm severity of a report (R127). -/
def alarmSeverityOk (x : Nat) : Bool := decide (1 ≤ x) && decide (x ≤ 7)

namespace State

/-- The effective time of a report and its time-clamped mark (R13). -/
def effective (s : State) (t : Nat) : Nat × Bool :=
  let d := diff s.lineTime t
  if Config.futureWindow < d ∨ d < -Config.pastWindow then (s.lineTime, true) else (t, false)

/-- A bad frame on the Field Link (R190). -/
def badFieldFrame (s : State) : State :=
  if Config.badRun ≤ s.links.badCount + 1 then ((s.modLinks fun l => { l with badCount := 0 }).latch .fieldLink).judgeLines
  else s.modLinks fun l => { l with badCount := l.badCount + 1 }

/-- The Field Link looks for a start mark (R190). -/
def huntField (s : State) : State := s.modLinks fun l => { l with fieldRx := .hunting }

/-- A report that is dropped latches REPORT CONFLICT (R49). -/
def dropReport (s : State) : State := s.latch .reportConflict

/-- A good report frame: the count goes to 0; UNCONFIGURED drops it; an unconfigured index drops it and latches REPORT
CONFLICT; otherwise its owner takes it and the event ends (R190, R191, R14, R3). A source time outside the day is a bad
frame (R190). -/
def takeReport (s : State) (time : Nat) (indexOk : Bool) (owner : State → State) : State :=
  if timeOk time then
    let t := s.modLinks fun l => { l with badCount := 0 }
    if t.part = .unconfigured then t
    else endEvent t (if indexOk then owner t else t.dropReport)
  else s.badFieldFrame

/-- A foreign passage (R49). -/
def foreignPassage (s : State) (vehicle p t : Nat) : State :=
  (s.modPlatform p fun x => { x with lastForeign := some (vehicle, t) }).latch .foreignPassage

/-- A passage report that names a live train goes to `owner`, with the effective time and the mark (R49, R13). -/
def takePassage (s : State) (vehicle p time : Nat) (owner : State → Nat → Train → Nat → Bool → State) : State :=
  let e := s.effective time
  if vehicleOk vehicle then
    match s.trainByVehicle vehicle with
    | some (i, t) => owner s i t e.1 e.2
    | none => s.foreignPassage vehicle p e.1
  else s.dropReport

/-- An ARRIVE matched to a train (R50, R51). -/
def takeArrive (s : State) (p i : Nat) (t : Train) (a : Nat) (clamped : Bool) : State :=
  match t.state with
  | .awaiting => if p = t.origin then s.arriveAtOrigin i t a clamped else s.dropReport
  | .running | .overdue => if s.mayArrive t p then s.arriveRunning i t p a clamped else s.dropReport
  | .dwelling | .held | .waiting | .released => s.dropReport

/-- A DEPART matched to a train (R54, R55, R56). -/
def takeDepart (s : State) (p i : Nat) (t : Train) (a : Nat) (clamped : Bool) : State :=
  if t.state.atPlatform && t.position == some p then s.departTrain i t p a clamped else s.dropReport

/-- A PLATFORM ALARM report (R127). -/
def takeAlarm (s : State) (p : Nat) (on : Bool) (severity : Nat) : State :=
  if on then
    if alarmSeverityOk severity then s.autoRaise .platformAlarm (.platform p) severity else s.dropReport
  else s.endCause .platformAlarm (.platform p)

end State

/-- ARRIVE (R49 to R53). -/
def execArrive (vehicle platform time : Nat) (s : State) : Out :=
  .next (s.takeReport time (s.platformOk platform) fun t =>
    t.takePassage vehicle platform time fun u i x a c => u.takeArrive platform i x a c)

/-- DEPART (R49, R54 to R56). -/
def execDepart (vehicle platform time : Nat) (s : State) : Out :=
  .next (s.takeReport time (s.platformOk platform) fun t =>
    t.takePassage vehicle platform time fun u i x a c => u.takeDepart platform i x a c)

/-- FEEDER (R86 to R89). -/
def execFeeder (sect : Nat) (cls : SupplyClass) (breaker : Position) (time : Nat) (s : State) : Out :=
  .next (s.takeReport time (s.sectOk sect) fun t => t.takeFeeder sect cls breaker)

/-- SUBSTATION (R98, R99). -/
def execSubstation (substation : Nat) (up : Bool) (time : Nat) (s : State) : Out :=
  .next (s.takeReport time (s.substationOk substation) fun t => t.takeSubstation substation up)

/-- PLATFORM ALARM (R127). -/
def execPlatformAlarm (platform : Nat) (on : Bool) (severity time : Nat) (s : State) : Out :=
  .next (s.takeReport time (s.platformOk platform) fun t => t.takeAlarm platform on severity)

/-- A complete bad frame on the Field Link (R190); the receiver already looks for a start mark. -/
def execFieldBadFrame (s : State) : Out := .next s.badFieldFrame

/-- A Field Link frame whose bytes stop arriving is bad (R190). -/
def execFieldFrameByteGap (s : State) : Out := .next s.huntField.badFieldFrame

end Sys2Proof.Machine
end

