-- ==== Sys2Proof/Machine/SectionRequests.lean ====
section
/-! DEFINITION. The requests on platform, section and substation records (01, 05): the reads, ISOLATE, ENERGISE, RESTORE
and SET WARNING LEVEL. -/

namespace Sys2Proof.Machine

open Sys2Proof

/-- READ PLATFORM (R5). -/
def execReadPlatform (tag platform : Nat) (s : State) : Out :=
  answer 15 tag (whenOperating s (need s (s.platformOk platform) .outOfRange
    (done s (.platform (s.platformCfg platform) (s.platform platform)))))

/-- READ SECTION (R104). -/
def execReadSection (tag sect : Nat) (s : State) : Out :=
  answer 16 tag (whenOperating s (need s (s.sectOk sect) .outOfRange
    (done s (.sect (s.sectCfg sect) (s.sect sect) (s.sect sect).level (s.supplier sect) (s.supplied sect)))))

/-- READ SUBSTATION (R104, R120). -/
def execReadSubstation (tag substation : Nat) (s : State) : Out :=
  answer 17 tag (whenOperating s (need s (s.substationOk substation) .outOfRange
    (done s (.substation (s.substation substation)))))

/-- ISOLATE (R93). -/
def execIsolate (tag sect : Nat) (emergency : Bool) (s : State) : Out :=
  let x := s.sect sect
  answer 18 tag (whenOperating s (need s (s.sectOk sect) .outOfRange
    (need s (x.state != .lockedOut && x.state != .isolated && x.state != .isolating) .wrongState
      (need s x.op.isNone .busy (need s (x.occupants == 0 || emergency) .occupied
        (accepted (State.endEvent s (s.isolateSect sect))))))))

/-- ENERGISE (R94). -/
def execEnergise (tag sect : Nat) (s : State) : Out :=
  let x := s.sect sect
  answer 19 tag (whenOperating s (need s (s.sectOk sect) .outOfRange (need s (x.state == .isolated) .wrongState
    (need s x.op.isNone .busy (accepted (State.endEvent s (s.energiseSect sect)))))))

/-- RESTORE (R95). -/
def execRestore (tag sect : Nat) (s : State) : Out :=
  let x := s.sect sect
  answer 20 tag (whenOperating s (need s (s.sectOk sect) .outOfRange (need s (x.state == .lockedOut) .wrongState
    (need s x.op.isNone .busy (accepted (State.endEvent s (s.restoreSect sect)))))))

/-- SET WARNING LEVEL (R96); a level of 0 is clamped to 1. -/
def execSetWarningLevel (tag sect level : Nat) (s : State) : Out :=
  answer 21 tag (whenOperating s (need s (s.sectOk sect) .outOfRange
    (let u := State.endEvent s (s.setWarning sect (max 1 level))
     done u (.warning (u.sect sect).warning (u.sect sect).level))))

end Sys2Proof.Machine
end

