-- ==== Sys2Proof/Machine/TrainRequests.lean ====
section
/-! DEFINITION. The requests on train records (03): CREATE TRAIN, AMEND TRAIN and FORCE DEPART. -/

namespace Sys2Proof.Machine

open Sys2Proof

namespace State

/-- The record of a new train (R43, R45). -/
def newTrain (s : State) (vehicle service origin tripStart : Nat) (manual : Bool) : Train :=
  { vehicle := vehicle, service := service, origin := origin, tripStart := tripStart,
    schedArr := s.originArrival origin tripStart, holds := { manual := manual } }

/-- An accepted CREATE TRAIN: the head free slot, at the tail of the train list (R45, R24, R27). -/
def createTrain (s : State) (t : Train) : State :=
  match s.allocate (.train t) with
  | none => s
  | some (u, i) => u.modPool fun q => { q with trains := q.trains ++ [i] }

/-- The amendments of service number, origin and trip start (R46). -/
def amendFields (s : State) (i : Nat) (service origin tripStart : Option Nat) : State :=
  s.modTrain i fun t =>
    let o := origin.getD t.origin
    let b := tripStart.getD t.tripStart
    { t with service := service.getD t.service, origin := o, tripStart := b,
             schedArr := if origin.isSome || tripStart.isSome then s.originArrival o b else t.schedArr }

/-- The manual hold is set (R47). -/
def setManual (s : State) (i : Nat) : State :=
  match s.train? i with
  | none => s
  | some t =>
    if t.holds.manual then s
    else if t.state = .waiting then serveChanged s (s.withdraw i fun h => { h with manual := true })
    else s.modTrain i fun t => { t with holds := { t.holds with manual := true } }

/-- The manual hold is cleared; a HELD train left with no reason takes its check at the end of the event (R47, R80). -/
def clearManual (s : State) (i : Nat) : State :=
  match s.train? i with
  | none => s
  | some t =>
    if t.holds.manual then s.modTrain i fun t => { t with holds := { t.holds with manual := false } } else s

def amendManual (s : State) (i : Nat) (manual : Option Bool) : State :=
  match manual with
  | none => s
  | some true => s.setManual i
  | some false => s.clearManual i

/-- FORCE DEPART is accepted for a train (R48). -/
def mayForce (t : Train) : Bool :=
  t.state == .dwelling || (t.state == .held && !t.holds.restriction && !t.holds.noSupply)

/-- An accepted FORCE DEPART: the departure deadline moved to now expires at once, and a HELD train left with no reason takes its
check (R48). -/
def forceDeparture (s : State) (i : Nat) (t : Train) : State :=
  let u := s.modTrain i fun t => { t with holds := { t.holds with manual := false }, depTime := some s.lineTime }
  if t.state = .dwelling then u.scheduleCheck i
  else if (u.train? i).any reasonless then holdRemovalCheck u.held u i
  else u

end State

/-- CREATE TRAIN (R45). -/
def execCreateTrain (tag vehicle service origin tripStart : Nat) (manual : Option Bool) (s : State) : Out :=
  answer 5 tag (whenOperating s
    (need s (vehicleOk vehicle && serviceOk service && timeOk tripStart && s.originOk origin) .outOfRange
      (need s (s.trainByVehicle vehicle).isNone .wrongState
        (need s (decide (s.trainCount < Config.trainCap)) .limit
          (need s s.aboveReserve .noRoom
            (let u := State.endEvent s (s.createTrain (s.newTrain vehicle service origin tripStart (manual.getD false)))
             done u (.created (u.handle s.headSlot))))))))

/-- AMEND TRAIN (R46, R47). -/
def execAmendTrain (tag : Nat) (h : Handle) (service origin tripStart : Option Nat) (manual : Option Bool) (s : State) : Out :=
  answer 6 tag (whenOperating s (withTrain s h fun t =>
    need s (okIfGiven serviceOk service && okIfGiven timeOk tripStart && okIfGiven s.originOk origin) .outOfRange
      (need s (t.state == .awaiting || (origin.isNone && tripStart.isNone)) .wrongState
        (let u := State.endEvent s ((s.amendFields h.slot service origin tripStart).amendManual h.slot manual)
         done u (u.recordBody h.slot)))))

/-- FORCE DEPART (R48). -/
def execForceDepart (tag : Nat) (h : Handle) (s : State) : Out :=
  answer 7 tag (whenOperating s (withTrain s h fun t =>
    need s (State.mayForce t) .wrongState
      (let u := State.endEvent s (s.forceDeparture h.slot t)
       done u (u.trainStateBody h.slot))))

end Sys2Proof.Machine
end

