-- ==== Sys2Proof/Machine/Dispatch.lean ====
section
/-! DEFINITION. Every command and its meaning, one arm each. -/

namespace Sys2Proof.Machine

open Sys2Proof

def exec (i : Instr) (s : State) : Host.Outcome State Fault Refusal :=
  match i with
  | .coldReset => Sys2Proof.Machine.execColdReset s
  | .lineTimeTick => Sys2Proof.Machine.execLineTimeTick s
  | .lookup tag h => Sys2Proof.Machine.execLookup tag h s
  | .walk tag list platform after => Sys2Proof.Machine.execWalk tag list platform after s
  | .findTrain tag keyKind key after => Sys2Proof.Machine.execFindTrain tag keyKind key after s
  | .findIncident tag kind locKind loc after => Sys2Proof.Machine.execFindIncident tag kind locKind loc after s
  | .createTrain tag vehicle service origin tripStart manual => Sys2Proof.Machine.execCreateTrain tag vehicle service origin tripStart manual s
  | .amendTrain tag h service origin tripStart manual => Sys2Proof.Machine.execAmendTrain tag h service origin tripStart manual s
  | .forceDepart tag h => Sys2Proof.Machine.execForceDepart tag h s
  | .retire tag h => Sys2Proof.Machine.execRetire tag h s
  | .raiseIncident tag severity locKind loc restr ann => Sys2Proof.Machine.execRaiseIncident tag severity locKind loc restr ann s
  | .amendIncident tag h severity restr ann => Sys2Proof.Machine.execAmendIncident tag h severity restr ann s
  | .acknowledge tag h => Sys2Proof.Machine.execAcknowledge tag h s
  | .clear tag h => Sys2Proof.Machine.execClear tag h s
  | .createAnnouncement tag platform message priority train minutes mode => Sys2Proof.Machine.execCreateAnnouncement tag platform message priority train minutes mode s
  | .amendAnnouncement tag h message minutes mode => Sys2Proof.Machine.execAmendAnnouncement tag h message minutes mode s
  | .readPlatform tag platform => Sys2Proof.Machine.execReadPlatform tag platform s
  | .readSection tag sect => Sys2Proof.Machine.execReadSection tag sect s
  | .readSubstation tag substation => Sys2Proof.Machine.execReadSubstation tag substation s
  | .isolate tag sect emergency => Sys2Proof.Machine.execIsolate tag sect emergency s
  | .energise tag sect => Sys2Proof.Machine.execEnergise tag sect s
  | .restore tag sect => Sys2Proof.Machine.execRestore tag sect s
  | .setWarningLevel tag sect level => Sys2Proof.Machine.execSetWarningLevel tag sect level s
  | .selectPattern tag pattern => Sys2Proof.Machine.execSelectPattern tag pattern s
  | .enterDegraded tag pattern => Sys2Proof.Machine.execEnterDegraded tag pattern s
  | .resume tag => Sys2Proof.Machine.execResume tag s
  | .readSaveEntry tag h => Sys2Proof.Machine.execReadSaveEntry tag h s
  | .amendSaveEntry tag h lateness service => Sys2Proof.Machine.execAmendSaveEntry tag h lateness service s
  | .setTime tag time => Sys2Proof.Machine.execSetTime tag time s
  | .adjustTime tag step => Sys2Proof.Machine.execAdjustTime tag step s
  | .readTime tag => Sys2Proof.Machine.execReadTime tag s
  | .loadConfig tag table first bytes => Sys2Proof.Machine.execLoadConfig tag table first bytes s
  | .start tag => Sys2Proof.Machine.execStart tag s
  | .configReload tag => Sys2Proof.Machine.execConfigReload tag s
  | .linkRestart tag => Sys2Proof.Machine.execLinkRestart tag s
  | .readAttention tag cls => Sys2Proof.Machine.execReadAttention tag cls s
  | .setAttentionMask tag mask => Sys2Proof.Machine.execSetAttentionMask tag mask s
  | .readStatus tag => Sys2Proof.Machine.execReadStatus tag s
  | .readShadow tag target => Sys2Proof.Machine.execReadShadow tag target s
  | .unknownRequestCode code tag bodyLength => Sys2Proof.Machine.execUnknownRequestCode code tag bodyLength s
  | .badFrame => Sys2Proof.Machine.execBadFrame s
  | .controlFrameByteGap => Sys2Proof.Machine.execControlFrameByteGap s
  | .frameNotKept => Sys2Proof.Machine.execFrameNotKept s
  | .arrive vehicle platform time => Sys2Proof.Machine.execArrive vehicle platform time s
  | .depart vehicle platform time => Sys2Proof.Machine.execDepart vehicle platform time s
  | .feeder sect cls breaker time => Sys2Proof.Machine.execFeeder sect cls breaker time s
  | .substation substation up time => Sys2Proof.Machine.execSubstation substation up time s
  | .platformAlarm platform on severity time => Sys2Proof.Machine.execPlatformAlarm platform on severity time s
  | .fieldBadFrame => Sys2Proof.Machine.execFieldBadFrame s
  | .fieldFrameByteGap => Sys2Proof.Machine.execFieldFrameByteGap s
  | .directiveSent => Sys2Proof.Machine.execDirectiveSent s
  | .ready platform => Sys2Proof.Machine.execReady platform s
  | .started platform => Sys2Proof.Machine.execStarted platform s
  | .refused platform => Sys2Proof.Machine.execRefused platform s
  | .ended platform => Sys2Proof.Machine.execEnded platform s
  | .statusFrameBad => Sys2Proof.Machine.execStatusFrameBad s
  | .statusFrameByteGap => Sys2Proof.Machine.execStatusFrameByteGap s
  | .departureExpiry slot => Sys2Proof.Machine.execDepartureExpiry slot s
  | .overdueExpiry slot => Sys2Proof.Machine.execOverdueExpiry slot s
  | .approachExpiry slot => Sys2Proof.Machine.execApproachExpiry slot s
  | .waitExpiry substation train => Sys2Proof.Machine.execWaitExpiry substation train s
  | .leaseExpiry substation train => Sys2Proof.Machine.execLeaseExpiry substation train s
  | .operationExpiry sect => Sys2Proof.Machine.execOperationExpiry sect s
  | .escalationExpiry slot => Sys2Proof.Machine.execEscalationExpiry slot s
  | .restExpiry slot => Sys2Proof.Machine.execRestExpiry slot s
  | .startExpiry platform => Sys2Proof.Machine.execStartExpiry platform s
  | .stopExpiry platform => Sys2Proof.Machine.execStopExpiry platform s

end Sys2Proof.Machine
end

