-- ==== Sys2Proof/Machine/Step.lean ====
section
/-! DEFINITION. One step of the part: the command at the front of the queue is taken, then the Control Link frames
that wait; with none it idles (log 16). -/

namespace Sys2Proof.Machine

open Sys2Proof

/-- The commands are taken one at a time, in the order in which they came; with none put forward the oldest Control Link frame
that waits is taken, and with none of either the part idles (R176, R191; log 1, log 16). -/
def step (s : State) : Host.Outcome State Fault Refusal :=
  match s.pending, s.links.waiting with
  | c :: rest, _ => exec c { s with pending := rest }
  | [], c :: rest => exec c { s with links := { s.links with waiting := rest } }
  | [], [] => .next s

/-- The command a table word spells is put at the front of the queue; no row of the table gives bits, so no word spells one. -/
def State.withFetchWord (s : State) (nbits w : Nat) : State :=
  match decodeTableWord nbits w with
  | some c => { s with pending := c :: s.pending }
  | none => s

end Sys2Proof.Machine
end

