-- ==== Sys2Proof/Machine/Receivers.lean ====
section
/-! DEFINITION. The three receivers, byte by byte (R175, R190, R196): a byte moves its receiver. A frame completed on the
Control Link waits there to be taken (R176); one completed on the Field Link or the return half puts its command at the tail of
the queue (log 1). The bytes are inputs of the part, not commands. -/

namespace Sys2Proof.Machine

open Sys2Proof

/-- A command that is a good frame of the Control Link. -/
def fromControl : Instr → Bool
  | .lookup .. | .walk .. | .findTrain .. | .findIncident .. | .createTrain .. | .amendTrain .. | .forceDepart .. | .retire ..
  | .raiseIncident .. | .amendIncident .. | .acknowledge .. | .clear .. | .createAnnouncement .. | .amendAnnouncement ..
  | .readPlatform .. | .readSection .. | .readSubstation .. | .isolate .. | .energise .. | .restore .. | .setWarningLevel ..
  | .selectPattern .. | .enterDegraded .. | .resume .. | .readSaveEntry .. | .amendSaveEntry .. | .setTime .. | .adjustTime ..
  | .readTime .. | .loadConfig .. | .start .. | .configReload .. | .linkRestart .. | .readAttention .. | .setAttentionMask ..
  | .readStatus .. | .readShadow .. | .unknownRequestCode .. => true
  | .coldReset | .lineTimeTick | .badFrame | .controlFrameByteGap | .frameNotKept | .arrive .. | .depart .. | .feeder ..
  | .substation .. | .platformAlarm .. | .fieldBadFrame | .fieldFrameByteGap | .directiveSent | .ready .. | .started ..
  | .refused .. | .ended .. | .statusFrameBad | .statusFrameByteGap | .departureExpiry .. | .overdueExpiry ..
  | .approachExpiry .. | .waitExpiry .. | .leaseExpiry .. | .operationExpiry .. | .escalationExpiry .. | .restExpiry ..
  | .startExpiry .. | .stopExpiry .. => false

namespace State

/-- A command joins the tail of the queue. -/
def enqueue (s : State) (c : Instr) : State := { s with pending := s.pending ++ [c] }

/-- The requests that wait. A frame that waits for its BAD FRAME answer is not counted among the two (R176; log 34). -/
def waitingFrames (s : State) : Nat := (s.links.waiting.filter fromControl).length

/-- A completed frame waits; a good one that completes while two wait is not kept, and its answer takes its place (R176). -/
def keepFrame (s : State) (c : Instr) : State :=
  s.await (if fromControl c && decide (Config.waitingCap ≤ s.waitingFrames) then .frameNotKept else c)

/-- A byte on the Control Link (R175, R176). -/
def controlByte (s : State) (b : Byte) : State :=
  let r := receive s.links.controlRx b
  let t := s.modLinks fun l => { l with controlRx := r.1 }
  match r.2 with
  | .nothing => t
  | .badLength => t.await .badFrame
  | .frame bytes => t.keepFrame (decodeControl bytes)

/-- A byte on the Field Link (R190). -/
def fieldByte (s : State) (b : Byte) : State :=
  let r := receive s.links.fieldRx b
  let t := s.modLinks fun l => { l with fieldRx := r.1 }
  match r.2 with
  | .nothing => t
  | .badLength => t.enqueue .fieldBadFrame
  | .frame bytes => t.enqueue (decodeField bytes)

/-- A byte on the return half of the Directive Link (R196). -/
def statusByte (s : State) (b : Byte) : State :=
  let r := receive s.links.statusRx b
  let t := s.modLinks fun l => { l with statusRx := r.1 }
  match r.2 with
  | .nothing => t
  | .badLength => t.enqueue .statusFrameBad
  | .frame bytes => t.enqueue (decodeStatus bytes)

end State

end Sys2Proof.Machine
end

