-- ==== Sys2Proof/Safety.lean ====
section
/-! DEFINITION. What a safe state of the part is: the relations between its fields that the manual says always hold. -/

namespace Sys2Proof.Machine

open Sys2Proof

namespace State

/-- Line time runs 0..863,999 (R1). -/
def ClockOk (s : State) : Prop := s.lineTime < Config.day

/-- The lines are what the pending sources, the mask and the routes make them (R183). -/
def LinesJudged (s : State) : Prop := s.attention.lines = s.judgedLines

/-- The directive queue holds at most one directive for each target (R193). -/
def OnePerTarget (s : State) : Prop := (s.links.queue.map Prod.fst).Nodup

/-- The in-use count of every substation is the sum of the weights on its lease list (R100, R105). -/
def Balanced (s : State) : Prop := ∀ b ∈ s.substations, b.inUse = (b.leases.map Lease.weight).sum

/-- The tables of fixed records and shadows keep their sizes (R3, R20, R26, R192). -/
def Sized (s : State) : Prop :=
  s.pool.slots.length = Config.slotEntries ∧ s.pool.queues.length = Config.platformEntries
    ∧ s.platforms.length = Config.platformEntries ∧ s.sects.length = Config.sectionEntries
    ∧ s.substations.length = Config.substationEntries ∧ s.links.shadows.length = Config.targetEntries
    ∧ s.attention.lines.length = Config.lineEntries

/-- The bad-frame count of the Field Link stays in 0..7 (R190). -/
def BadCountOk (s : State) : Prop := s.links.badCount < Config.badRun

/-- The fault counter of every section stays in 0..255 and its recovery count in 0..16 (R6). -/
def CountersOk (s : State) : Prop := ∀ i, (s.sect i).counter ≤ Config.counterMax ∧ (s.sect i).recovery ≤ Config.recoveryLength

/-- The mask is 0..7 (R184, R189). -/
def MaskOk (s : State) : Prop := s.attention.mask ≤ 7

/-- Every slot stands on the one list of its kind, once (R20), and no living record has epoch 0 (R21). -/
structure Pooled (s : State) : Prop where
  free          : ∀ i, i ∈ s.pool.free ↔ i < Config.slotEntries ∧ (s.slot i).record = .free
  trains        : ∀ i, i ∈ s.pool.trains ↔ (s.train? i).isSome = true
  incidents     : ∀ i, i ∈ s.pool.incidents ↔ (s.incident? i).isSome = true
  queues        : ∀ p i, i ∈ s.queue p ↔ ∃ a, s.ann? i = some a ∧ a.platform = p
  freeOnce      : s.pool.free.Nodup
  trainsOnce    : s.pool.trains.Nodup
  incidentsOnce : s.pool.incidents.Nodup
  queuesOnce    : ∀ p, (s.queue p).Nodup
  epochs        : ∀ i, (s.slot i).epoch ≤ 15 ∧ ((s.slot i).record ≠ .free → 1 ≤ (s.slot i).epoch)

/-- Every platform that a record of the pool names is one of the 48 (R3, R20, R26). -/
structure Placed (s : State) : Prop where
  origins   : ∀ i x, s.train? i = some x → x.origin < Config.platformEntries
  positions : ∀ i x p, s.train? i = some x → x.position = some p → p < Config.platformEntries
  anns      : ∀ i a, s.ann? i = some a → a.platform < Config.platformEntries
  copies    : ∀ i c, s.incident? i = some c → ∀ p ∈ c.owedCopies, p < Config.platformEntries

/-- The tables and lists fit together: sizes (R3, R20), the pool (R20), the platforms named, and the counts of the header
while OPERATING (R3, R16). -/
structure Sound (s : State) : Prop where
  sized  : s.Sized
  pooled : s.Pooled
  placed : s.Placed
  header : s.part = .operating → s.headerGood = true

/-- While OPERATING the tables are those that START has passed, and while UNCONFIGURED no record is live; the active pattern is
one of the four, and the platforms of the trains are configured (R8, R14, R16, R18). -/
structure Configured (s : State) : Prop where
  checked  : s.part = .operating → s.startFailure = none
  empty    : s.part = .unconfigured → s.pool.trains = [] ∧ s.pool.incidents = [] ∧ ∀ p, s.queue p = []
  patterns : s.control.active < Config.patternEntries ∧ s.control.resume < Config.patternEntries
  trains   : ∀ i x, s.train? i = some x → s.platformOk x.origin = true ∧ ∀ p, x.position = some p → s.platformOk p = true

/-- The incident list is in the order of severity (R25), and each announcement queue in the order of priority (R26), the highest
first. -/
structure Ordered (s : State) : Prop where
  incidents : (s.pool.incidents.map s.severityAt).Pairwise (· ≥ ·)
  queues    : ∀ p, ((s.queue p).map s.annPriority).Pairwise (· ≥ ·)

/-- The priority of every live announcement, and of every announcement part of a live incident, is 0..3 (R122, R143). -/
structure PrioritiesOk (s : State) : Prop where
  anns  : ∀ i a, s.ann? i = some a → a.priority ≤ 3
  parts : ∀ i c a, s.incident? i = some c → c.ann = some a → a.priority ≤ 3

/-- The save area and the trains agree (R162, R169): every entry names a live train that is marked as saved, every marked train has
an entry, no train has two, the entries stand in train-list order with values in their ranges, and the area is empty while the
degraded flag is clear. The service numbers of the trains, from which entries are made, are in their range too (R43). -/
structure SavesOk (s : State) : Prop where
  live     : ∀ e ∈ s.control.saves, s.handle e.train.slot = e.train ∧ ∃ x, s.train? e.train.slot = some x ∧ x.saved = true
  marked   : ∀ i x, s.train? i = some x → x.saved = true → ∃ e ∈ s.control.saves, e.train = s.handle i
  once     : (s.control.saves.map fun e => e.train.slot).Nodup
  order    : (s.control.saves.map fun e => e.train.slot).Sublist s.pool.trains
  clear    : s.control.degraded = false → s.control.saves = []
  values   : ∀ e ∈ s.control.saves, 1 ≤ e.service ∧ e.service ≤ 9999 ∧ -36000 ≤ e.lateness ∧ e.lateness ≤ 36000
  services : ∀ i x, s.train? i = some x → 1 ≤ x.service ∧ x.service ≤ 9999

/-- Players, cues and records agree (R144, R145, R146, R149): a CUED or PLAYING player has a cue, a live record of its platform
that is SELECTED or PLAYING, and no other player has one; every SELECTED or PLAYING record is the cue of its platform; a deadline
is pending while CUED or STOPPING; an IDLE player has no QUEUED record; no record is left DONE. -/
structure PlayersOk (s : State) : Prop where
  cued     : ∀ p, (s.platform p).player = .cued ∨ (s.platform p).player = .playing → ∃ h a, (s.platform p).cue = some h ∧
    s.handle h.slot = h ∧ s.ann? h.slot = some a ∧ a.platform = p ∧
    a.state = if (s.platform p).player = .cued then .selected else .playing
  quiet    : ∀ p, (s.platform p).player = .idle ∨ (s.platform p).player = .stopping ∨ (s.platform p).player = .offline →
    (s.platform p).cue = none
  timed    : ∀ p, (s.platform p).playerDl.isSome = true ↔ (s.platform p).player = .cued ∨ (s.platform p).player = .stopping
  selected : ∀ i a, s.ann? i = some a → a.state = .selected ∨ a.state = .playing →
    (s.platform a.platform).cue = some (s.handle i)
  idle     : ∀ p, (s.platform p).player = .idle → s.queuedOn p = none
  done     : ∀ i a, s.ann? i = some a → a.state ≠ .done

/-- Every train WAITING PERMIT stands in a wait queue (R44). -/
def WaitersQueued (s : State) : Prop :=
  ∀ i x, s.train? i = some x → x.state = .waiting → ∃ k, ∃ e ∈ (s.substation k).queue, e.train = s.handle i

/-- Every entry of a wait queue names a live train WAITING PERMIT, and no train has two entries (R44). -/
structure QueuesOk (s : State) : Prop where
  waiting : ∀ k, ∀ e ∈ (s.substation k).queue, s.handle e.train.slot = e.train ∧
    ∃ x, s.train? e.train.slot = some x ∧ x.state = .waiting
  once    : ((s.substations.flatMap Substation.queue).map Entry.train).Nodup

/-- No two live trains carry the same vehicle identity (R45). -/
def VehiclesOnce (s : State) : Prop :=
  ∀ i j x y, s.train? i = some x → s.train? j = some y → x.vehicle = y.vehicle → i = j

/-- The caps of the kinds (R28). -/
structure CapsOk (s : State) : Prop where
  trains    : s.trainCount ≤ Config.trainCap
  incidents : s.incidentCount ≤ Config.incidentCap
  queues    : ∀ p, (s.queue p).length ≤ Config.queueCap

/-- No pending deadline has a value that `hit` accepts (R10): departures of DWELLING trains, overdue deadlines of RUNNING ones,
approaches of running ones, queue entries, leases, operations, RAISED incidents, RESTING announcements, CUED and STOPPING players. -/
structure NonePending (s : State) (hit : Nat → Prop) : Prop where
  departures  : ∀ i x d, s.train? i = some x → x.state = .dwelling → x.depDl = some d → ¬ hit d
  overdues    : ∀ i x d, s.train? i = some x → x.state = .running → x.overdueDl = some d → ¬ hit d
  approaches  : ∀ i x d, s.train? i = some x → x.state.isRunning = true → x.approachDl = some d → ¬ hit d
  waits       : ∀ k, ∀ e ∈ (s.substation k).queue, ∀ d, e.waitDl = some d → ¬ hit d
  leases      : ∀ k, ∀ l ∈ (s.substation k).leases, ¬ hit l.expiry
  operations  : ∀ i op d, (s.sect i).op = some (op, d) → ¬ hit d
  escalations : ∀ i c d, s.incident? i = some c → c.state = .raised → c.escDl = some d → ¬ hit d
  rests       : ∀ i a d, s.ann? i = some a → a.state = .resting → a.restDl = some d → ¬ hit d
  players     : ∀ p d, (s.platform p).player = .cued ∨ (s.platform p).player = .stopping → (s.platform p).playerDl = some d → ¬ hit d

/-- No incident but one of the operator or a PLATFORM ALARM carries a HOLD: none has been amended so (R126, R127, R136). -/
def PlainHolds (s : State) : Prop :=
  ∀ i c r, s.incident? i = some c → c.restriction = some r → r.kind = .hold → c.kind = .operator ∨ c.kind = .platformAlarm

/-- Nothing is owed anywhere: no kind on a fixed or living record, no copy on an incident (R32, R33). -/
structure NothingOwed (s : State) : Prop where
  platforms   : ∀ p, (s.platform p).owed = {}
  sects       : ∀ i, (s.sect i).owed = {}
  substations : ∀ k, (s.substation k).owed = {}
  trains      : ∀ i x, s.train? i = some x → x.owed = {}
  copies      : ∀ i c, s.incident? i = some c → c.owedCopies = []

end State

/-- What every event of the records, queues, sections and gate keeps: the part state, the tables, the clock, the pins, the
senders' queue, the mask, and the links but for the directive queue. -/
structure EventKeeps (s t : State) : Prop where
  part     : t.part = s.part
  tables   : t.tables = s.tables
  lineTime : t.lineTime = s.lineTime
  straps   : t.straps = s.straps
  pending  : t.pending = s.pending
  mask     : t.attention.mask = s.attention.mask
  links    : { t.links with queue := s.links.queue } = s.links

/-- The fixed records of the gate and the supply, and Pattern Control, stand as they were. -/
structure FixedKept (s t : State) : Prop where
  sects       : t.sects = s.sects
  substations : t.substations = s.substations
  control     : t.control = s.control

/-- Nothing has moved but announcements, players, directives, latches and lines. -/
structure OnlyAnnouncements (s t : State) : Prop where
  trains       : ∀ i, t.train? i = s.train? i
  incidents    : ∀ i, t.incident? i = s.incident? i
  trainList    : t.pool.trains = s.pool.trains
  incidentList : t.pool.incidents = s.pool.incidents
  fixed        : FixedKept s t
  event        : EventKeeps s t

/-- What the service of a queue makes of substation `k` by the end of the event (R111, R106, R108): with `queue`, `leases` and
`units` before it, the first `n` entries are granted, each fits in its turn, and the head that is left does not. Each granted
train is RELEASED with its lease, and DEPART is queued for its indicator. -/
def Served (s t : State) (k : Nat) (queue : List Entry) (leases : List Lease) (units : Nat) : Prop :=
  let budget := (t.substation k).budget
  let weight := fun e : Entry => min e.weight budget
  let placeOf := fun h : Handle => ((s.train? h.slot).bind Train.position).getD 0
  let used := fun n : Nat => units + ((queue.take n).map weight).sum
  ∃ n, n ≤ queue.length ∧ (t.substation k).queue = queue.drop n ∧
    (t.substation k).leases = leases ++ (queue.take n).map (fun e =>
      ⟨e.train, weight e, later s.lineTime (t.vals (placeOf e.train)).accel⟩) ∧
    (t.substation k).inUse = used n ∧ (∀ m, m < n → used (m + 1) ≤ budget) ∧
    (∀ e, (queue.drop n).head? = some e → budget < used n + weight e) ∧
    ∀ e ∈ queue.take n, (∃ y, t.train? e.train.slot = some y ∧ y.state = .released ∧ y.lease = some (k, weight e)) ∧
      (placeOf e.train, Directive.depart) ∈ t.links.queue

/-- No train but that of slot `i` stands at `p`; one that carries no position counts as at 0. -/
def State.Alone (s : State) (i p : Nat) : Prop :=
  ∀ j x, j ≠ i → s.train? j = some x → x.position.getD 0 = p → x.state.atPlatform = false

/-- What the hold-removal check makes of `x`, a HELD train at `p` whose last reason has gone (R80, R77, R107): DWELLING again
while its departure time lies ahead; HELD again where the platform is held or the section is not supplied; else a permit is
asked for. The directive of each stands where no other train is at `p`. -/
def Rechecked (s t : State) (i p : Nat) (x : Train) : Prop :=
  let d := x.depTime.getD s.lineTime
  let sec := (s.platformCfg p).runSection
  let shown := fun e : Directive => s.Alone i p → (p, e) ∈ t.links.queue
  if 0 < diff s.lineTime d then
    t.train? i = some { x with state := .dwelling, holds := {}, depDl := some d } ∧ shown (.dwell d)
  else if t.held p = true ∨ t.supplied sec = false then
    t.train? i = some { x with state := .held, depDl := none, holds := { restriction := t.held p, noSupply := !t.supplied sec } }
      ∧ shown .hold
  else ∃ y, t.train? i = some y ∧ y.holds = {} ∧ y.depDl = none ∧ y.permitReq = some s.lineTime ∧ y.depTime = x.depTime ∧
    ((y.state = .released ∧ shown .depart) ∨ (y.state = .waiting ∧ ∃ k, ∃ e ∈ (t.substation k).queue, e.train = s.handle i))

/-- A section but for its owed set, which the Incident Manager owns. -/
def Sect.own (x : Sect) : Sect := { x with owed := {} }

/-- The ten expiries (R10). -/
def isExpiry : Instr → Bool
  | .departureExpiry _ | .overdueExpiry _ | .approachExpiry _ | .waitExpiry _ _ | .leaseExpiry _ _ | .operationExpiry _
  | .escalationExpiry _ | .restExpiry _ | .startExpiry _ | .stopExpiry _ => true
  | _ => false

/-- The code and tag of a request (R199); `none` for the commands that are no request. -/
def requestOf : Instr → Option (Nat × Nat)
  | .lookup tag _ => some (1, tag)
  | .walk tag _ _ _ => some (2, tag)
  | .findTrain tag _ _ _ => some (3, tag)
  | .findIncident tag _ _ _ _ => some (4, tag)
  | .createTrain tag _ _ _ _ _ => some (5, tag)
  | .amendTrain tag _ _ _ _ _ => some (6, tag)
  | .forceDepart tag _ => some (7, tag)
  | .retire tag _ => some (8, tag)
  | .raiseIncident tag _ _ _ _ _ => some (9, tag)
  | .amendIncident tag _ _ _ _ => some (10, tag)
  | .acknowledge tag _ => some (11, tag)
  | .clear tag _ => some (12, tag)
  | .createAnnouncement tag _ _ _ _ _ _ => some (13, tag)
  | .amendAnnouncement tag _ _ _ _ => some (14, tag)
  | .readPlatform tag _ => some (15, tag)
  | .readSection tag _ => some (16, tag)
  | .readSubstation tag _ => some (17, tag)
  | .isolate tag _ _ => some (18, tag)
  | .energise tag _ => some (19, tag)
  | .restore tag _ => some (20, tag)
  | .setWarningLevel tag _ _ => some (21, tag)
  | .selectPattern tag _ => some (22, tag)
  | .enterDegraded tag _ => some (23, tag)
  | .resume tag => some (24, tag)
  | .readSaveEntry tag _ => some (25, tag)
  | .amendSaveEntry tag _ _ _ => some (26, tag)
  | .setTime tag _ => some (27, tag)
  | .adjustTime tag _ => some (28, tag)
  | .readTime tag => some (29, tag)
  | .loadConfig tag _ _ _ => some (30, tag)
  | .start tag => some (31, tag)
  | .configReload tag => some (32, tag)
  | .linkRestart tag => some (33, tag)
  | .readAttention tag _ => some (34, tag)
  | .setAttentionMask tag _ => some (35, tag)
  | .readStatus tag => some (36, tag)
  | .readShadow tag _ => some (37, tag)
  | .unknownRequestCode code tag _ => some (code, tag)
  | .coldReset | .lineTimeTick | .badFrame | .controlFrameByteGap | .frameNotKept | .arrive .. | .depart .. | .feeder ..
  | .substation .. | .platformAlarm .. | .fieldBadFrame | .fieldFrameByteGap | .directiveSent | .ready .. | .started ..
  | .refused .. | .ended .. | .statusFrameBad | .statusFrameByteGap | .departureExpiry .. | .overdueExpiry ..
  | .approachExpiry .. | .waitExpiry .. | .leaseExpiry .. | .operationExpiry .. | .escalationExpiry .. | .restExpiry ..
  | .startExpiry .. | .stopExpiry .. => none

end Sys2Proof.Machine
end

