-- ==== Sys2Proof/Certificates/Slice0/Obligations.lean ====
section
/-! DEFINITION. The statements about the part for the provers; OBLIGATIONS.json lists them with the rules they rest on. -/

section Statements

open Sys2Proof Sys2Proof.Machine

/-! ### The step -/

/-- A step takes the command at the front of the queue with the rest of the queue behind it; with none put forward, the Control
Link frame that has waited longest (R176; log 1); with none of either it idles (log 16). -/
def Obligations.StepTakesTheFrontCommand : Prop :=
  (∀ (s : State) (c : Instr) (rest : List Instr), s.pending = c :: rest → step s = exec c { s with pending := rest }) ∧
    (∀ (s : State) (c : Instr) (rest : List Instr), s.pending = [] → s.links.waiting = c :: rest →
      step s = exec c { s with links := { s.links with waiting := rest } }) ∧
    ∀ s : State, s.pending = [] → s.links.waiting = [] → step s = .next s

/-- Cold reset, from any state, leaves the reset state, but for the pins, the rates read from them, and the senders' queue (R19,
log 1; the receivers and the pins by log 2 and log 3); and what that state holds: the pool, the tables, the clock, the fixed records and the links (R19, R42). The warning
levels, budgets and live fields are those of R5, R6, R7 and R19. -/
def Obligations.ColdResetLeavesTheResetState : Prop :=
  (∀ s : State, exec .coldReset s =
     .next { State.reset with straps := s.straps, pending := s.pending, links := { rates := s.straps } }) ∧
  (State.reset.part = .unconfigured ∧ State.reset.lineTime = 0 ∧ State.reset.tables.header = {} ∧
     (∀ i, i < Config.slotEntries → State.reset.slot i = { epoch := 0, record := .free }) ∧
     State.reset.pool.free = List.range Config.slotEntries ∧ State.reset.pool.trains = [] ∧ State.reset.pool.incidents = [] ∧
     (∀ p, State.reset.queue p = []) ∧ (∀ i, (State.reset.sect i).state = .energised ∧ (State.reset.sect i).warning = 1) ∧
     (∀ k, (State.reset.substation k).up = true ∧ (State.reset.substation k).budget = 1) ∧
     (∀ p, State.reset.platform p = {}) ∧ State.reset.attention.mask = 0 ∧ State.reset.links.queue = [] ∧
     State.reset.links.waiting = [] ∧
     ∀ n, State.reset.shadow n = none)

/-- The invariants stated below hold at reset. -/
def Obligations.ResetMeetsTheInvariants : Prop :=
  State.reset.Sound ∧ State.reset.QueuesOk ∧ State.reset.VehiclesOnce ∧ State.reset.CapsOk ∧ State.reset.NothingOwed ∧
    State.reset.ClockOk ∧ State.reset.MaskOk ∧ State.reset.BadCountOk ∧ State.reset.LinesJudged ∧ State.reset.OnePerTarget ∧
    State.reset.Balanced ∧ State.reset.CountersOk ∧ State.reset.Configured ∧ State.reset.Ordered ∧ State.reset.PlayersOk ∧
    State.reset.WaitersQueued ∧ State.reset.PrioritiesOk ∧ State.reset.SavesOk

/-! ### Arithmetic of time, ring and dwell -/

/-- Differences and sums of line times (R1), and the step of SET TIME: a deadline moved with the clock keeps the interval it
had to go (R11). The effective time of a report (R13): its source time, or now with the mark where that is more than 300 tenths
ahead or more than 6000 old. -/
def Obligations.TimesAreTakenRoundTheDay : Prop :=
  (∀ a b d : Nat, a < 864000 → b < 864000 → d < 864000 →
    -432000 ≤ diff a b ∧ diff a b ≤ 431999 ∧ later a (diff a b) = b ∧ diff a b = ((b : Int) - a + 432000) % 864000 - 432000 ∧
      diff b (later d (diff a b)) = diff a d) ∧
  (∀ (s : State) (time : Nat),
     (300 < diff s.lineTime time ∨ diff s.lineTime time < -6000 → s.effective time = (s.lineTime, true)) ∧
     (-6000 ≤ diff s.lineTime time → diff s.lineTime time ≤ 300 → s.effective time = (time, false)))

/-- The ring (R2): successor, distance and range, over the platforms 0..P-1. -/
def Obligations.RingSuccessorDistanceAndRange : Prop :=
  ∀ (s : State) (n : Nat), s.tables.header.platforms = n →
    (∀ p, s.platformOk p = true ↔ p < n) ∧ (∀ p, s.next p = (p + 1) % n) ∧
      (∀ a b, a < n → b < n → s.dist a b = (b + n - a) % n) ∧ (∀ a, s.dist a a = 0) ∧
      (∀ first last p, s.covers first last p = true ↔ s.dist first p ≤ s.dist first last) ∧
      (∀ first p, first < n → p < n → (s.covers first first p = true ↔ p = first)) ∧
      ∀ first last p, last < first → first < n → p < n → (s.covers first last p = true ↔ first ≤ p ∨ p ≤ last)

/-- The accumulator of the dwell (R74): its start, its three terms in order, the range after each, and the flag that stays
set. -/
def Obligations.DwellAccumulatorSaturates : Prop :=
  ∀ (v : PatternVals) (eh es : Int) (ei : Nat),
    let add := fun (acc : Int × Bool) (x : Int) =>
      if 8388607 < acc.1 + x then ((8388607 : Int), true)
      else if acc.1 + x < -8388608 then (-8388608, true) else (acc.1 + x, acc.2)
    accumulate v eh es ei = add (add (add (256 * v.d0, false) (v.wh * eh)) (v.ws * es)) (256 * ei) ∧
      -8388608 ≤ (accumulate v eh es ei).1 ∧ (accumulate v eh es ei).1 ≤ 8388607 ∧
      (v.d0 ≤ 6000 → (256 * v.d0 : Int) ≤ 1536000) ∧
      (∀ (w : Nat) (e : Int), w ≤ 1023 → -6000 ≤ e → e ≤ 6000 → -6138000 ≤ w * e ∧ w * e ≤ 6138000) ∧
      (ei ≤ 6000 → (256 * ei : Int) ≤ 6138000) ∧
      ∀ (acc : Int) (x : Int), (add (acc, true) x).2 = true

/-- The scaling of the accumulator to tenths (R75), with the rule's table. -/
def Obligations.DwellScalesToTenths : Prop :=
  (∀ acc : Int, 256 * scaleDwell acc ≤ acc + 128 ∧ acc + 128 < 256 * scaleDwell acc + 256) ∧
    (∀ acc n : Int, |256 * scaleDwell acc - acc| ≤ |256 * n - acc|) ∧
    (∀ n : Int, scaleDwell (256 * n + 128) = n + 1) ∧
    [127, 128, -128, -129, -153600, 8388607, -8388608].map scaleDwell = [0, 1, 0, -1, -600, 32768, -32768]

/-! ### Clock and configuration -/

/-- The tick (R10): line time goes on by one tenth, round at midnight; while UNCONFIGURED, or with no expiry due, nothing else
changes. ADJUST TIME (R12): its step clamped to 50 tenths, the step and the new line time answered; while UNCONFIGURED, at a
step of 0, and at a step back with no expiry due, nothing else changes. READ TIME answers the time and the part state (R10). SET
TIME with no train live (R11): line time takes the value and every deadline moves by the step; nothing else changes. The expiries
that are still due are taken by the tick or the step before line time leaves them (the model's choice, log 11). -/
def Obligations.ClockCommands : Prop :=
  (∀ s : State, s.ClockOk → ∃ t, exec .lineTimeTick s = .next t ∧
     t.lineTime = (if s.lineTime = 863999 then 0 else s.lineTime + 1) ∧ t.part = s.part ∧ t.tables = s.tables ∧
     t.responses = s.responses ∧ t.control = s.control ∧
     (s.part = .unconfigured ∨ (∀ c, isExpiry c = true → exec c s = .next s) → t = { s with lineTime := t.lineTime })) ∧
  (∀ (s : State) (tag : Nat) (d : Int), s.ClockOk →
     let n := max (-50) (min 50 d)
     let now := (((s.lineTime : Int) + n) % 864000).toNat
     ∃ t, exec (.adjustTime tag d) s = .next t ∧ t.lineTime = now ∧ t.part = s.part ∧ t.tables = s.tables ∧
       t.responses = s.responses ++ [⟨28, tag, .done, .adjusted n now⟩] ∧ t.control = s.control ∧
       (s.part = .unconfigured ∨ d = 0 ∨ d < 0 ∧ (∀ c, isExpiry c = true → exec c s = .next s) →
         t = { s with lineTime := now, responses := t.responses })) ∧
  (∀ (s : State) (tag : Nat),
     exec (.readTime tag) s = .next { s with responses := s.responses ++ [⟨29, tag, .done, .clock s.lineTime s.part⟩] }) ∧
  (∀ (s : State) (tag time : Nat), s.pool.trains = [] → time < 864000 →
     ∃ t, exec (.setTime tag time) s = .next t ∧ t.lineTime = time ∧
       t.responses = s.responses ++ [⟨27, tag, .done, .time time⟩] ∧
       (∀ i c, s.incident? i = some c →
         t.incident? i = some { c with escDl := c.escDl.map (later · (diff s.lineTime time)) }) ∧
       (∀ i a, s.ann? i = some a → t.ann? i = some { a with restDl := a.restDl.map (later · (diff s.lineTime time)) }) ∧
       (∀ i, t.sect i = { s.sect i with op := (s.sect i).op.map fun o => (o.1, later o.2 (diff s.lineTime time)) }) ∧
       (∀ p, t.platform p = { s.platform p with playerDl := (s.platform p).playerDl.map (later · (diff s.lineTime time)) }) ∧
       (∀ k, t.substation k = { s.substation k with
         leases := (s.substation k).leases.map fun l => { l with expiry := later l.expiry (diff s.lineTime time) }
         queue := (s.substation k).queue.map fun e => { e with waitDl := e.waitDl.map (later · (diff s.lineTime time)) } }) ∧
       (∀ i, (t.slot i).epoch = (s.slot i).epoch) ∧ t.pool.free = s.pool.free ∧ t.pool.trains = s.pool.trains ∧
       t.pool.incidents = s.pool.incidents ∧ t.pool.queues = s.pool.queues ∧ t.part = s.part ∧ t.tables = s.tables ∧
       t.control = s.control ∧ t.attention = s.attention ∧ t.links = s.links)

/-- While OPERATING line time leaves no deadline behind: after a tick none is pending at the value it left (R10), after a positive
ADJUST TIME none at that value or among those the step passed (R12). An operator incident whose escalation deadline is so reached
has risen by one, its new deadline counted from the line time of the expiry. That a due expiry may stand until line time leaves it
is the model's choice (log 11). -/
def Obligations.TimeLeavesNoDeadlineBehind : Prop :=
  ∀ s : State, s.Sound → s.Configured → s.ClockOk → s.part = .operating →
    (∀ t, exec .lineTimeTick s = .next t → t.NonePending (· = s.lineTime) ∧
      ∀ i c, s.incident? i = some c → c.kind = .operator → c.state = .raised → c.escDl = some s.lineTime →
        ∃ y, t.incident? i = some y ∧ y.severity = c.severity + 1 ∧
          y.escDl = (ackLimit (c.severity + 1)).map fun n => later s.lineTime n) ∧
    ∀ (tag : Nat) (d : Int) (t : State), 0 < d → exec (.adjustTime tag d) s = .next t →
      t.NonePending (fun e => e = s.lineTime ∨ 0 < diff s.lineTime e ∧ diff s.lineTime e ≤ min 50 d) ∧
      ∀ i c e, s.incident? i = some c → c.kind = .operator → c.state = .raised → c.escDl = some e → 0 < diff s.lineTime e →
        diff s.lineTime e ≤ min 50 d → ∃ y, t.incident? i = some y ∧ y.severity = c.severity + 1 ∧
          y.escDl = (ackLimit (c.severity + 1)).map fun n => later t.lineTime n

/-- LOAD CONFIG in UNCONFIGURED with a whole number of entries that fit their table (R15): the table is written, the lines
follow the routes, and nothing else changes. Entries take their places from the first index on and leave the others, said of
the platform table and of the route table (R15, R198). -/
def Obligations.LoadConfigWritesEntries : Prop :=
  (∀ (s : State) (tag table first n m : Nat) (bytes : List Byte), s.part = .unconfigured → entryBytes table = some n →
     bytes.length = n * m → 1 ≤ m → first + m ≤ entryCount table →
     (entriesOf table bytes).length = m ∧ (∀ k, k < m →
         (entriesOf table bytes)[k]? = some (((bytes.drop (n * k)).take n).map BitVec.toNat)) ∧
       exec (.loadConfig tag table first bytes) s = .next
         { s with
           tables := loadEntries s.tables table first (entriesOf table bytes)
           attention := { s.attention with
             lines := ({ s with tables := loadEntries s.tables table first (entriesOf table bytes) } : State).judgedLines }
           responses := s.responses ++ [⟨30, tag, .done, .empty⟩] }) ∧
  (∀ (t : Tables) (first : Nat) (es : List (List Nat)),
     (t.platforms.length = 48 → first + es.length ≤ 48 →
       loadEntries t 1 first es = { t with platforms := (loadEntries t 1 first es).platforms } ∧
         ∀ k, (loadEntries t 1 first es).platforms[k]? =
           if first ≤ k ∧ k < first + es.length then (es[k - first]?).map platformCfgOf else t.platforms[k]?) ∧
       (t.routes.length = 16 → first + es.length ≤ 16 →
         loadEntries t 9 first es = { t with routes := (loadEntries t 9 first es).routes } ∧
           ∀ k, (loadEntries t 9 first es).routes[k]? =
             if first ≤ k ∧ k < first + es.length then (es[k - first]?).map routeOf else t.routes[k]?))

/-- START checks the header, the platforms, the sections, the values of each pattern, the pattern lines, the messages and the
routes, each entry against its ranges (R3, R4, R6, R8, R9, R16): it finds no fault exactly when every entry is good, and it names the
first that is not, tables in their order and entries ascending. A START that fails changes nothing, and in OPERATING it is refused
with the part state (R16, R177). -/
def Obligations.StartChecksInOrder : Prop :=
  (∀ s : State,
     let h := s.tables.header
     let within := fun (low high x : Nat) => low ≤ x ∧ x ≤ high
     let good : Nat → Nat → Prop := fun table n => match table with
       | 0 => within 4 48 h.platforms ∧ within 1 32 h.sections ∧ within 1 12 h.substations
       | 1 => let c := s.platformCfg n
         c.runSection < h.sections ∧ (c.approachLead = 0 ∨ within 100 1800 c.approachLead ∧ within 1 4095 c.approachCode)
       | 2 => let c := s.sectCfg n
         c.primary < h.substations ∧ (∀ f, c.fallback = some f → f < h.substations ∧ f ≠ c.primary) ∧ within 1 255 c.warning
       | 3 | 4 | 5 | 6 => let v := s.patternVals (table - 3) n
         v.d0 ≤ 6000 ∧ v.dmin ≤ 6000 ∧ within v.dmin 6000 v.dmax ∧ within 50 6000 v.run ∧ within 300 6000 v.headway ∧
           v.wh ≤ 1023 ∧ v.ws ≤ 1023 ∧ within 50 600 v.accel
       | 7 => let v := s.patternLine n
         within 100 6000 v.overdueMargin ∧ within 100 6000 v.waitLimit ∧
           (∀ k, k < h.substations → within 1 8 (v.budgets.getD k 0)) ∧ (n = 0 → v.degraded = false)
       | 8 => let m := s.tables.messages.getD n {}
         m.priority ≤ 3 ∧ m.raiseCode ≤ 4095 ∧ m.clearCode ≤ 4095
       | _ => s.route n ≤ 7 ∨ s.route n = 255
     let checked := fun table n : Nat =>
       table = 0 ∧ n = 0 ∨ table = 1 ∧ n < h.platforms ∨ table = 2 ∧ n < h.sections ∨
         (3 ≤ table ∧ table ≤ 6) ∧ n < h.platforms ∨ table = 7 ∧ n < 4 ∨ table = 8 ∧ n < 9 ∨ table = 9 ∧ n < 16
     (s.startFailure = none ↔ ∀ table n, checked table n → good table n) ∧
     ∀ table n, s.startFailure = some (table, n) ↔ checked table n ∧ ¬ good table n ∧
       ∀ u m, checked u m → (u < table ∨ u = table ∧ m < n) → good u m) ∧
  (∀ (s : State) (tag : Nat),
     (s.part = .operating →
       exec (.start tag) s = .next (s.reply ⟨31, tag, .wrongState, .partState .operating⟩)) ∧
     (s.part = .unconfigured → ∀ table n, s.startFailure = some (table, n) →
       exec (.start tag) s = .next (s.reply ⟨31, tag, .outOfRange, .startFailure table n⟩)))

/-- START that passes (R17): the live values of every configured record, pattern 0 with its budgets, and OPERATING; the pool, the
tables, the clock, the links, the mask and the latches stand. CONFIG RELOAD of an OPERATING part with an empty pool (R18):
UNCONFIGURED, the lines judged, all else kept; with a live record, or UNCONFIGURED, it is refused WRONG STATE. The model's
choices here are what START does to unconfigured records (log 21) and the body of that refusal (log 29). -/
def Obligations.StartAndReload : Prop :=
  (∀ (s : State) (tag : Nat), s.Sized → s.part = .unconfigured → s.startFailure = none →
     ∃ t, exec (.start tag) s = .next t ∧ t.part = .operating ∧ t.control = {} ∧
       (∀ p, s.platformOk p = true → t.platform p = {}) ∧
       (∀ i, s.sectOk i = true → t.sect i = { warning := (s.sectCfg i).warning }) ∧
       (∀ k, s.substationOk k = true → t.substation k = { budget := (s.patternLine 0).budgets.getD k 0 }) ∧
       (∀ i, (t.sect i).op = none ∧ (t.sect i).owed = {}) ∧ (∀ p, (t.platform p).player = .idle ∧ (t.platform p).cue = none) ∧
       t.pool = s.pool ∧ t.tables = s.tables ∧ t.lineTime = s.lineTime ∧ t.links = s.links ∧
       t.attention.mask = s.attention.mask ∧ t.attention.latches = s.attention.latches ∧
       t.responses = s.responses ++ [⟨31, tag, .done, .empty⟩]) ∧
  (∀ (s : State) (tag : Nat),
     (s.part = .operating → s.trainCount = 0 → s.incidentCount = 0 → s.annCount = 0 →
       exec (.configReload tag) s = .next
         { s with
           part := .unconfigured
           attention := { s.attention with lines := s.judgedLines }
           responses := s.responses ++ [⟨32, tag, .done, .empty⟩] }) ∧
     (s.part = .operating → (s.trainCount ≠ 0 ∨ s.incidentCount ≠ 0 ∨ s.annCount ≠ 0) →
       exec (.configReload tag) s = .next (s.reply ⟨32, tag, .wrongState, .empty⟩)) ∧
     (s.part = .unconfigured →
       exec (.configReload tag) s = .next (s.reply ⟨32, tag, .wrongState, .partState .unconfigured⟩)))

/-! ### Frames and links -/

/-- A frame of the form of R175, as a sender lays it out (R198), is received whole: the receiver is hunting after the check
byte, and not before; the bytes pass the check and carry the code, the tag and the body. A frame completed on the Control Link
waits behind those before it, and a request that completes while two wait is not kept (R176; that a frame with a bad check is none
of the two is log 34). A response with an empty body is a frame of one status byte (R175, R199). Frames that carry no request
change nothing but the response queue (R175, R176, R177); one whose bytes stop arriving leaves the receiver looking for a start
mark, and its answer takes its place behind the frames that wait (R176; log 27). Bad frames on
the Field Link are counted, and the eighth in a run latches FIELD LINK and starts the count again (R190). Status frames that are
bad, or of no player, are dropped, the latter with DIRECTIVE LINK latched while OPERATING (R196). While
UNCONFIGURED a good report frame sets the bad-frame count to 0 and is dropped with nothing else changed (R14, R190). That a bad frame leaves its
receiver hunting, as it already does, is the model's reading (log 27). -/
def Obligations.FramesAreReceivedAndAnswered : Prop :=
  (∀ (code tag : Byte) (body : List Byte), body.length ≤ 248 →
    let counted := BitVec.ofNat 8 (body.length + 2) :: code :: tag :: body
    let check := BitVec.ofNat 8 (256 - (counted.map BitVec.toNat).sum % 256)
    ((BitVec.ofNat 8 165 :: counted).foldl (fun r b => (receive r b).1) .hunting = .collecting 1 counted) ∧
      receive (.collecting 1 counted) check = (.hunting, .frame (counted ++ [check])) ∧
      checkGood (counted ++ [check]) = true ∧
      frameBody (counted ++ [check]) = code.toNat :: tag.toNat :: body.map BitVec.toNat) ∧
  (∀ (s : State) (got : List Byte) (b : Byte), s.links.controlRx = .collecting 1 got →
     let c := decodeControl (got ++ [b])
     let two := 2 ≤ (s.links.waiting.filter fromControl).length
     s.controlByte b = { s with links := { s.links with
       controlRx := .hunting
       waiting := s.links.waiting ++ [if fromControl c = true ∧ two then .frameNotKept else c] } }) ∧
  (∀ r : Response, r.body = .empty → r.code < 256 → r.tag < 256 →
     ∃ k, k < 256 ∧ (3 + r.code + r.tag + statusCode r.status + k) % 256 = 0 ∧
       (responseFrame r).map BitVec.toNat = [165, 3, r.code, r.tag, statusCode r.status, k]) ∧
  (∀ (s : State) (code tag n : Nat),
     exec (.unknownRequestCode code tag n) s = .next { s with responses := s.responses ++ [⟨code, tag, .outOfRange, .empty⟩] } ∧
       exec .badFrame s = .next { s with responses := s.responses ++ [⟨0, 0, .badFrame, .empty⟩] } ∧
       exec .frameNotKept s = .next { s with responses := s.responses ++ [⟨0, 0, .badFrame, .empty⟩] } ∧
       (s.links.waiting = [] → exec .controlFrameByteGap s = .next
         { s with
           links := { s.links with controlRx := .hunting }
           responses := s.responses ++ [⟨0, 0, .badFrame, .empty⟩] }) ∧
       (s.links.waiting ≠ [] → exec .controlFrameByteGap s = .next
         { s with links := { s.links with controlRx := .hunting, waiting := s.links.waiting ++ [.badFrame] } }) ∧
       exec .statusFrameBad s = .next s ∧
       exec .statusFrameByteGap s = .next { s with links := { s.links with statusRx := .hunting } }) ∧
  (∀ s : State,
     (s.links.badCount < 7 →
       exec .fieldBadFrame s = .next { s with links := { s.links with badCount := s.links.badCount + 1 } } ∧
       exec .fieldFrameByteGap s = .next
         { s with links := { s.links with fieldRx := .hunting, badCount := s.links.badCount + 1 } }) ∧
     (s.links.badCount = 7 →
       ∃ t u, exec .fieldBadFrame s = .next t ∧ exec .fieldFrameByteGap s = .next u ∧
         t.links = { s.links with badCount := 0 } ∧ u.links = { s.links with fieldRx := .hunting, badCount := 0 } ∧
         t.attention = { s.attention with latches := { s.attention.latches with fieldLink := true }, lines := t.judgedLines } ∧
         u.attention = t.attention ∧ t.pool = s.pool ∧ u.pool = s.pool ∧ FixedKept s t ∧ FixedKept s u)) ∧
  (∀ (s : State) (p : Nat) (c : Instr), (c = .ready p ∨ c = .started p ∨ c = .refused p ∨ c = .ended p) →
     (s.part = .unconfigured → exec c s = .next s) ∧
     (s.part = .operating → s.playerOk p = false → exec c s = .next (s.latch .directiveLink).judgeLines)) ∧
  (∀ (s : State) (n i time : Nat) (cls : SupplyClass) (pos : Position) (on : Bool) (c : Instr), s.part = .unconfigured →
     time < 864000 → (c = .arrive n i time ∨ c = .depart n i time ∨ c = .feeder i cls pos time ∨ c = .substation i on time ∨
       c = .platformAlarm i on n time) → exec c s = .next { s with links := { s.links with badCount := 0 } })

/-- The head of the directive queue is sent while OPERATING and becomes the shadow of its target (R193, R194, R195); while
UNCONFIGURED, or with the queue empty, nothing is taken; the directive in transmission is kept by the model's choice (log 8). READ SHADOW (R195): the shadow, and the directive queued for the
target with its place counted from the head as 1; a number above 127 is refused. -/
def Obligations.DirectivesAreSentAndShadowed : Prop :=
  (∀ (s : State) (n : Nat) (d : Directive) (rest : List (Nat × Directive)),
     (s.part = .operating → s.links.queue = (n, d) :: rest →
       exec .directiveSent s = .next
         { s with links := { s.links with
             queue := rest, shadows := s.links.shadows.set n (some d), transmitting := some (n, d) } }) ∧
       (s.part = .unconfigured → exec .directiveSent s = .next s) ∧
       (s.links.queue = [] → exec .directiveSent s = .next s) ∧
       (n < s.links.shadows.length → ∀ t, s.part = .operating → s.links.queue = (n, d) :: rest →
         exec .directiveSent s = .next t → t.shadow n = some d ∧ ∀ m, m ≠ n → t.shadow m = s.shadow m)) ∧
  (∀ (s : State) (tag n : Nat),
     (127 < n → exec (.readShadow tag n) s = .next (s.reply ⟨37, tag, .outOfRange, .empty⟩)) ∧
     (n ≤ 127 → (∀ e ∈ s.links.queue, e.1 ≠ n) →
       exec (.readShadow tag n) s = .next (s.reply ⟨37, tag, .done, .shadow (s.shadow n) none⟩)) ∧
     (n ≤ 127 → ∀ d before after, s.links.queue = before ++ (n, d) :: after → (∀ e ∈ before, e.1 ≠ n) →
       exec (.readShadow tag n) s =
         .next (s.reply ⟨37, tag, .done, .shadow (s.shadow n) (some (d, before.length + 1))⟩)))

/-- LINK RESTART (R197, R161, R180): the receivers hunt, no frame waits, the queue is the replay of the indicator and breaker shadows followed
by a STOP for each player that had work in hand, those players are OFFLINE with their cues QUEUED, the latches are clear but
for PLAYER OFFLINE, and the lists of the pool and the shadows stand. The model's choices are the order of the STOPs
(log 5), the unconfigured targets (log 33), and a STOPPING player while UNCONFIGURED (log 40). -/
def Obligations.LinkRestartReplaysTheShadows : Prop :=
  ∀ (s : State) (tag : Nat),
    let busy := fun p => (s.platform p).player == .cued || (s.platform p).player == .playing || (s.platform p).player == .stopping
    let targets := List.range 48 ++ (List.range 32).map (96 + ·)
    ∃ t, exec (.linkRestart tag) s = .next t ∧ t.responses = s.responses ++ [⟨33, tag, .done, .empty⟩] ∧
      t.links = { s.links with
        controlRx := .hunting, waiting := [], fieldRx := .hunting, statusRx := .hunting, badCount := 0, transmitting := none
        rates := s.straps
        queue := targets.filterMap (fun n => (s.shadow n).map fun d => (n, d))
          ++ ((List.range 48).filter busy).map fun p => (48 + p, Directive.stop) } ∧
      (∀ p, p < 48 → busy p = true →
        t.platform p = { s.platform p with player := .offline, cue := none, playerDl := none } ∧
        ∀ h a, (s.platform p).cue = some h → s.ann? h.slot = some a → t.ann? h.slot = some { a with state := .queued }) ∧
      (∀ p, p < 48 → busy p = false → t.platform p = s.platform p) ∧
      t.attention.latches = (if (List.range 48).any busy then { playerOffline := true } else {}) ∧
      t.attention.mask = s.attention.mask ∧ t.LinesJudged ∧ t.pool.free = s.pool.free ∧ t.pool.trains = s.pool.trains ∧
      t.pool.incidents = s.pool.incidents ∧ t.pool.queues = s.pool.queues ∧ t.part = s.part ∧ t.tables = s.tables ∧
      t.lineTime = s.lineTime ∧ FixedKept s t

/-! ### Attention -/

/-- READ ATTENTION returns a latched source and clears its latch alone: with class LATCHED always, with class ALL when no incident
calls (R185, R186); with nothing to return it is answered NOT FOUND. Class ALL returns a calling incident and changes nothing:
a RAISED one above the mask or at severity 7, and none that calls has a higher severity (R181, R185, R186). SET ATTENTION MASK
(R184): clamped to 7, in either part state; the lines follow (R183), and nothing else changes. -/
def Obligations.AttentionIsReadAndMasked : Prop :=
  (∀ (s : State) (tag : Nat) (cls : Option Nat), (cls = some 1 ∨ ((cls = none ∨ cls = some 0) ∧ s.firstCaller = none)) →
     (∀ x, s.firstLatch = some x →
       exec (.readAttention tag cls) s = .next ((s.unlatch x).judgeLines.reply
         ⟨34, tag, .done, .attention x.source none (s.route x.source)⟩) ∧
       s.attention.latches.get x = true ∧ (∀ y : Latch, y.source < x.source → s.attention.latches.get y = false) ∧
       ∀ y, (s.unlatch x).attention.latches.get y = (if y = x then false else s.attention.latches.get y)) ∧
     (s.firstLatch = none →
       (∀ y, s.attention.latches.get y = false) ∧ exec (.readAttention tag cls) s = .next (s.reply ⟨34, tag, .notFound, .empty⟩))) ∧
  (∀ (s : State) (tag : Nat), (∃ e ∈ s.liveIncidents, e.2.calls s.attention.mask = true) →
     ∃ i c, (i, c) ∈ s.liveIncidents ∧ c.state = .raised ∧ (s.attention.mask < c.severity ∨ c.severity = 7) ∧
       (∀ e ∈ s.liveIncidents, e.2.calls s.attention.mask = true → e.2.severity ≤ c.severity) ∧
       ∀ cls, (cls = none ∨ cls = some 0) → exec (.readAttention tag cls) s = .next (s.reply ⟨34, tag, .done,
         .attention c.kind.number (some (s.handle i, c.severity, c.raisedTime)) (s.route c.kind.number)⟩)) ∧
  (∀ (s : State) (tag m : Nat),
     ∃ t, exec (.setAttentionMask tag m) s = .next t ∧
       t = { s with
         attention := { s.attention with mask := min 7 m, lines := t.attention.lines }
         responses := s.responses ++ [⟨35, tag, .done, .mask (min 7 m)⟩] } ∧
       t.attention.lines.length = 8 ∧
       ∀ l, l < 8 → (t.attention.lines.getD l false = true ↔ ∃ n, n < 16 ∧ t.sourcePending n = true ∧ s.route n = l))

/-- READ STATUS (R188), in either part state: every value as it stands, and nothing changed. -/
def Obligations.ReadStatusReturnsThePart : Prop :=
  ∀ (s : State) (tag : Nat), exec (.readStatus tag) s = .next { s with
    responses := s.responses ++ [⟨36, tag, .done, .status
      { part := s.part, lineTime := s.lineTime, free := s.pool.free.length, trains := s.pool.trains.length,
        incidents := s.pool.incidents.length, announcements := (s.pool.queues.map List.length).sum,
        active := s.control.active, degraded := s.control.degraded, resume := s.control.resume,
        saves := s.control.saves.length, mask := s.attention.mask,
        pending := (List.range 16).filter s.sourcePending, lines := s.attention.lines, badCount := s.links.badCount,
        directives := s.links.queue.length }⟩] }

/-! ### The pool -/

/-- LOOKUP of a current handle returns the record and changes nothing; a handle that is not current is refused (R21, R22, R38).
The reads of the fixed records change nothing (R5, R104, R120). The supplier of a section (R83), the supply condition (R78, R84) and
the level (R85) that READ SECTION returns. -/
def Obligations.ReadsReturnTheRecordsAsTheyStand : Prop :=
  (∀ (s : State) (tag : Nat) (h : Handle), s.part = .operating →
     (s.current h = true ↔ h ≠ ⟨0, 0⟩ ∧ h.slot < 256 ∧ (s.slot h.slot).record ≠ .free ∧ (s.slot h.slot).epoch = h.epoch) ∧
     (s.current h = true →
       (∀ x, s.train? h.slot = some x → exec (.lookup tag h) s = .next (s.reply ⟨1, tag, .done, .train h x⟩)) ∧
       (∀ c, s.incident? h.slot = some c → exec (.lookup tag h) s = .next (s.reply ⟨1, tag, .done, .incident h c⟩)) ∧
       ∀ a, s.ann? h.slot = some a → exec (.lookup tag h) s = .next (s.reply ⟨1, tag, .done, .announcement h a⟩)) ∧
     (s.current h = false → exec (.lookup tag h) s = .next (s.reply ⟨1, tag, .staleHandle, .empty⟩))) ∧
  (∀ (s : State) (tag n : Nat), s.part = .operating →
     (n < s.tables.header.platforms → exec (.readPlatform tag n) s =
       .next (s.reply ⟨15, tag, .done, .platform (s.platformCfg n) (s.platform n)⟩)) ∧
     (n < s.tables.header.sections → exec (.readSection tag n) s =
       .next (s.reply ⟨16, tag, .done, .sect (s.sectCfg n) (s.sect n) (s.sect n).level (s.supplier n) (s.supplied n)⟩)) ∧
     (n < s.tables.header.substations → exec (.readSubstation tag n) s =
       .next (s.reply ⟨17, tag, .done, .substation (s.substation n)⟩)) ∧
     (s.tables.header.platforms ≤ n → exec (.readPlatform tag n) s = .next (s.reply ⟨15, tag, .outOfRange, .empty⟩)) ∧
     (s.tables.header.sections ≤ n → exec (.readSection tag n) s = .next (s.reply ⟨16, tag, .outOfRange, .empty⟩)) ∧
     (s.tables.header.substations ≤ n → exec (.readSubstation tag n) s = .next (s.reply ⟨17, tag, .outOfRange, .empty⟩))) ∧
  (∀ (s : State) (i : Nat),
     let x := s.sect i
     let c := s.sectCfg i
     let up := fun k => (s.substation k).up = true
     (∀ k, s.supplier i = some k ↔
       k = c.primary ∧ up k ∧ (x.state = .energised ∨ x.state = .recovering) ∨
         c.fallback = some k ∧ up k ∧ ¬ up c.primary ∧ x.state = .onFallback) ∧
     (s.supplied i = true ↔ s.supplier i ≠ none ∧ x.state ≠ .recovering) ∧
     x.level = if 128 ≤ x.counter then .restricted else if x.warning ≤ x.counter then .warning else .normal)

/-- WALK returns the record that follows the after-handle on its list, the first for the null handle, and NOT FOUND at the end
(R39). FIND TRAIN and FIND INCIDENT return the first record after the start that matches, and NOT FOUND when none does (R40,
R41); the start is the head for the null handle, and the member after the handle's otherwise. -/
def Obligations.WalkAndFindFollowTheLists : Prop :=
  (∀ (s : State) (tag list p : Nat) (l : List Nat), s.part = .operating →
     (list = 0 ∧ l = s.pool.trains ∨ list = 1 ∧ l = s.pool.incidents ∨ list = 2 ∧ p < s.tables.header.platforms ∧ l = s.queue p) →
     (∀ j rest, l = j :: rest →
       exec (.walk tag list p Handle.null) s = .next (s.reply ⟨2, tag, .done, s.recordBody j⟩)) ∧
     (l = [] → exec (.walk tag list p Handle.null) s = .next (s.reply ⟨2, tag, .notFound, .empty⟩)) ∧
     ∀ h, s.current h = true →
       (∀ before j after, l = before ++ h.slot :: j :: after → h.slot ∉ before →
         exec (.walk tag list p h) s = .next (s.reply ⟨2, tag, .done, s.recordBody j⟩)) ∧
       (∀ before, l = before ++ [h.slot] → h.slot ∉ before →
         exec (.walk tag list p h) s = .next (s.reply ⟨2, tag, .notFound, .empty⟩)) ∧
       (h.slot ∉ l → exec (.walk tag list p h) s = .next (s.reply ⟨2, tag, .wrongState, .empty⟩))) ∧
  (∀ (s : State) (tag : Nat) (h : Handle) (l start : List Nat), s.part = .operating →
     (h = Handle.null ∧ start = l ∨ s.current h = true ∧ ∃ before, l = before ++ h.slot :: start ∧ h.slot ∉ before) →
     (∀ kind key, l = s.pool.trains → (kind = 0 ∧ 1 ≤ key ∧ key ≤ 16777215 ∨ kind = 1 ∧ 1 ≤ key ∧ key ≤ 9999) →
       let hit := fun i => ∃ x, s.train? i = some x ∧ (if kind = 0 then x.vehicle else x.service) = key
       (∀ before i after, start = before ++ i :: after → (∀ j ∈ before, ¬ hit j) → hit i →
         exec (.findTrain tag kind key h) s = .next (s.reply ⟨3, tag, .done, s.recordBody i⟩)) ∧
       ((∀ j ∈ start, ¬ hit j) → exec (.findTrain tag kind key h) s = .next (s.reply ⟨3, tag, .notFound, .empty⟩))) ∧
     ∀ kind k locKind n loc, l = s.pool.incidents → Kind.ofNumber kind = some k → s.findLocation locKind n = some loc →
       let hit := fun i => ∃ c, s.incident? i = some c ∧ c.kind = k ∧ c.location = loc
       (∀ before i after, start = before ++ i :: after → (∀ j ∈ before, ¬ hit j) → hit i →
         exec (.findIncident tag kind locKind n h) s = .next (s.reply ⟨4, tag, .done, s.recordBody i⟩)) ∧
       ((∀ j ∈ start, ¬ hit j) → exec (.findIncident tag kind locKind n h) s = .next (s.reply ⟨4, tag, .notFound, .empty⟩)))

/-- RETIRE with nothing owed. A CLEARED incident (R30, R31, R135): its slot is FREE with its epoch kept, at the tail of the free
list; the incident list loses it; the announcements made from it lose their source; a RAISED or ACKNOWLEDGED one is refused. An
announcement (R155): its slot likewise, its queue loses it, and a player that was PLAYING it goes STOPPING with a stop deadline
of now + 20 and STOP queued. -/
def Obligations.RetireFreesTheSlot : Prop :=
  (∀ (s : State) (tag : Nat) (h : Handle) (c : Incident), s.Sound → s.NothingOwed → s.part = .operating →
     s.current h = true → s.incident? h.slot = some c →
     (c.state ≠ .cleared → exec (.retire tag h) s = .next (s.reply ⟨8, tag, .wrongState, .empty⟩)) ∧
     (c.state = .cleared → ∃ t, exec (.retire tag h) s = .next t ∧
       t.responses = s.responses ++ [⟨8, tag, .done, .retired .incident⟩] ∧
       t.slot h.slot = { epoch := h.epoch, record := .free } ∧ t.pool.free = s.pool.free ++ [h.slot] ∧
       t.pool.incidents = s.pool.incidents.erase h.slot ∧ t.pool.trains = s.pool.trains ∧ t.pool.queues = s.pool.queues ∧
       (∀ j a, s.ann? j = some a → ∃ b, t.ann? j = some b ∧ b.source = (if a.source = some h then none else a.source) ∧
         b.message = a.message ∧ b.train = a.train ∧ b.plays = a.plays) ∧
       (∀ j, t.train? j = s.train? j) ∧ (∀ j, j ≠ h.slot → t.incident? j = s.incident? j) ∧ FixedKept s t ∧ EventKeeps s t)) ∧
  (∀ (s : State) (tag : Nat) (h : Handle) (a : Ann), s.Sound → s.NothingOwed → s.part = .operating → s.current h = true →
     s.ann? h.slot = some a →
     ∃ t, exec (.retire tag h) s = .next t ∧ t.responses = s.responses ++ [⟨8, tag, .done, .retired .announcement⟩] ∧
       t.slot h.slot = { epoch := h.epoch, record := .free } ∧ t.pool.free = s.pool.free ++ [h.slot] ∧
       t.queue a.platform = (s.queue a.platform).erase h.slot ∧ (∀ p, p ≠ a.platform → t.queue p = s.queue p) ∧
       t.pool.trains = s.pool.trains ∧ t.pool.incidents = s.pool.incidents ∧
       (a.state = .playing →
         t.platform a.platform =
           { s.platform a.platform with player := .stopping, cue := none, playerDl := some (later s.lineTime 20) } ∧
         (48 + a.platform, Directive.stop) ∈ t.links.queue) ∧
       (∀ j, t.train? j = s.train? j) ∧ (∀ j, t.incident? j = s.incident? j) ∧ FixedKept s t ∧ EventKeeps s t)

/-- Owed work (R32 to R37). A PLATFORM ALARM that cannot be created, for want of a slot or of cap room, or that comes while one is owed
(the model's reading of R32 for a slot that has come free since, log 31), creates no record and is owed with the higher severity;
OFF drops it (R34). RETIRE of an announcement with no other slot free serves the first owed kind, in the order of R35, with its
severity, and the rest stays owed. RETIRE that brings the free count to 17 serves the first owed copy whose queue has room, incidents in
list order and platforms as they stand in the set. -/
def Obligations.OwedWorkIsRecordedAndServed : Prop :=
  (∀ (s : State) (p sev time : Nat), s.Sound → s.part = .operating → time < 864000 → p < s.tables.header.platforms →
     s.activeAt .platformAlarm (.platform p) = none →
     (1 ≤ sev → sev ≤ 7 → (s.pool.free = [] ∨ 96 ≤ s.incidentCount ∨ (s.platform p).owed.first ≠ none) →
       ∃ t, exec (.platformAlarm p true sev time) s = .next t ∧
         (t.platform p).owed = { (s.platform p).owed with first := some (max sev ((s.platform p).owed.first.getD 0)) } ∧
         (∀ q, q ≠ p → (t.platform q).owed = (s.platform q).owed) ∧ t.pool.free = s.pool.free ∧
         t.pool.incidents = s.pool.incidents ∧ (∀ i, t.incident? i = s.incident? i) ∧ (∀ i, t.train? i = s.train? i) ∧
         FixedKept s t) ∧
     ∃ t, exec (.platformAlarm p false sev time) s = .next t ∧
       (t.platform p).owed = { (s.platform p).owed with first := none } ∧ (∀ i, t.incident? i = s.incident? i)) ∧
  (∀ (s : State) (tag sev : Nat) (h : Handle) (a : Ann) (k : Kind) (loc : Location) (before after : List (Kind × Location)),
     s.Sound → s.part = .operating → s.current h = true → s.ann? h.slot = some a → s.pool.free = [] → s.incidentCount < 96 →
     (List.range 32).flatMap (fun i => [(Kind.sectionLockout, Location.sect i), (.breakerFailure, .sect i)])
       ++ (List.range 12).flatMap (fun i => [(.supplyTransfer, .substation i), (.powerDelay, .substation i)])
       ++ (List.range 48).flatMap (fun i => [(.platformAlarm, .platform i), (.platformConflict, .platform i)])
       ++ s.pool.trains.flatMap (fun i => [(.trainOverdue, .train (s.handle i)), (.unauthorised, .train (s.handle i))])
         = before ++ (k, loc) :: after →
     (∀ e ∈ before, s.owed e.1 e.2 = none) → s.owed k loc = some sev → s.activeAt k loc = none →
     ∃ t c, exec (.retire tag h) s = .next t ∧ t.incident? h.slot = some c ∧ c.kind = k ∧ c.location = some loc ∧
       c.severity = sev ∧ c.state = .raised ∧ c.raisedTime = s.lineTime ∧ c.occurrences = 1 ∧
       c.escDl = (ackLimit sev).map (fun n => later s.lineTime n) ∧ t.owed k loc = none ∧ t.pool.free = [] ∧
       (k ≠ .platformAlarm ∨ sev < 6 → ∀ e ∈ after, e ≠ (k, loc) → t.owed e.1 e.2 = s.owed e.1 e.2)) ∧
  (∀ (s : State) (tag i p j : Nat) (h : Handle) (a : Ann) (c : Incident) (part : IncidentAnn) (rest : List Nat)
     (before after : List (Nat × Nat)), s.Sound → s.part = .operating → s.current h = true → s.ann? h.slot = some a →
     (∀ e ∈ s.owedOrder, s.owed e.1 e.2 = none) → s.pool.free = j :: rest → rest.length = 15 →
     (s.liveIncidents.flatMap fun e => e.2.owedCopies.map fun q => (e.1, q)) = before ++ (i, p) :: after →
     (∀ e ∈ before, 16 ≤ ((s.queue e.2).erase h.slot).length) → ((s.queue p).erase h.slot).length < 16 →
     s.incident? i = some c → c.ann = some part → part.message ≠ 0 →
     ∃ t b, exec (.retire tag h) s = .next t ∧ t.incident? i = some { c with owedCopies := c.owedCopies.erase p } ∧
       t.ann? j = some b ∧ b.platform = p ∧ b.message = part.message ∧ b.priority = part.priority ∧ b.origin = .incident ∧
       b.source = some (s.handle i) ∧ b.minutes = (if part.copyDelay = true then delayMinutes c.restriction else none) ∧
       (b.state = .queued ∨ b.state = .selected) ∧ t.pool.free = rest ++ [h.slot] ∧
       (∀ e, e ≠ i → t.incident? e = s.incident? e))

/-- RETIRE of a train in any state (R31, R60, R61): the train list loses it, its slot holds no train, its queue entry and its
lease are gone, and a train RUNNING or OVERDUE leaves the occupants of its run section; no section changes otherwise but for what it
owes. Where it was the occupant, the waiter that arrived first takes its place and loses CONFLICT (R53); with none the platform is
free, and CLEAR INDICATOR is queued. Its approach announcements are retired, no other announcement names it any longer, the active incidents at it are cleared, or marked where
RAISED at severity 7 (R133), and its save entry is dropped. The shadow of the indicator stands as it was: that it
becomes CLEAR INDICATOR when the directive is sent is the model's reading of the last point of R61 (log 9). A count of 0 stays 0 (the
model's choice, log 22). -/
def Obligations.RetireTakesATrainOffTheLine : Prop :=
  ∀ (s : State) (tag : Nat) (h : Handle) (x : Train), s.Sound → s.QueuesOk → s.part = .operating → s.current h = true →
    s.train? h.slot = some x →
    let place := x.position.getD 0
    let waits := fun e : Nat × Train => e.1 ≠ h.slot ∧ e.2.state.atPlatform = true ∧ e.2.position = some place ∧
      e.2.holds.conflict = true
    let age := fun e : Nat × Train => diff (e.2.lastArr.getD s.lineTime) s.lineTime
    let occupant := x.state.atPlatform = true ∧ (s.platform place).occupant = some h
    ∃ t, exec (.retire tag h) s = .next t ∧ t.responses = s.responses ++ [⟨8, tag, .done, .retired .train⟩] ∧
      t.pool.trains = s.pool.trains.erase h.slot ∧ t.train? h.slot = none ∧
      (∀ k, ∀ e ∈ (t.substation k).queue, e.train ≠ h) ∧
      (∀ k w, x.lease = some (k, w) → ∀ l ∈ (t.substation k).leases, l.train ≠ h) ∧
      (∀ q, (q ≠ place ∨ ¬ occupant) → (t.platform q).occupant = (s.platform q).occupant) ∧
      (occupant → (∀ e ∈ s.liveTrains, ¬ waits e) → (t.platform place).occupant = none ∧
        (s.Alone h.slot place → (place, Directive.clearIndicator) ∈ t.links.queue)) ∧
      (occupant → ∀ before e after, s.liveTrains = before ++ e :: after → waits e → (∀ f ∈ before, waits f → age f < age e) →
        (∀ f ∈ after, waits f → age f ≤ age e) → (t.platform place).occupant = some (s.handle e.1) ∧
          ∃ y, t.train? e.1 = some y ∧ y.holds.conflict = false) ∧
      (∀ j a, t.ann? j = some a → a.train ≠ some h) ∧
      (∀ j a, s.ann? j = some a → a.train = some h →
        (a.origin = .approach → ∀ b, t.ann? j = some b → (t.slot j).epoch ≠ (s.slot j).epoch) ∧
        (a.origin = .operator → a.source = none → ∃ b, t.ann? j = some b ∧ b.train = none ∧ b.message = a.message ∧
          b.platform = a.platform ∧ b.plays = a.plays)) ∧
      (∀ k i c, k = .trainOverdue ∨ k = .unauthorised → s.activeAt k (.train h) = some (i, c) → ∃ y, t.incident? i = some y ∧
        if c.state = .raised ∧ c.severity = 7 then y.state = .raised ∧ y.causeEnded = true else y.state = .cleared) ∧
      t.control = (if x.saved = true then { s.control with saves := s.control.saves.filter fun e => e.train != h }
        else s.control) ∧
      (∀ i, (t.sect i).own = if x.state.isRunning = true ∧ i = s.runSectionOf x then
          { (s.sect i).own with occupants := (s.sect i).occupants - 1 } else (s.sect i).own) ∧
      EventKeeps s t

/-! ### Trains -/

/-- CREATE TRAIN that passes its checks (R45, R27, R29, R43): the head free slot with its next epoch, at the tail of the train
list, with the values of R43; POOL LOW is latched where 16 or fewer slots stay free; nothing else changes but the players'
selections. -/
def Obligations.CreateTrainTakesTheHeadSlot : Prop :=
  ∀ (s : State) (tag v sv o b i : Nat) (m : Option Bool) (rest : List Nat), s.Sound → s.part = .operating →
    1 ≤ v → v ≤ 16777215 → 1 ≤ sv → sv ≤ 9999 → b < 864000 → s.originOk o = true → (∀ e ∈ s.liveTrains, e.2.vehicle ≠ v) →
    s.trainCount < 64 → s.pool.free = i :: rest → 16 ≤ rest.length →
    ∃ t, exec (.createTrain tag v sv o b m) s = .next t ∧
      t.train? i = some { vehicle := v, service := sv, origin := o, tripStart := b,
                          schedArr := later b (-((s.vals o).d0 : Int)), holds := { manual := m.getD false } } ∧
      t.handle i = ⟨i, State.nextEpoch (s.slot i).epoch⟩ ∧ t.pool.trains = s.pool.trains ++ [i] ∧ t.pool.free = rest ∧
      t.responses = s.responses ++ [⟨5, tag, .done, .created ⟨i, State.nextEpoch (s.slot i).epoch⟩⟩] ∧
      t.attention.latches = (if rest.length ≤ 16 then { s.attention.latches with poolLow := true } else s.attention.latches) ∧
      (∀ j, j ≠ i → t.train? j = s.train? j) ∧ (∀ j, t.incident? j = s.incident? j) ∧
      t.pool.incidents = s.pool.incidents ∧ t.pool.queues = s.pool.queues ∧ FixedKept s t ∧ EventKeeps s t

/-- AMEND TRAIN (R46): the amendments given, the scheduled arrival computed again where the origin or trip start is given, the
record as it stands in the response, and no other record touched. The manual hold (R47): set outside WAITING PERMIT it is recorded
and the state stays; set in WAITING PERMIT the train goes HELD with it, out of every queue, HOLD is queued and the queue it left is
served (R113, R111); cleared in HELD it is taken out, and with no reason left the hold-removal check is made (R80); otherwise it
is removed. -/
def Obligations.AmendTrainActsOnFieldsAndHold : Prop :=
  (∀ (s : State) (tag : Nat) (h : Handle) (x : Train) (sv o b : Option Nat), s.part = .operating → s.current h = true →
     s.train? h.slot = some x → (∀ n, sv = some n → 1 ≤ n ∧ n ≤ 9999) → (∀ n, o = some n → s.originOk n = true) →
     (∀ n, b = some n → n < 864000) → (x.state = .awaiting ∨ (o = none ∧ b = none)) →
     let y := { x with
       service := sv.getD x.service, origin := o.getD x.origin, tripStart := b.getD x.tripStart
       schedArr := if o = none ∧ b = none then x.schedArr
         else later (b.getD x.tripStart) (-((s.vals (o.getD x.origin)).d0 : Int)) }
     ∃ t, exec (.amendTrain tag h sv o b none) s = .next t ∧ t.train? h.slot = some y ∧
       t.responses = s.responses ++ [⟨6, tag, .done, .train h y⟩] ∧ (∀ j, j ≠ h.slot → t.train? j = s.train? j) ∧
       (∀ j, t.incident? j = s.incident? j) ∧ t.pool.trains = s.pool.trains ∧ t.pool.free = s.pool.free ∧ FixedKept s t ∧
       EventKeeps s t) ∧
  (∀ (s : State) (tag : Nat) (h : Handle) (x : Train), s.Sound → s.QueuesOk → s.part = .operating → s.current h = true →
     s.train? h.slot = some x →
     (x.state ≠ .waiting → ∃ t, exec (.amendTrain tag h none none none (some true)) s = .next t ∧
       t.train? h.slot = some { x with holds := { x.holds with manual := true } } ∧
       (∀ j, j ≠ h.slot → t.train? j = s.train? j) ∧ FixedKept s t ∧ EventKeeps s t) ∧
     (x.state = .waiting → x.holds.manual = false → ∃ t y, exec (.amendTrain tag h none none none (some true)) s = .next t ∧
       t.train? h.slot = some y ∧ y.state = .held ∧ y.holds.manual = true ∧ y.permitReq = none ∧ EventKeeps s t ∧
       (∀ k, ∀ e ∈ (t.substation k).queue, e.train ≠ h) ∧
       (∀ p, x.position = some p → s.Alone h.slot p → (p, Directive.hold) ∈ t.links.queue) ∧
       ∀ k, (∃ e ∈ (s.substation k).queue, e.train = h) → s.activeAt .powerDelay (.substation k) = none →
         Served s t k ((s.substation k).queue.filter fun e => e.train != h) (s.substation k).leases (s.substation k).inUse) ∧
     (x.state = .held → x.holds.manual = true → ∀ p, x.position = some p →
       let left := { x.holds with manual := false }
       ∃ t, exec (.amendTrain tag h none none none (some false)) s = .next t ∧
         (left ≠ {} → t.train? h.slot = some { x with holds := left }) ∧ (left = {} → Rechecked s t h.slot p x) ∧
         (∀ j, j ≠ h.slot → t.train? j = s.train? j) ∧ t.sects = s.sects ∧ t.control = s.control ∧ EventKeeps s t) ∧
     (x.state ≠ .held ∨ x.holds.manual = false → ∃ t, exec (.amendTrain tag h none none none (some false)) s = .next t ∧
       t.train? h.slot = some { x with holds := { x.holds with manual := false } } ∧
       (∀ j, j ≠ h.slot → t.train? j = s.train? j) ∧ FixedKept s t ∧ EventKeeps s t))

/-- FORCE DEPART (R48): accepted in DWELLING, and in HELD without RESTRICTION and NO SUPPLY; MANUAL is gone, the departure time
is now, no deadline is left, and the train is HELD, WAITING PERMIT or RELEASED, as the response says. HELD with CONFLICT left, it stays
HELD. Otherwise the reasons that apply now are gathered (R77, R80): with one it is HELD, with HOLD queued as R81 says; with none it asks
for a permit (R107), and is RELEASED with DEPART where the queue is empty and the weight fits, else WAITING PERMIT at the tail. -/
def Obligations.ForceDepartGoesToTheGate : Prop :=
  (∀ (s : State) (tag : Nat) (h : Handle) (x : Train), s.part = .operating → s.current h = true → s.train? h.slot = some x →
    s.ClockOk →
    ((x.state = .dwelling ∨ (x.state = .held ∧ x.holds.restriction = false ∧ x.holds.noSupply = false)) →
      ∃ t y, exec (.forceDepart tag h) s = .next t ∧ t.train? h.slot = some y ∧ y.holds.manual = false ∧
        y.depTime = some s.lineTime ∧ (y.state = .held ∨ y.state = .waiting ∨ y.state = .released) ∧
        (x.state = .dwelling → y.depDl = none) ∧ t.responses = s.responses ++ [⟨7, tag, .done, .trainState y.state⟩] ∧
        (∀ j, j ≠ h.slot → t.train? j = s.train? j) ∧ t.sects = s.sects ∧ t.control = s.control ∧ EventKeeps s t) ∧
    ((x.state ≠ .dwelling ∧ (x.state ≠ .held ∨ x.holds.restriction = true ∨ x.holds.noSupply = true)) →
      exec (.forceDepart tag h) s = .next (s.reply ⟨7, tag, .wrongState, .empty⟩))) ∧
  (∀ (s t : State) (tag : Nat) (h : Handle) (x : Train), s.Sound → s.ClockOk → s.part = .operating → s.current h = true →
    s.train? h.slot = some x → exec (.forceDepart tag h) s = .next t →
    (x.state = .dwelling ∨ (x.state = .held ∧ x.holds.restriction = false ∧ x.holds.noSupply = false)) →
    let p := x.position.getD 0
    let sec := (s.platformCfg p).runSection
    let left : HoldSet := { x.holds with manual := false }
    let g : HoldSet := { manual := false, restriction := s.held p, noSupply := !s.supplied sec, conflict := x.holds.conflict }
    let passed := ∃ o y, (s.platform p).occupant = some o ∧ s.train? o.slot = some y ∧ y.state = .released
    let y := { x with holds := g, depTime := some s.lineTime, depDl := none }
    (x.state = .held → left ≠ {} → t.train? h.slot = some { x with holds := left, depTime := some s.lineTime }) ∧
    (x.state = .dwelling ∨ left = {} → g ≠ {} → t.train? h.slot = some { y with state := .held } ∧
      (g.restriction = true ∨ g.noSupply = true → g.conflict = false ∨ ¬ passed → (p, Directive.hold) ∈ t.links.queue)) ∧
    (x.state = .dwelling ∨ left = {} → g = {} → ∀ k, s.supplier sec = some k → k < Config.substationEntries →
      let b := s.substation k
      let w := if 128 ≤ (s.sect sec).counter ∧ b.budget ≠ 1 then 2 else 1
      (b.queue = [] → b.inUse + w ≤ b.budget →
        t.train? h.slot = some { y with permitReq := some s.lineTime, lease := some (k, w), state := .released } ∧
        (p, Directive.depart) ∈ t.links.queue) ∧
      ((b.queue ≠ [] ∨ b.budget < b.inUse + w) →
        t.train? h.slot = some { y with permitReq := some s.lineTime, state := .waiting } ∧
        (t.substation k).queue = b.queue ++ [⟨h, w, s.lineTime, some (later s.lineTime s.line.waitLimit)⟩])))

/-- The expiry of a departure deadline (R77). With a reason to hold, the train is HELD with the reasons that apply, its deadline
is gone, and HOLD is queued for its indicator where a reason other than CONFLICT is among them, but for a waiter while the occupant
is RELEASED, and with CONFLICT alone nothing is (R81). With none, a permit is asked for
(R107, R108, R106): with an empty queue and room under the budget it is granted, with its lease, DEPART and the state RELEASED;
otherwise the request stands at the tail of the queue and the train waits. -/
def Obligations.DepartureExpiryChecksTheSchedule : Prop :=
  (∀ (s : State) (i p : Nat) (x : Train), s.Sound → s.part = .operating → s.train? i = some x → x.state = .dwelling →
     x.position = some p → x.depDl = some s.lineTime →
     let g : HoldSet := { manual := x.holds.manual, restriction := s.held p, noSupply := !s.supplied (s.platformCfg p).runSection,
                          conflict := x.holds.conflict }
     let passed := ∃ o y, (s.platform p).occupant = some o ∧ s.train? o.slot = some y ∧ y.state = .released
     g ≠ {} →
     ∃ t, exec (.departureExpiry i) s = .next t ∧ t.train? i = some { x with holds := g, depDl := none, state := .held } ∧
       ((g.manual = true ∨ g.restriction = true ∨ g.noSupply = true) → (g.conflict = false ∨ ¬ passed) →
         (p, Directive.hold) ∈ t.links.queue) ∧
       ((g.manual = false ∧ g.restriction = false ∧ g.noSupply = false) ∨ (g.conflict = true ∧ passed) → ∀ q < 48, ∀ e : Directive,
         ((q, e) ∈ t.links.queue ↔ (q, e) ∈ s.links.queue)) ∧
       (∀ j, j ≠ i → t.train? j = s.train? j) ∧ FixedKept s t ∧ EventKeeps s t) ∧
  (∀ (s : State) (i p k : Nat) (x : Train), s.Sound → s.part = .operating → s.train? i = some x → x.state = .dwelling →
     x.position = some p → x.depDl = some s.lineTime → x.holds = {} → s.held p = false →
     s.supplied (s.platformCfg p).runSection = true → s.supplier (s.platformCfg p).runSection = some k →
     k < Config.substationEntries →
     let b := s.substation k
     let w := if 128 ≤ (s.sect (s.platformCfg p).runSection).counter ∧ b.budget ≠ 1 then 2 else 1
     (b.queue = [] → b.inUse + w ≤ b.budget → ∃ t, exec (.departureExpiry i) s = .next t ∧
       t.train? i = some { x with
         depDl := none, permitReq := some s.lineTime, lease := some (k, w), state := .released } ∧
       t.substation k = { b with
         leases := b.leases ++ [⟨s.handle i, w, later s.lineTime (s.vals p).accel⟩], inUse := b.inUse + w } ∧
       (p, Directive.depart) ∈ t.links.queue ∧ (∀ j, j ≠ k → t.substation j = s.substation j) ∧
       (∀ j, j ≠ i → t.train? j = s.train? j) ∧ t.sects = s.sects ∧ t.control = s.control ∧ EventKeeps s t) ∧
     ((b.queue ≠ [] ∨ b.budget < b.inUse + w) → ∃ t, exec (.departureExpiry i) s = .next t ∧
       t.train? i = some { x with depDl := none, permitReq := some s.lineTime, state := .waiting } ∧
       t.substation k = { b with
         queue := b.queue ++ [⟨s.handle i, w, s.lineTime, some (later s.lineTime s.line.waitLimit)⟩] } ∧
       (∀ q < 48, ∀ e : Directive, ((q, e) ∈ t.links.queue ↔ (q, e) ∈ s.links.queue)) ∧
       (∀ j, j ≠ k → t.substation j = s.substation j) ∧ (∀ j, j ≠ i → t.train? j = s.train? j) ∧ t.sects = s.sects ∧
       t.control = s.control ∧ EventKeeps s t))

/-- ARRIVE of an AWAITING train at its origin (R50, R64, R65, R52): position, times, the departure time of the origin rule, and
occupant, or CONFLICT with PLATFORM CONFLICT active or owed. -/
def Obligations.ArriveAtTheOriginBeginsTheDwell : Prop :=
  ∀ (s : State) (i v p time : Nat) (x : Train), s.Sound → s.VehiclesOnce → s.part = .operating → s.train? i = some x →
    x.state = .awaiting → x.vehicle = v → 1 ≤ v → v ≤ 16777215 → x.origin = p → p < s.tables.header.platforms → time < 864000 →
    let a := (s.effective time).1
    let m := later a (s.vals p).dmin
    let d := if 0 < diff m x.tripStart then x.tripStart else m
    let sched := later x.tripStart (-((s.vals p).d0 : Int))
    ∃ t, exec (.arrive v p time) s = .next t ∧
      t.train? i = some { x with
        position := some p, lastArr := some a, schedArr := sched, lateness := diff sched a, skip := 0, approached := false
        timeClamped := (s.effective time).2, depTime := some d, saturated := false, clamp := .unclamped
        depDl := some (if 0 < diff s.lineTime d then d else s.lineTime), state := .dwelling
        holds := if (s.platform p).occupant = none then x.holds else { x.holds with conflict := true } } ∧
      (t.platform p).occupant = some ((s.platform p).occupant.getD (s.handle i)) ∧
      (∀ j, j ≠ i → t.train? j = s.train? j) ∧ t.pool.trains = s.pool.trains ∧ t.links.badCount = 0 ∧
      ((s.platform p).occupant ≠ none → (t.activeAt .platformConflict (.platform p)).isSome = true ∨
        (t.owed .platformConflict (.platform p)).isSome = true) ∧
      ((s.platform p).occupant = none → FixedKept s t ∧ (p, Directive.dwell d) ∈ t.links.queue)

/-- An accepted ARRIVE of a RUNNING or OVERDUE train (R51, R67, R76, R65, R52): the position, the schedule advanced over the
skipped platforms, the lateness against it, the marks of the run gone, the departure time, saturated flag and clamp note that the
ten stages give from the records as they stand, Dmin..Dmax after the arrival, its deadline, and DWELL where it finds the platform
free; occupant, or CONFLICT with PLATFORM CONFLICT active or owed; and one occupant less in the section it ran through; a count of 0 stays 0 (the model's choice,
log 22). -/
def Obligations.ArriveEndsARun : Prop :=
  ∀ (s : State) (i v p q time : Nat) (x : Train), s.Sound → s.QueuesOk → s.VehiclesOnce → s.part = .operating →
    s.train? i = some x → (x.state = .running ∨ x.state = .overdue) → x.position = some q → x.vehicle = v → 1 ≤ v →
    v ≤ 16777215 → p < s.tables.header.platforms → time < 864000 → s.dist (s.next q) p ≤ 3 → p ≠ q →
    q < s.tables.header.platforms →
    (∀ j, j < s.dist (s.next q) p → (s.platformCfg ((s.next q + j) % s.tables.header.platforms)).terminus = false) →
    (s.vals p).dmin ≤ (s.vals p).dmax →
    let a := (s.effective time).1
    let k := s.dist (s.next q) p
    let leg := fun j : Nat => s.vals ((s.next q + j) % s.tables.header.platforms)
    let sched := later x.schedArr (((List.range k).map fun j => (leg j).d0 + (leg j).run).sum : Nat)
    ∃ t y, exec (.arrive v p time) s = .next t ∧ t.train? i = some y ∧ y.state = .dwelling ∧ y.position = some p ∧
      y.lastArr = some a ∧ y.schedArr = sched ∧ y.lateness = diff sched a ∧ y.skip = k ∧
      y.predicted = none ∧ y.overdueDl = none ∧ y.approachDl = none ∧ y.approached = false ∧ y.lease = none ∧
      y.timeClamped = (s.effective time).2 ∧
      (∃ d : Nat, (s.vals p).dmin ≤ d ∧ d ≤ (s.vals p).dmax ∧ y.depTime = some (later a d)) ∧
      (∀ d, y.depTime = some d → y.depDl = some (if 0 < diff s.lineTime d then d else s.lineTime)) ∧
      (s.NothingOwed →
        let dwell := t.dwellOf i p a (diff sched a)
        y.depTime = some (later a dwell.1) ∧ y.saturated = dwell.2.1 ∧ y.clamp = dwell.2.2 ∧
          ((s.Alone i p ∨ s.PlainHolds) → (s.platform p).occupant = none →
            (p, Directive.dwell (later a dwell.1)) ∈ t.links.queue)) ∧
      y.holds = (if (s.platform p).occupant = none then x.holds else { x.holds with conflict := true }) ∧
      (t.platform p).occupant = some ((s.platform p).occupant.getD (s.handle i)) ∧
      ((s.platform p).occupant ≠ none → (t.activeAt .platformConflict (.platform p)).isSome = true ∨
        (t.owed .platformConflict (.platform p)).isSome = true) ∧
      (∀ j, (t.sect j).own = if j = (s.platformCfg q).runSection then
        { (s.sect j).own with occupants := (s.sect j).occupants - 1 } else (s.sect j).own) ∧
      t.pool.trains = s.pool.trains ∧ t.control = s.control ∧ t.links.badCount = 0

/-- The stages of the dwell computation (R68 to R76), read from the records as they stand. Stage 1: the schedule error. Stage 2: the
forward gap. Stage 3: the follower is a candidate that stands before every other, by ring distance, then running before occupant
before waiter, then by age, then by list order, and there is one exactly when there is a candidate. Stage 4: its arrival from its
state, and the backward gap. Stage 5: the headway error. Stage 6: the largest DELAY that covers the platform. Stages 7 to 9: the
accumulated, scaled and clamped dwell with its notes. -/
def Obligations.DwellIsComputedInStages : Prop :=
  (∀ (s : State) (p a : Nat) (l hb hf : Int),
     scheduleError l = max (-6000) (min 6000 (-l)) ∧
     (∀ d, (s.platform p).lastDep = some d → s.forwardGap p a = diff d a) ∧
     ((s.platform p).lastDep = none → s.forwardGap p a = (s.vals p).headway) ∧
     headwayError hb hf = max (-6000) (min 6000 (if 0 ≤ hb - hf then (hb - hf) / 2 else -((hf - hb) / 2))) ∧
     (∀ e ∈ s.liveIncidents, ∀ v first last, e.2.state ≠ .cleared → e.2.restriction = some ⟨.delay v, first, last⟩ →
       s.covers first last p = true → v ≤ s.delayAt p) ∧
     (s.delayAt p = 0 ∨ ∃ e ∈ s.liveIncidents, ∃ first last, e.2.state ≠ .cleared ∧
       e.2.restriction = some ⟨.delay (s.delayAt p), first, last⟩ ∧ s.covers first last p = true)) ∧
  (∀ (s : State) (i p : Nat),
     let at_ := fun e : Nat × Train => e.2.position.getD 0
     let candidate := fun e : Nat × Train => e.1 ≠ i ∧ e.2.state ≠ .awaiting ∧ e.2.position ≠ none ∧ s.dist (at_ e) p ≠ 0
     let rank := fun e : Nat × Train => if e.2.state.isRunning = true then 0
       else if (s.platform (at_ e)).occupant = some (s.handle e.1) then 1 else 2
     let age := fun e : Nat × Train =>
       diff ((if e.2.state.isRunning = true then e.2.lastDep else e.2.lastArr).getD s.lineTime) s.lineTime
     let before := fun e f : Nat × Train => s.dist (at_ e) p < s.dist (at_ f) p ∨ s.dist (at_ e) p = s.dist (at_ f) p ∧
       (rank e < rank f ∨ rank e = rank f ∧ age f < age e)
     (∀ pre e post, s.liveTrains = pre ++ e :: post → candidate e → (∀ f ∈ pre, candidate f → before e f) →
       (∀ f ∈ post, candidate f → ¬ before f e) → s.follower i p = some e) ∧
     (s.follower i p = none ↔ ∀ e ∈ s.liveTrains, ¬ candidate e)) ∧
  (∀ (s : State) (i p a : Nat) (l : Int),
     let q := fun x : Train => x.position.getD 0
     let legs := fun x : Train => (((List.range (s.dist (q x) p - 1)).map fun j =>
       (s.vals ((s.next (q x) + j) % s.ringSize)).d0 + (s.vals ((s.next (q x) + j) % s.ringSize)).run).sum : Nat)
     let leaving := fun x : Train => if x.state = .released then s.lineTime
       else if diff s.lineTime (x.depTime.getD s.lineTime) ≤ 0 then s.lineTime else x.depTime.getD s.lineTime
     (∀ x : Train, x.state.isRunning = true → s.followerArrival x p = later (x.predicted.getD s.lineTime) (legs x)) ∧
     (∀ x : Train, x.state.atPlatform = true →
       s.followerArrival x p = later (later (leaving x) ((s.vals (q x)).run : Nat)) (legs x)) ∧
     (∀ e, s.follower i p = some e → s.backwardGap i p a = diff a (s.followerArrival e.2 p)) ∧
     (s.follower i p = none → s.backwardGap i p a = (s.vals p).headway) ∧
     let v := s.vals p
     let acc := accumulate v (headwayError (s.backwardGap i p a) (s.forwardGap p a)) (scheduleError l) (s.delayAt p)
     let d := scaleDwell acc.1
     v.dmin ≤ v.dmax → s.dwellOf i p a l = (max (v.dmin : Int) (min (v.dmax : Int) d), acc.2,
       if d < v.dmin then ClampNote.low else if (v.dmax : Int) < d then ClampNote.high else ClampNote.unclamped))

/-- An accepted DEPART (R54, R55, R56): the train runs with its prediction and its overdue deadline, out of every queue, its
lease kept; from DWELLING, HELD and WAITING PERMIT, UNAUTHORISED DEPARTURE at it is active or owed. The approach check for the
successor (R158): nothing without a lead or a player; an approach deadline while more than the lead is left; else no deadline, and
the announcement is made where there is room (R159). -/
def Obligations.DepartBeginsARun : Prop :=
  ∀ (s : State) (i v p time : Nat) (x : Train), s.Sound → s.QueuesOk → s.VehiclesOnce → s.part = .operating →
    s.train? i = some x → x.state.atPlatform = true → x.position = some p → x.vehicle = v → 1 ≤ v → v ≤ 16777215 →
    p < s.tables.header.platforms → time < 864000 →
    let a := (s.effective time).1
    let n := later a (s.vals p).run
    ∃ t y, exec (.depart v p time) s = .next t ∧ t.train? i = some y ∧ y.state = .running ∧ y.position = some p ∧
      y.lastDep = some a ∧ y.schedArr = later x.schedArr ((s.vals p).d0 + (s.vals p).run : Nat) ∧ y.predicted = some n ∧
      y.overdueDl = some (if diff s.lineTime (later n s.line.overdueMargin) ≤ 0 then s.lineTime
        else later n s.line.overdueMargin) ∧
      y.depTime = none ∧ y.depDl = none ∧ y.permitReq = none ∧ y.holds = { manual := x.holds.manual } ∧
      y.timeClamped = (s.effective time).2 ∧ y.lease = x.lease ∧ (t.platform p).lastDep = some a ∧
      (t.platform p).occupant ≠ some (s.handle i) ∧ (∀ k, ∀ e ∈ (t.substation k).queue, e.train ≠ s.handle i) ∧
      (∀ j, (t.sect j).own = if j = (s.platformCfg p).runSection ∧ j < s.sects.length then
        { (s.sect j).own with occupants := (s.sect j).occupants + 1 } else (s.sect j).own) ∧
      (x.state ≠ .released → (t.activeAt .unauthorised (.train (s.handle i))).isSome = true ∨
        (t.owed .unauthorised (.train (s.handle i))).isSome = true) ∧
      (let c := s.platformCfg (s.next p)
       ((c.approachLead = 0 ∨ c.player = false) → y.approachDl = x.approachDl ∧ y.approached = x.approached) ∧
       (c.approachLead ≠ 0 → c.player = true → c.approachLead < diff s.lineTime n →
         y.approachDl = some (later n (-(c.approachLead : Int))) ∧ y.approached = x.approached) ∧
       (c.approachLead ≠ 0 → c.player = true → diff s.lineTime n ≤ c.approachLead → y.approachDl = none ∧
         (x.state = .released → x.holds.conflict = false → (∀ e ∈ s.liveTrains, e.1 ≠ i → State.waitsAt e.2 p = false) →
           let made := 17 ≤ s.freeCount ∧ (s.queue (s.next p)).length < 16
           y.approached = (if made then true else x.approached) ∧
           (made → ∃ j b, t.ann? j = some b ∧ j ∈ t.queue (s.next p) ∧ b.platform = s.next p ∧ b.message = c.approachCode ∧
             b.priority = 1 ∧ b.origin = .approach ∧ b.train = some (s.handle i) ∧
             b.minutes = some (max 0 (min 99 ((diff s.lineTime n + 599) / 600))).toNat ∧ b.mode = .once)))) ∧
      t.pool.trains = s.pool.trains ∧ t.control = s.control

/-- Passage reports that no train takes (R3, R49, R50, R51, R54): a vehicle identity out of range, an unconfigured platform, or a train
that may not take the report, an ARRIVE at the position itself, more than three platforms on or past a terminus among them, latches
REPORT CONFLICT; an identity no live train carries is a foreign passage. No train changes, no section, no substation and nothing of
Pattern Control, and of a platform nothing but the last foreign passage and, at the end of the event, the player and its cue. -/
def Obligations.PassagesNoTrainTakes : Prop :=
  ∀ (s : State) (v p time : Nat) (c : Instr), s.part = .operating → time < 864000 →
    (c = .arrive v p time ∨ c = .depart v p time) →
    let ring := fun x : Platform => { x with player := .idle, cue := none, playerDl := none }
    ((s.tables.header.platforms ≤ p ∨ v < 1 ∨ 16777215 < v ∨
        ∃ i x, s.trainByVehicle v = some (i, x) ∧
          (c = .depart v p time ∧ (x.state.atPlatform = false ∨ x.position ≠ some p) ∨
            c = .arrive v p time ∧ (x.state.atPlatform = true ∨ x.state = .awaiting ∧ x.origin ≠ p ∨
              ∃ q, x.state.isRunning = true ∧ x.position = some q ∧ (p = q ∨ 3 < s.dist (s.next q) p ∨
                ∃ j, j < s.dist (s.next q) p ∧
                  (s.platformCfg ((s.next q + j) % s.tables.header.platforms)).terminus = true)))) →
      ∃ t, exec c s = .next t ∧ t.attention.latches = { s.attention.latches with reportConflict := true } ∧
        (∀ q, t.train? q = s.train? q) ∧ (∀ q, ring (t.platform q) = ring (s.platform q)) ∧ FixedKept s t) ∧
    (p < s.tables.header.platforms → p < s.platforms.length → 1 ≤ v → v ≤ 16777215 → s.trainByVehicle v = none →
      ∃ t, exec c s = .next t ∧ t.attention.latches = { s.attention.latches with foreignPassage := true } ∧
        ring (t.platform p) = ring { s.platform p with lastForeign := some (v, (s.effective time).1) } ∧
        (∀ q, q ≠ p → ring (t.platform q) = ring (s.platform q)) ∧ (∀ q, t.train? q = s.train? q) ∧ FixedKept s t)

/-- The overdue deadline (R57) and the approach deadline (R158, R159) of a running train. -/
def Obligations.OverdueAndApproachExpiries : Prop :=
  ∀ (s : State) (i p : Nat) (x : Train), s.Sound → s.part = .operating → s.train? i = some x → x.position = some p →
    (x.state = .running → x.overdueDl = some s.lineTime →
      ∃ t y, exec (.overdueExpiry i) s = .next t ∧ t.train? i = some y ∧
        { y with owed := {} } = { x with owed := {}, state := .overdue, overdueDl := none } ∧
        (∀ j, j ≠ i → t.train? j = s.train? j) ∧
        ((t.activeAt .trainOverdue (.train (s.handle i))).isSome = true ∨
          (t.owed .trainOverdue (.train (s.handle i))).isSome = true) ∧
        FixedKept s t ∧ EventKeeps s t) ∧
    (x.state.isRunning = true → x.approachDl = some s.lineTime → ∀ g, x.predicted = some g →
      let n := s.next p
      let made := 17 ≤ s.freeCount ∧ (s.queue n).length < 16
      ∃ t, exec (.approachExpiry i) s = .next t ∧
        t.train? i = some { x with approachDl := none, approached := if made then true else x.approached } ∧
        (made → ∃ j a, s.pool.free.head? = some j ∧ t.ann? j = some a ∧ j ∈ t.queue n ∧ a.platform = n ∧
          a.message = (s.platformCfg n).approachCode ∧ a.priority = 1 ∧ a.origin = .approach ∧ a.train = some (s.handle i) ∧
          a.minutes = some (max 0 (min 99 ((diff s.lineTime g + 599) / 600))).toNat ∧ a.mode = .once ∧ a.plays = 0) ∧
        (¬ made → t.pool.free = s.pool.free ∧ t.pool.queues = s.pool.queues) ∧
        (∀ j, j ≠ i → t.train? j = s.train? j) ∧ FixedKept s t ∧ EventKeeps s t)

/-! ### Incidents -/

/-- RAISE INCIDENT that passes its checks (R124, R125, R27, R128, R140): the record in the head free slot, RAISED now, with its
escalation deadline, on the incident list, copied where its announcement has a message to every covered platform with a player, or
owed there (R139, R140, R33). -/
def Obligations.RaiseIncidentCreatesTheRecord : Prop :=
  ∀ (s : State) (tag sev lk n i : Nat) (r : RestrictionArg) (ann : AnnouncementArg) (loc : Option Location)
    (re : Option Restriction) (an : Option IncidentAnn) (rest : List Nat), s.Sound → s.part = .operating → 1 ≤ sev → sev ≤ 7 →
    s.raiseLocation lk n = some loc → s.restrictionOf r = some re → s.raiseAnnouncement loc ann = some an →
    s.incidentCount < 96 → s.pool.free = i :: rest → 16 ≤ rest.length →
    ∃ t y, exec (.raiseIncident tag sev lk n r ann) s = .next t ∧ t.incident? i = some y ∧
      { y with copied := false, owedCopies := [] } =
        { kind := .operator, severity := sev, location := loc, raisedTime := s.lineTime, restriction := re, ann := an
          escDl := (ackLimit sev).map fun d => later s.lineTime d } ∧
      (y.copied = true ↔ ∃ a, an = some a ∧ a.message ≠ 0) ∧
      (∀ q ∈ y.owedCopies, ∃ a, an = some a ∧ a.message ≠ 0 ∧ q < s.tables.header.platforms ∧ (s.platformCfg q).player = true ∧
        s.covered a.coverage loc q = true) ∧
      (∀ a q, an = some a → a.message ≠ 0 → q < s.tables.header.platforms → (s.platformCfg q).player = true →
        s.covered a.coverage loc q = true →
        (q ∈ y.owedCopies ∨ ∃ j b, t.ann? j = some b ∧ b.platform = q ∧ b.source = some (t.handle i) ∧ b.message = a.message ∧
          b.priority = a.priority) ∧
        (re = none → 16 ≤ (s.queue q).length → q ∈ y.owedCopies)) ∧ t.handle i = ⟨i, State.nextEpoch (s.slot i).epoch⟩ ∧
      i ∈ t.pool.incidents ∧ t.responses = s.responses ++ [⟨9, tag, .done, .incident (t.handle i) y⟩] ∧
      t.pool.trains = s.pool.trains ∧ EventKeeps s t

/-- AMEND INCIDENT of an active incident with nothing owed (R136, R129): the amendments given stand, a RAISED incident's
escalation deadline follows a changed severity, and a CLEARED incident is refused. The state stays, but that the model lets a POWER
DELAY be cleared by the HOLD its own amendment gives it (log 42). -/
def Obligations.AmendIncidentSetsTheFieldsGiven : Prop :=
  ∀ (s : State) (tag : Nat) (h : Handle) (c : Incident) (sev : Option Nat) (r : Option RestrictionArg)
    (ann : Option AnnouncementArg) (re : Option (Option Restriction)) (an : Option (Option IncidentAnn)),
    s.Sound → s.NothingOwed → s.part = .operating → s.current h = true → s.incident? h.slot = some c →
    (c.state = .cleared → exec (.amendIncident tag h sev r ann) s = .next (s.reply ⟨10, tag, .wrongState, .empty⟩)) ∧
    (c.state ≠ .cleared → (∀ n, sev = some n → 1 ≤ n ∧ n ≤ 7) → checkGiven s.restrictionOf r = some re →
      checkGiven s.amendedAnnouncement ann = some an →
      ∃ t y, exec (.amendIncident tag h sev r ann) s = .next t ∧ t.incident? h.slot = some y ∧
        y.severity = sev.getD c.severity ∧ y.restriction = re.getD c.restriction ∧ y.ann = an.getD c.ann ∧
        y.kind = c.kind ∧ y.location = c.location ∧ y.raisedTime = c.raisedTime ∧ y.occurrences = c.occurrences ∧
        (y.state = .raised → y.escDl = if sev.getD c.severity = c.severity then c.escDl
          else (ackLimit y.severity).map fun d => later s.lineTime d) ∧
        (y.state = c.state ∨ c.kind = .powerDelay) ∧ t.pool.trains = s.pool.trains ∧ EventKeeps s t)

/-- ACKNOWLEDGE and CLEAR (R130, R131, R134): where each is accepted, what the incident becomes, and where each is refused. -/
def Obligations.AcknowledgeAndClear : Prop :=
  ∀ (s : State) (tag : Nat) (h : Handle) (c : Incident), s.Sound → s.part = .operating → s.current h = true →
    s.incident? h.slot = some c →
    (c.state = .raised → ∃ t, exec (.acknowledge tag h) s = .next t ∧
      t.incident? h.slot = some (if c.causeEnded = true
        then { c with ackTime := some s.lineTime, escDl := none, state := .cleared, owedCopies := [] }
        else { c with ackTime := some s.lineTime, escDl := none, state := .acknowledged }) ∧
      t.responses = s.responses ++ [⟨11, tag, .done, .incidentState (if c.causeEnded = true then .cleared else .acknowledged)⟩] ∧
      t.pool.trains = s.pool.trains ∧ EventKeeps s t) ∧
    (c.state ≠ .raised → exec (.acknowledge tag h) s = .next (s.reply ⟨11, tag, .wrongState, .empty⟩)) ∧
    ((c.state = .acknowledged ∨ c.state = .raised ∧ c.severity < 7) → ∃ t, exec (.clear tag h) s = .next t ∧
      t.incident? h.slot = some { c with state := .cleared, escDl := none, owedCopies := [] } ∧
      t.responses = s.responses ++ [⟨12, tag, .done, .empty⟩] ∧
      (∀ j a, t.ann? j = some a → a.source = some h → a.message ≠ (c.ann.map IncidentAnn.clear).getD 0 →
        ∃ b, s.ann? j = some b ∧ b.source = some h ∧ b.state ≠ .queued ∧ b.state ≠ .resting) ∧
      t.pool.trains = s.pool.trains ∧ EventKeeps s t) ∧
    ((c.state = .cleared ∨ c.state = .raised ∧ 7 ≤ c.severity) →
      exec (.clear tag h) s = .next (s.reply ⟨12, tag, .wrongState, .empty⟩))

/-- The escalation of an unacknowledged incident (R128, R129, R25): one severity up, a new deadline by the acknowledgement limit
of the new severity, and its place after every incident of at least that severity; and the limits themselves (R128). -/
def Obligations.EscalationFollowsTheLimits : Prop :=
  (∀ (s : State) (i : Nat) (c : Incident), s.Sound → s.part = .operating → s.incident? i = some c → c.state = .raised →
     c.escDl = some s.lineTime →
     ∃ t before after, exec (.escalationExpiry i) s = .next t ∧
       t.incident? i = some { c with
         severity := c.severity + 1, escDl := (ackLimit (c.severity + 1)).map fun n => later s.lineTime n } ∧
       s.pool.incidents.erase i = before ++ after ∧ t.pool.incidents = before ++ i :: after ∧
       (∀ j ∈ before, ∀ e, s.incident? j = some e → c.severity + 1 ≤ e.severity) ∧
       (∀ j ∈ after.head?, ∀ e, s.incident? j = some e → e.severity < c.severity + 1) ∧
       (∀ j, j ≠ i → t.incident? j = s.incident? j) ∧ (∀ j, t.train? j = s.train? j) ∧ FixedKept s t ∧ EventKeeps s t) ∧
  ((List.range 9).map ackLimit =
     [none, some 1200, some 900, some 600, some 450, some 300, none, none, none])

/-- PLATFORM ALARM (R127, R126, R133): an ON report creates the incident, with HOLD over the platform at severity 6 or 7, or
counts one occurrence more of the active one; an OFF report clears it, or marks a RAISED one of severity 7; a severity out of
range, or an unconfigured platform, latches REPORT CONFLICT. -/
def Obligations.PlatformAlarmRaisesAndEnds : Prop :=
  ∀ (s : State) (p sev time : Nat), s.Sound → s.NothingOwed → s.part = .operating → time < 864000 →
    (p < s.tables.header.platforms → 1 ≤ sev → sev ≤ 7 → s.activeAt .platformAlarm (.platform p) = none →
      s.incidentCount < 96 → ∀ i rest, s.pool.free = i :: rest →
      ∃ t y, exec (.platformAlarm p true sev time) s = .next t ∧ t.incident? i = some y ∧ y.kind = .platformAlarm ∧
        y.severity = sev ∧ y.location = some (.platform p) ∧ y.state = .raised ∧ y.raisedTime = s.lineTime ∧
        y.occurrences = 1 ∧ y.escDl = ((ackLimit sev).map fun d => later s.lineTime d) ∧
        y.restriction = (if 6 ≤ sev then some ⟨.hold, p, p⟩ else none) ∧ i ∈ t.pool.incidents) ∧
    (p < s.tables.header.platforms → ∀ i c, s.activeAt .platformAlarm (.platform p) = some (i, c) →
      (1 ≤ sev → sev ≤ 7 → ∃ t y, exec (.platformAlarm p true sev time) s = .next t ∧ t.incident? i = some y ∧
        y.occurrences = min 255 (c.occurrences + 1) ∧ y.causeEnded = false ∧ y.severity = max c.severity sev ∧
        y.state = c.state ∧ (6 ≤ y.severity → y.restriction = some (c.restriction.getD ⟨.hold, p, p⟩))) ∧
      (c.state = .raised → c.severity = 7 → ∃ t, exec (.platformAlarm p false sev time) s = .next t ∧
        t.incident? i = some { c with causeEnded := true }) ∧
      (c.state = .acknowledged ∨ c.severity ≠ 7 → ∃ t, exec (.platformAlarm p false sev time) s = .next t ∧
        t.incident? i = some { c with state := .cleared, escDl := none, owedCopies := [] })) ∧
    ((s.tables.header.platforms ≤ p ∨ sev = 0 ∨ 7 < sev) → ∃ t, exec (.platformAlarm p true sev time) s = .next t ∧
      t.attention.latches = { s.attention.latches with reportConflict := true } ∧ t.pool.incidents = s.pool.incidents ∧
      FixedKept s t)

/-! ### Announcements and players -/

/-- CREATE ANNOUNCEMENT that passes its checks (R147, R26, R27): the record in the head free slot, QUEUED or already SELECTED,
after the last record of its priority on its queue; and its mode (R199): ONCE, or REPEAT with its interval within 100..6000 and its
count within 1..15. AMEND ANNOUNCEMENT (R148): the amendments given, with the updated and superseded flags moved; with none given
nothing changes. Its premise is R146: an IDLE player has no QUEUED record at the start of an event. -/
def Obligations.AnnouncementsAreCreatedAndAmended : Prop :=
  (∀ (s : State) (tag p msg pr i : Nat) (minutes : Option Nat) (mode : ModeArg) (m : Mode) (rest : List Nat), s.Sound →
     s.part = .operating → s.playerOk p = true → 1 ≤ msg → msg ≤ 4095 → pr ≤ 3 → (∀ n, minutes = some n → n ≤ 99) →
     modeOf mode = some m → (s.queue p).length < 16 → s.pool.free = i :: rest → 16 ≤ rest.length → ∀ h,
     (h = Handle.null ∨ s.current h = true ∧ (s.train? h.slot).isSome = true) →
     ∃ t y before after, exec (.createAnnouncement tag p msg pr h minutes mode) s = .next t ∧ t.ann? i = some y ∧
       y = { platform := p, message := msg, priority := pr, origin := .operator
             train := if h = Handle.null then none else some h, minutes := minutes, mode := m, state := y.state } ∧
       (y.state = .queued ∨ y.state = .selected) ∧ s.queue p = before ++ after ∧ t.queue p = before ++ i :: after ∧
       (∀ j ∈ before, pr ≤ s.annPriority j) ∧ (∀ j ∈ after.head?, s.annPriority j < pr) ∧ t.pool.free = rest ∧
       t.responses = s.responses ++ [⟨13, tag, .done, .announcement ⟨i, State.nextEpoch (s.slot i).epoch⟩ y⟩] ∧
       (∀ j, t.train? j = s.train? j) ∧ (∀ j, t.incident? j = s.incident? j) ∧ FixedKept s t ∧ EventKeeps s t) ∧
  (∀ m : ModeArg, (m.code = 0 → modeOf m = some .once) ∧
     (m.code = 1 → modeOf m = some (.repeated (max 100 (min 6000 m.interval)) (max 1 (min 15 m.count)))) ∧
     (2 ≤ m.code → modeOf m = none)) ∧
  (∀ (s : State) (tag : Nat) (h : Handle) (a : Ann) (msg minutes : Option Nat) (mode : Option ModeArg) (m : Option Mode),
     s.Sound → s.part = .operating → s.current h = true → s.ann? h.slot = some a →
     (∀ n, msg = some n → 1 ≤ n ∧ n ≤ 4095) → (∀ n, minutes = some n → n ≤ 99 ∨ n = 255) → modeIfGiven mode = some m →
     (∀ p, (s.platform p).player = .idle → s.queuedOn p = none) →
     let b := if msg = none ∧ minutes = none ∧ mode = none then a
       else { a with
         superseded := a.superseded || a.updated, updated := true, message := msg.getD a.message, mode := m.getD a.mode
         minutes := if minutes = none then a.minutes else if minutes = some 255 then none else minutes }
     ∃ t, exec (.amendAnnouncement tag h msg minutes mode) s = .next t ∧ t.ann? h.slot = some b ∧
       t.responses = s.responses ++ [⟨14, tag, .done, .announcement h b⟩] ∧ (∀ j, j ≠ h.slot → t.ann? j = s.ann? j) ∧
       t.pool.queues = s.pool.queues ∧ t.links = s.links ∧ t.platforms = s.platforms ∧ OnlyAnnouncements s t)

/-- The end of a rest (R152, R26): QUEUED or SELECTED at once, without a rest deadline, behind the last record of its
priority. -/
def Obligations.RestExpiryRequeuesAsTheNewest : Prop :=
  ∀ (s : State) (i : Nat) (a : Ann), s.Sound → s.part = .operating → s.ann? i = some a → a.state = .resting →
    a.restDl = some s.lineTime →
    ∃ t b before after, exec (.restExpiry i) s = .next t ∧ t.ann? i = some b ∧
      b = { a with state := b.state, updated := b.updated, restDl := none } ∧
      (b.state = .queued ∧ b.updated = a.updated ∨ b.state = .selected ∧ b.updated = false) ∧
      (s.queue a.platform).erase i = before ++ after ∧ t.queue a.platform = before ++ i :: after ∧
      (∀ j ∈ before, a.priority ≤ s.annPriority j) ∧ (∀ j ∈ after.head?, s.annPriority j < a.priority) ∧
      (∀ p, p ≠ a.platform → t.queue p = s.queue p) ∧ OnlyAnnouncements s t

/-- STARTED (R150, R154): a CUED cue is PLAYING with no deadline; where no cue stands for it STOP is queued; while PLAYING nothing
changes for the platform. READY (R153, R154): an IDLE player stays; a cue goes back to QUEUED with its plays unchanged and the first
QUEUED record is cued (R146), the player being IDLE; an OFFLINE or STOPPING player is IDLE, and cued at once with the first QUEUED
record where there is one: SELECTED, PLAY queued, a start deadline of now + 20. -/
def Obligations.PlayersStartAndComeBack : Prop :=
  (∀ (s : State) (p : Nat), s.Sound → s.part = .operating → s.playerOk p = true →
     (∀ h a, (s.platform p).player = .cued → (s.platform p).cue = some h → s.ann? h.slot = some a →
       ∃ t, exec (.started p) s = .next t ∧ OnlyAnnouncements s t ∧
         t.platform p = { s.platform p with player := .playing, playerDl := none } ∧
         t.ann? h.slot = some { a with state := .playing } ∧ t.pool.queues = s.pool.queues) ∧
     (((s.platform p).player = .stopping ∨ (s.platform p).player = .offline) →
       ∃ t, exec (.started p) s = .next t ∧ OnlyAnnouncements s t ∧
         t.platform p = s.platform p ∧ (48 + p, Directive.stop) ∈ t.links.queue) ∧
     ((s.platform p).player = .playing → ∃ t, exec (.started p) s = .next t ∧ OnlyAnnouncements s t ∧
       t.platform p = s.platform p) ∧
     ((s.platform p).player = .idle → s.queuedOn p = none → ∃ t, exec (.started p) s = .next t ∧ OnlyAnnouncements s t ∧
       t.platform p = s.platform p ∧ (48 + p, Directive.stop) ∈ t.links.queue)) ∧
  (∀ (s : State) (p : Nat), s.Sound → s.part = .operating → s.playerOk p = true →
     ((s.platform p).player = .idle → s.queuedOn p = none → ∃ t, exec (.ready p) s = .next t ∧ OnlyAnnouncements s t ∧
       t.platform p = s.platform p) ∧
     ∀ h a, ((s.platform p).player = .cued ∨ (s.platform p).player = .playing) → (s.platform p).cue = some h →
       s.ann? h.slot = some a → a.platform = p →
       ∃ t b i, exec (.ready p) s = .next t ∧ OnlyAnnouncements s t ∧ t.ann? h.slot = some b ∧ b.plays = a.plays ∧
         b.state = (if i = h.slot then .selected else .queued) ∧ i ∈ s.queue p ∧
         (∀ before after, s.queue p = before ++ i :: after → ∀ j ∈ before, j ≠ h.slot ∧
           ∀ c, s.ann? j = some c → c.state ≠ .queued) ∧
         t.platform p = { s.platform p with
           player := .cued, cue := some (s.handle i), playerDl := some (later s.lineTime 20) } ∧
         (∃ m n v, (48 + p, Directive.play m n v) ∈ t.links.queue) ∧ t.pool.queues = s.pool.queues) ∧
  (∀ (s : State) (p : Nat), s.Sound → s.part = .operating → s.playerOk p = true →
     ((s.platform p).player = .offline ∨ (s.platform p).player = .stopping) →
     (s.queuedOn p = none → ∃ t, exec (.ready p) s = .next t ∧ OnlyAnnouncements s t ∧
       t.platform p = { s.platform p with player := .idle, cue := none, playerDl := none }) ∧
     (∀ before i after a, s.queue p = before ++ i :: after →
       (∀ j ∈ before, ∀ b, s.ann? j = some b → b.state ≠ .queued) → s.ann? i = some a → a.state = .queued →
       ∃ t, exec (.ready p) s = .next t ∧ OnlyAnnouncements s t ∧
         t.platform p = { s.platform p with
           player := .cued, cue := some (s.handle i), playerDl := some (later s.lineTime 20) } ∧
         t.ann? i = some { a with state := .selected, updated := false } ∧
         (48 + p, Directive.play a.message a.minutes (s.serviceOf a.train)) ∈ t.links.queue ∧ t.pool.queues = s.pool.queues))

/-- REFUSED (R153, R154): the cue goes back to QUEUED with its plays unchanged and the player goes OFFLINE; a STOPPING player
goes OFFLINE; else nothing changes for the platform. At the start deadline (R153) the same as for a cue, with STOP queued and PLAYER
OFFLINE latched. A stop deadline leaves the player OFFLINE with the latch set (R154). -/
def Obligations.PlayersGoOffline : Prop :=
  ∀ (s : State) (p : Nat) (h : Handle) (a : Ann), s.Sound → s.part = .operating → s.playerOk p = true →
    let gone := { s.platform p with player := .offline, cue := none, playerDl := none }
    ((s.platform p).player = .cued → (s.platform p).cue = some h → s.ann? h.slot = some a → a.platform = p →
      (∃ t, exec (.refused p) s = .next t ∧ OnlyAnnouncements s t ∧
        t.platform p = gone ∧ t.ann? h.slot = some { a with state := .queued } ∧
        t.attention.latches = s.attention.latches ∧ t.pool.queues = s.pool.queues) ∧
      ∀ d, (s.platform p).playerDl = some d → d = s.lineTime →
        ∃ t, exec (.startExpiry p) s = .next t ∧ OnlyAnnouncements s t ∧
          t.platform p = gone ∧ t.ann? h.slot = some { a with state := .queued } ∧
          t.attention.latches = { s.attention.latches with playerOffline := true } ∧
          (48 + p, Directive.stop) ∈ t.links.queue ∧ t.pool.queues = s.pool.queues) ∧
    ((s.platform p).player = .stopping → ∃ t, exec (.refused p) s = .next t ∧ OnlyAnnouncements s t ∧ t.platform p = gone ∧
      t.attention.latches = s.attention.latches) ∧
    ((s.platform p).player = .idle ∧ s.queuedOn p = none ∨ (s.platform p).player = .playing ∨ (s.platform p).player = .offline →
      ∃ t, exec (.refused p) s = .next t ∧ OnlyAnnouncements s t ∧ t.platform p = s.platform p) ∧
    ∀ d, (s.platform p).player = .stopping → (s.platform p).playerDl = some d → d = s.lineTime →
      ∃ t, exec (.stopExpiry p) s = .next t ∧ OnlyAnnouncements s t ∧ t.platform p = gone ∧
        t.attention.latches = { s.attention.latches with playerOffline := true }

/-- ENDED while PLAYING (R151): one play more; REPEAT below its count rests for its interval with its place kept; ONCE, or the
last play, retires the record. ENDED while STOPPING makes the player IDLE, and it may be cued at once (R154, R146); while IDLE, CUED
or OFFLINE it changes nothing for the platform (R154). -/
def Obligations.EndedCompletesAPlay : Prop :=
  ∀ (s : State) (p : Nat) (h : Handle) (a : Ann), s.Sound → s.part = .operating → s.playerOk p = true →
    ((s.platform p).player = .playing → (s.platform p).cue = some h → s.ann? h.slot = some a → a.platform = p →
      a.state = .playing →
      (∀ n m, a.mode = .repeated n m → a.plays + 1 < m → ∃ t, exec (.ended p) s = .next t ∧ OnlyAnnouncements s t ∧
        t.ann? h.slot = some { a with plays := a.plays + 1, state := .resting, restDl := some (later s.lineTime n) } ∧
        t.pool.queues = s.pool.queues ∧ ((t.platform p).player = .idle ∨ (t.platform p).player = .cued)) ∧
      ((a.mode = .once ∨ ∃ n m, a.mode = .repeated n m ∧ m ≤ a.plays + 1) → s.NothingOwed →
        ∃ t, exec (.ended p) s = .next t ∧ OnlyAnnouncements s t ∧
          t.slot h.slot = { epoch := (s.slot h.slot).epoch, record := .free } ∧
          t.queue p = (s.queue p).erase h.slot ∧ t.pool.free = s.pool.free ++ [h.slot] ∧
          ((t.platform p).player = .idle ∨ (t.platform p).player = .cued))) ∧
    ((s.platform p).player = .stopping → ∃ t, exec (.ended p) s = .next t ∧ OnlyAnnouncements s t ∧
      ((t.platform p).player = .idle ∧ s.queuedOn p = none ∨ (t.platform p).player = .cued ∧ s.queuedOn p ≠ none)) ∧
    ((s.platform p).player = .idle ∧ s.queuedOn p = none ∨ (s.platform p).player = .cued ∨ (s.platform p).player = .offline →
      ∃ t, exec (.ended p) s = .next t ∧ OnlyAnnouncements s t ∧ t.platform p = s.platform p)

/-- Pre-emption (R156): a new record of priority 3 cuts a cue of a lower one, which is QUEUED again. Where the cue's PLAY is still
queued the player is IDLE and a record of priority 3 is cued at once in its place (R146, R26); else it goes STOPPING with a stop
deadline of now + 20 and STOP is queued. A cue of priority 3 is not cut. The retirement of a SELECTED record (R155): with its PLAY
still queued, STOP takes its place and the player is IDLE; else STOP is queued and the player goes STOPPING. -/
def Obligations.CuesAreCutAndRetired : Prop :=
  (∀ (s : State) (tag p msg i : Nat) (minutes : Option Nat) (mode : ModeArg) (m : Mode) (rest : List Nat) (h : Handle) (a : Ann),
     s.Sound → s.Ordered → s.PrioritiesOk → s.part = .operating → s.playerOk p = true → 1 ≤ msg → msg ≤ 4095 →
     (∀ n, minutes = some n → n ≤ 99) → modeOf mode = some m → (s.queue p).length < 16 → s.pool.free = i :: rest →
     16 ≤ rest.length → (s.platform p).player ≠ .idle → (s.platform p).cue = some h → s.ann? h.slot = some a → a.platform = p →
     let unsent := a.state = .selected ∧ ∃ n v w, (48 + p, Directive.play n v w) ∈ s.links.queue
     ∃ t, exec (.createAnnouncement tag p msg 3 Handle.null minutes mode) s = .next t ∧
       (a.priority < 3 → t.ann? h.slot = some { a with state := .queued }) ∧
       (a.priority < 3 → unsent → (t.platform p).player = .cued ∧ ∃ j b, (t.platform p).cue = some (t.handle j) ∧
         t.ann? j = some b ∧ b.platform = p ∧ b.priority = 3 ∧ b.state = .selected ∧
         (48 + p, Directive.play b.message b.minutes (s.serviceOf b.train)) ∈ t.links.queue) ∧
       (a.priority < 3 → ¬ unsent → t.platform p =
         { s.platform p with player := .stopping, cue := none, playerDl := some (later s.lineTime 20) } ∧
         (48 + p, Directive.stop) ∈ t.links.queue) ∧
       (a.priority = 3 → t.platform p = s.platform p ∧ t.ann? h.slot = some a)) ∧
  (∀ (s : State) (tag : Nat) (h : Handle) (a : Ann), s.Sound → s.NothingOwed → s.part = .operating → s.current h = true →
     s.ann? h.slot = some a → a.state = .selected →
     let unsent := ∃ n v w, (48 + a.platform, Directive.play n v w) ∈ s.links.queue
     ∃ t, exec (.retire tag h) s = .next t ∧
       (unsent → (∀ j ∈ s.queue a.platform, ∀ b, s.ann? j = some b → b.state ≠ .queued) →
         t.platform a.platform = { s.platform a.platform with player := .idle, cue := none, playerDl := none } ∧
         (48 + a.platform, Directive.stop) ∈ t.links.queue) ∧
       (unsent → (∃ j ∈ s.queue a.platform, ∃ b, s.ann? j = some b ∧ b.state = .queued) →
         (t.platform a.platform).player = .cued) ∧
       (¬ unsent → t.platform a.platform =
         { s.platform a.platform with player := .stopping, cue := none, playerDl := some (later s.lineTime 20) } ∧
         (48 + a.platform, Directive.stop) ∈ t.links.queue))

/-! ### Sections and substations -/

/-- ISOLATE, ENERGISE and RESTORE that are accepted (R93, R94, R95, R90): the state, the operation with a deadline of now + 50, the
breaker directive queued, the recovery count, and no other section changed but for what it owes. SET WARNING LEVEL (R96, R85):
the level in force, 0 clamped to 1, answered with the derived level; SECTION WARNING is latched when the counter is at or above
the new level and was below the old one. -/
def Obligations.SectionRequestsTakeEffect : Prop :=
  (∀ (s : State) (tag i : Nat) (emergency : Bool), s.Sound → s.part = .operating → i < s.tables.header.sections →
     (s.sect i).op = none →
     let later50 := later s.lineTime 50
     let only := fun (t : State) (x : Sect) =>
       (t.sect i).own = { x with owed := {} } ∧ (∀ j, j ≠ i → (t.sect j).own = (s.sect j).own) ∧
         t.pool.trains = s.pool.trains ∧ t.control = s.control ∧ EventKeeps s t
     ((s.sect i).state ≠ .lockedOut → (s.sect i).state ≠ .isolated → (s.sect i).state ≠ .isolating →
       ((s.sect i).occupants = 0 ∨ emergency = true) → ∃ t, exec (.isolate tag i emergency) s = .next t ∧
         only t { s.sect i with
           state := .isolating, op := some (.opening, later50)
           recovery := if (s.sect i).state = .recovering then 0 else (s.sect i).recovery } ∧
         (96 + i, Directive.breakerOpen) ∈ t.links.queue ∧ t.supplied i = false ∧
         t.responses = s.responses ++ [⟨18, tag, .accepted, .empty⟩]) ∧
     ((s.sect i).state = .isolated → ∃ t, exec (.energise tag i) s = .next t ∧
       only t { s.sect i with state := .energising, op := some (.closing, later50) } ∧
       (96 + i, Directive.breakerClose) ∈ t.links.queue ∧ t.responses = s.responses ++ [⟨19, tag, .accepted, .empty⟩]) ∧
     ((s.sect i).state = .lockedOut → ∃ t, exec (.restore tag i) s = .next t ∧
       only t { s.sect i with state := .recovering, recovery := 0, op := some (.closing, later50) } ∧
       (96 + i, Directive.breakerClose) ∈ t.links.queue ∧ t.responses = s.responses ++ [⟨20, tag, .accepted, .empty⟩])) ∧
  (∀ (s : State) (tag i level : Nat), s.Sound → s.part = .operating → i < s.tables.header.sections →
     let n := max 1 level
     ∃ t, exec (.setWarningLevel tag i level) s = .next t ∧ t.sect i = { s.sect i with warning := n } ∧
       (∀ j, j ≠ i → t.sect j = s.sect j) ∧
       t.responses = s.responses ++ [⟨21, tag, .done, .warning n
         (if 128 ≤ (s.sect i).counter then .restricted else if n ≤ (s.sect i).counter then .warning else .normal)⟩] ∧
       t.attention.latches = (if n ≤ (s.sect i).counter ∧ (s.sect i).counter < (s.sect i).warning
         then { s.attention.latches with sectionWarning := true } else s.attention.latches) ∧
       t.substations = s.substations ∧ t.control = s.control ∧ EventKeeps s t)

/-- A FEEDER report with no operation in flight and the section neither LOCKED OUT nor RECOVERING (R86, R87, R88): a trip adds
8, LOW and a supplied ABSENT CLOSED add 1, HEALTHY takes 1; past 255 the section locks out with a new OPEN operation. In LOCKED
OUT the counter stands. That the counter is 255 at the most (R6) is an invariant stated below. -/
def Obligations.FeederMovesTheFaultCounter : Prop :=
  ∀ (s : State) (i time : Nat) (cls : SupplyClass) (pos : Position), s.Sound → s.part = .operating →
    i < s.tables.header.sections → time < 864000 → (s.sect i).op = none → (s.sect i).counter ≤ 255 →
    let x := s.sect i
    let c1 := if pos = .opened ∧ x.breaker = .closed then x.counter + 8 else x.counter
    let c2 := match cls with
      | .healthy => c1 - 1
      | .low => c1 + 1
      | .absent => if pos = .closed ∧ (s.supplier i).isSome = true then c1 + 1 else c1
    let breaker : Reported := if pos = .opened then .opened else .closed
    (x.state ≠ .lockedOut → x.state ≠ .recovering → c1 ≤ 255 → c2 ≤ 255 →
      ∃ t, exec (.feeder i cls pos time) s = .next t ∧ (t.sect i).own = { x with owed := {}, counter := c2, breaker := breaker } ∧
        (∀ j, j ≠ i → (t.sect j).own = (s.sect j).own) ∧ t.links.badCount = 0) ∧
    (x.state ≠ .lockedOut → x.state ≠ .recovering → (255 < c1 ∨ 255 < c2) →
      ∃ t, exec (.feeder i cls pos time) s = .next t ∧
        (t.sect i).own = { x with
          owed := {}, counter := 255, breaker := breaker, state := .lockedOut, recovery := 0
          op := some (.opening, later s.lineTime 50) } ∧
        (96 + i, Directive.breakerOpen) ∈ t.links.queue ∧ (∀ j, j ≠ i → (t.sect j).own = (s.sect j).own)) ∧
    (x.state = .lockedOut → ∃ t, exec (.feeder i cls pos time) s = .next t ∧
      (t.sect i).own = { x with owed := {}, breaker := breaker })

/-- A FEEDER report that confirms the operation in flight (R91): it is gone, ISOLATING is ISOLATED, ENERGISING is the fed state
(R83), and a HEALTHY report takes 1 from the counter. Recovery (R89): a HEALTHY report with the breaker CLOSED counts while the
section has a supplier, and the sixteenth ends recovery with success; LOW, ABSENT or a trip relapses. -/
def Obligations.FeederCompletesAndRecovers : Prop :=
  (∀ (s : State) (i time d : Nat), s.Sound → s.part = .operating → i < s.tables.header.sections → time < 864000 →
     let x := s.sect i
     let fed : SectState := if s.up (s.sectCfg i).primary = true then .energised
       else if s.fallbackUp i = true then .onFallback else .dead
     (x.state = .isolating → x.op = some (.opening, d) → ∃ t, exec (.feeder i .healthy .opened time) s = .next t ∧
       (t.sect i).own = { x with owed := {}, op := none, state := .isolated, breaker := .opened, counter := x.counter - 1 }) ∧
     (x.state = .energising → x.op = some (.closing, d) → ∃ t, exec (.feeder i .healthy .closed time) s = .next t ∧
       (t.sect i).own = { x with owed := {}, op := none, state := fed, breaker := .closed, counter := x.counter - 1 })) ∧
  (∀ (s : State) (i time : Nat) (cls : SupplyClass) (pos : Position), s.Sound → s.part = .operating →
     i < s.tables.header.sections → time < 864000 → (s.sect i).state = .recovering → (s.sect i).op = none →
     let x := s.sect i
     let up := s.up (s.sectCfg i).primary
     let breaker : Reported := if pos = .opened then .opened else .closed
     (cls ≠ .healthy ∨ pos = .opened ∧ x.breaker = .closed → ∃ t, exec (.feeder i cls pos time) s = .next t ∧
       (t.sect i).own = { x with
         owed := {}, breaker := breaker, state := .lockedOut, counter := 255, recovery := 0
         op := some (.opening, later s.lineTime 50) } ∧ (96 + i, Directive.breakerOpen) ∈ t.links.queue) ∧
     (up = true → x.recovery < 15 → ∃ t, exec (.feeder i .healthy .closed time) s = .next t ∧
       (t.sect i).own = { x with
         owed := {}, breaker := .closed, counter := x.counter - 1, recovery := x.recovery + 1 }) ∧
     (up = true → 15 ≤ x.recovery → ∃ t, exec (.feeder i .healthy .closed time) s = .next t ∧
       (t.sect i).own = { x with owed := {}, breaker := .closed, counter := 0, recovery := 16, state := .energised }) ∧
     (up = false → ∃ t, exec (.feeder i .healthy .closed time) s = .next t ∧
       (t.sect i).own = { x with owed := {}, breaker := .closed, counter := x.counter - 1 }))

/-- An operation that is not confirmed in time (R92): it is gone, the state returns, the counter takes 8 more, and BREAKER FAILURE at
the section is active or owed. Past 255 the section locks out (R87, R88): a new OPEN operation is issued and BREAKER OPEN queued, the
leases of trains RELEASED or running into the section end, and SECTION LOCKOUT is active or owed. A RECOVERING section relapses (R89). -/
def Obligations.OperationExpiryReturnsTheState : Prop :=
  ∀ (s : State) (i : Nat) (op : BreakerOp), s.Sound → s.part = .operating → i < s.sects.length →
    (s.sect i).op = some (op, s.lineTime) →
    let x := s.sect i
    let fed : SectState := if s.up (s.sectCfg i).primary = true then .energised
      else if s.fallbackUp i = true then .onFallback else .dead
    ∃ t, exec (.operationExpiry i) s = .next t ∧ EventKeeps s t ∧
      (x.state ≠ .recovering → x.state ≠ .lockedOut → x.counter + 8 ≤ 255 → (t.sect i).own = { x with
        owed := {}, op := none, counter := x.counter + 8
        state := if x.state = .isolating then fed else if x.state = .energising then .isolated else x.state }) ∧
      (x.state ≠ .recovering → x.state ≠ .lockedOut → 255 < x.counter + 8 →
        (t.sect i).own = { x with
          owed := {}, op := some (.opening, later s.lineTime 50), counter := 255, state := .lockedOut, recovery := 0 } ∧
        (96 + i, Directive.breakerOpen) ∈ t.links.queue ∧
        (s.QueuesOk → ∀ j y, s.train? j = some y → y.state = .released ∨ y.state.isRunning = true → y.lease.isSome = true →
          s.runSectionOf y = i → ∃ z, t.train? j = some z ∧ z.lease = none) ∧
        ((t.activeAt .sectionLockout (.sect i)).isSome = true ∨ (t.owed .sectionLockout (.sect i)).isSome = true)) ∧
      (x.state = .lockedOut → (t.sect i).own = { x with owed := {}, op := none }) ∧
      (x.state = .recovering → (t.sect i).own = { x with
        owed := {}, op := some (.opening, later s.lineTime 50), counter := 255, state := .lockedOut, recovery := 0 }) ∧
      ((t.activeAt .breakerFailure (.sect i)).isSome = true ∨ (t.owed .breakerFailure (.sect i)).isSome = true)

/-- A SUBSTATION report of a change (R98, R99): the substation's state, and the state of every configured section by the
tables of those rules; a report of the state it is in changes no section. SUPPLY TRANSFER (R101): raised or owed at a report of
DOWN, with severity 6 where a section went DEAD and 4 otherwise; its cause ends at a report of UP (R133). -/
def Obligations.SubstationReportMovesItsSections : Prop :=
  ∀ (s : State) (k time : Nat) (up : Bool), s.Sound → s.part = .operating → k < s.tables.header.substations → time < 864000 →
    (s.up k = up → ∃ t, exec (.substation k up time) s = .next t ∧ t.sects = s.sects ∧ t.up k = up) ∧
    (s.up k ≠ up → ∃ t, exec (.substation k up time) s = .next t ∧ t.up k = up ∧ (∀ j, j ≠ k → t.up j = s.up j) ∧
      (up = false → s.activeAt .supplyTransfer (.substation k) = none → s.owed .supplyTransfer (.substation k) = none →
        ∃ sev, (sev = 6 ∧ (∃ i, i < s.tables.header.sections ∧ (t.sect i).state = .dead ∧ (s.sect i).state ≠ .dead) ∨
            sev = 4 ∧ ¬ ∃ i, i < s.tables.header.sections ∧ (t.sect i).state = .dead ∧ (s.sect i).state ≠ .dead) ∧
          (t.owed .supplyTransfer (.substation k) = some sev ∨
            ∃ i c, t.activeAt .supplyTransfer (.substation k) = some (i, c) ∧ c.severity = sev)) ∧
      (up = true → t.owed .supplyTransfer (.substation k) = none ∧
        ∀ i c, s.activeAt .supplyTransfer (.substation k) = some (i, c) → ∃ y, t.incident? i = some y ∧
          if c.state = .raised ∧ c.severity = 7 then y.state = .raised ∧ y.causeEnded = true else y.state = .cleared) ∧
      ∀ i, s.sectOk i = true →
        let x := s.sect i
        let c := s.sectCfg i
        (up = false → c.primary = k → (x.state = .energised ∨ x.state = .recovering) → c.fallback ≠ some k →
          (t.sect i).state = if (c.fallback.map s.up).getD false = true then .onFallback else .dead) ∧
        (up = false → c.primary ≠ k → c.fallback = some k → x.state = .onFallback → (t.sect i).state = .dead) ∧
        (up = true → c.primary = k → (x.state = .onFallback ∨ x.state = .dead) → (t.sect i).state = .energised) ∧
        (up = true → c.primary ≠ k → c.fallback = some k → x.state = .dead → s.up c.primary = false →
          (t.sect i).state = .onFallback) ∧
        (c.primary ≠ k → c.fallback ≠ some k → (t.sect i).own = x.own) ∧
        ((x.state = .isolating ∨ x.state = .isolated ∨ x.state = .energising ∨ x.state = .lockedOut) →
          (t.sect i).own = x.own) ∧
        (t.sect i).counter = x.counter ∧ (t.sect i).op = x.op)

/-! ### The gate and the pattern -/

/-- The wait deadline of an entry (R118): it is gone, the queue stands as it is, and POWER DELAY at the substation is active or
owed. The expiry of a lease (R109, R110): with nothing queued the units go back and the train holds no lease. -/
def Obligations.WaitAndLeaseExpiries : Prop :=
  ∀ (s : State) (k : Nat) (h : Handle), s.Sound → s.QueuesOk → s.part = .operating → k < s.substations.length →
    (∀ e, e ∈ (s.substation k).queue → e.train = h → e.waitDl = some s.lineTime →
      ∃ t, exec (.waitExpiry k h) s = .next t ∧ EventKeeps s t ∧
        (t.substation k).queue = (s.substation k).queue.map (fun e => if e.train = h then { e with waitDl := none } else e) ∧
        (t.substation k).leases = (s.substation k).leases ∧ (∀ j, t.train? j = s.train? j) ∧
        ((t.activeAt .powerDelay (.substation k)).isSome = true ∨ (t.owed .powerDelay (.substation k)).isSome = true)) ∧
    (∀ l, l ∈ (s.substation k).leases → l.train = h → l.expiry = s.lineTime → (s.substation k).queue = [] →
      ∃ t, exec (.leaseExpiry k h) s = .next t ∧
        t.substation k = { s.substation k with
          leases := (s.substation k).leases.filter fun l => l.train != h
          inUse := (s.substation k).inUse - (((s.substation k).leases.filter fun l => l.train == h).map Lease.weight).sum } ∧
        (∀ x, s.current h = true → s.train? h.slot = some x → t.train? h.slot = some { x with lease := none }) ∧
        (∀ j, j ≠ h.slot → t.train? j = s.train? j) ∧ t.sects = s.sects ∧ t.control = s.control ∧ EventKeeps s t)

/-- Queue service (R111, R108): head first, while the head fits the budget. At the expiry of a lease, with its units returned (R109,
R110); a service that empties the queue ends the cause of POWER DELAY (R119). At a change of pattern, every queue under its new budget
(R117). And after the requests of a section have followed its supplier from a primary that went DOWN to the fallback, or back
to a primary that came UP: merged by age with those that stood there, these first on equal ages (R98, R99, R115, R116). -/
def Obligations.GateServesItsQueues : Prop :=
  (∀ (s : State) (k : Nat) (h : Handle) (l : Lease), s.Sound → s.QueuesOk → s.part = .operating →
     l ∈ (s.substation k).leases → l.train = h → l.expiry = s.lineTime →
     let b := s.substation k
     let left := b.leases.filter fun l => l.train != h
     let units := b.inUse - ((b.leases.filter fun l => l.train == h).map Lease.weight).sum
     (s.activeAt .powerDelay (.substation k) = none → ∃ t, exec (.leaseExpiry k h) s = .next t ∧
       Served s t k b.queue left units ∧ (∀ j, j ≠ k → t.substation j = s.substation j) ∧
       (b.queue ≠ [] → (t.substation k).queue = [] → t.owed .powerDelay (.substation k) = none) ∧
       t.sects = s.sects ∧ t.control = s.control ∧ EventKeeps s t) ∧
     ∀ i c, s.activeAt .powerDelay (.substation k) = some (i, c) → b.queue ≠ [] →
       units + (b.queue.map fun e => min e.weight b.budget).sum ≤ b.budget →
       ∃ t y, exec (.leaseExpiry k h) s = .next t ∧ t.incident? i = some y ∧
         if c.state = .raised ∧ c.severity = 7 then y.state = .raised ∧ y.causeEnded = true else y.state = .cleared) ∧
  (∀ (s : State) (tag q k : Nat), s.Sound → s.QueuesOk → s.part = .operating → q < 4 → s.control.degraded = false →
     (s.patternLine q).degraded = false → k < s.tables.header.substations →
     (∀ j, s.activeAt .powerDelay (.substation j) = none) →
     ∃ t, exec (.selectPattern tag q) s = .next t ∧ (t.substation k).budget = (s.patternLine q).budgets.getD k 0 ∧
       Served s t k (s.substation k).queue (s.substation k).leases (s.substation k).inUse) ∧
  (∀ (s : State) (k r i time : Nat) (merge : List Entry → List Entry → List Entry), s.Sound → s.QueuesOk → s.Configured →
     s.part = .operating → time < 864000 → i < s.tables.header.sections → (s.sect i).state = .energised →
     (s.sectCfg i).primary = k → (s.sectCfg i).fallback = some r → s.up k = true → s.up r = true →
     (∀ j, j < s.tables.header.sections → j ≠ i → (s.sectCfg j).primary ≠ k ∧ (s.sectCfg j).fallback ≠ some k) →
     s.activeAt .powerDelay (.substation k) = none → s.activeAt .powerDelay (.substation r) = none →
     let age := fun e : Entry => ((s.lineTime : Int) - e.req) % 864000
     let mine := fun e : Entry => (s.train? e.train.slot).any fun x => s.runSectionOf x == i
     (∀ q, merge [] q = q) → (∀ m, merge m [] = m) →
     (∀ a m b q, merge (a :: m) (b :: q) = if age b < age a then a :: merge m (b :: q) else b :: merge (a :: m) q) →
     (s.substation k).queue.filter mine ≠ [] →
     ∃ t, exec (.substation k false time) s = .next t ∧
       Served s t r (merge ((s.substation k).queue.filter mine) (s.substation r).queue) (s.substation r).leases
         (s.substation r).inUse ∧
       Served s t k ((s.substation k).queue.filter fun e => !mine e) (s.substation k).leases (s.substation k).inUse) ∧
  (∀ (s : State) (k r i time : Nat) (merge : List Entry → List Entry → List Entry), s.Sound → s.QueuesOk → s.Configured →
     s.part = .operating → time < 864000 → i < s.tables.header.sections → (s.sect i).state = .onFallback →
     (s.sectCfg i).primary = k → (s.sectCfg i).fallback = some r → s.up k = false → s.up r = true →
     (∀ j, j < s.tables.header.sections → j ≠ i → (s.sectCfg j).primary ≠ k ∧ (s.sectCfg j).fallback ≠ some k) →
     s.activeAt .powerDelay (.substation k) = none → s.activeAt .powerDelay (.substation r) = none →
     (s.activeAt .supplyTransfer (.substation k) = none ∨ s.NothingOwed ∧ s.PlainHolds) →
     let age := fun e : Entry => ((s.lineTime : Int) - e.req) % 864000
     let mine := fun e : Entry => (s.train? e.train.slot).any fun x => s.runSectionOf x == i
     (∀ q, merge [] q = q) → (∀ m, merge m [] = m) →
     (∀ a m b q, merge (a :: m) (b :: q) = if age b < age a then a :: merge m (b :: q) else b :: merge (a :: m) q) →
     (s.substation r).queue.filter mine ≠ [] →
     ∃ t, exec (.substation k true time) s = .next t ∧
       Served s t k (merge ((s.substation r).queue.filter mine) (s.substation k).queue) (s.substation k).leases
         (s.substation k).inUse ∧
       Served s t r ((s.substation r).queue.filter fun e => !mine e) (s.substation r).leases (s.substation r).inUse)

/-- Where a HOLD begins to cover a platform, the trains WAITING PERMIT there go HELD with RESTRICTION, out of every queue, with HOLD
queued, and the others there stand as they are (R137, R113); where the last HOLD over it ends, RESTRICTION is taken out of the HELD
trains, and one left with no reason takes the hold-removal check (R138, R80). The same for the run section of the platform that loses
or regains the supply condition, with NO SUPPLY (R84), said of trains that hold no lease. The premises leave out owed work and a HOLD amended into an automatic incident
other than PLATFORM ALARM, whose ends fall inside other events. -/
def Obligations.HoldsAndSupplyReachTheTrains : Prop :=
  ∀ (c : Instr) (s t : State) (p j : Nat) (x : Train), s.Sound → s.QueuesOk → s.NothingOwed → s.PlainHolds →
    s.part = .operating → exec c s = .next t → s.train? j = some x → x.position = some p →
    let sec := (s.platformCfg p).runSection
    let withdrawn := fun holds : HoldSet =>
      t.train? j = some { x with state := .held, holds := holds, permitReq := none } ∧
        (∀ k, ∀ e ∈ (t.substation k).queue, e.train ≠ s.handle j) ∧ (p, Directive.hold) ∈ t.links.queue
    let freed := fun left : HoldSet =>
      (left ≠ {} → t.train? j = some { x with holds := left }) ∧ (left = {} → Rechecked s t j p x)
    let raises := (∃ tag sev lk n r a, c = .raiseIncident tag sev lk n r a) ∨ (∃ tag h sev r a, c = .amendIncident tag h sev r a) ∨
      ∃ q on sev time, c = .platformAlarm q on sev time
    let clears := (∃ tag h, c = .clear tag h ∨ c = .acknowledge tag h) ∨ (∃ tag h sev r a, c = .amendIncident tag h sev r a) ∨
      ∃ q on sev time, c = .platformAlarm q on sev time
    let supplies := (∃ tag i e, c = .isolate tag i e) ∨ (∃ i cls pos time, c = .feeder i cls pos time) ∨
      (∃ k up time, c = .substation k up time) ∨ ∃ i, c = .operationExpiry i
    (raises → s.held p = false → t.held p = true →
      (x.state = .waiting → withdrawn { x.holds with restriction := true }) ∧
      (x.state = .dwelling ∨ x.state = .held ∨ x.state = .released → t.train? j = some x)) ∧
    (clears → s.held p = true → t.held p = false → x.state = .held → x.holds.restriction = true →
      freed { x.holds with restriction := false }) ∧
    (supplies → s.supplied sec = true → t.supplied sec = false → x.lease = none →
      (x.state = .waiting → withdrawn { x.holds with noSupply := true }) ∧
      (x.state = .dwelling ∨ x.state = .held → t.train? j = some x)) ∧
    (supplies → s.supplied sec = false → t.supplied sec = true → x.state = .held → x.holds.noSupply = true →
      freed { x.holds with noSupply := false })

/-- SELECT PATTERN and ENTER DEGRADED (R164, R166, R167, R168, R117): the pattern and its budgets, and, from the clear flag,
the resume pattern, a save entry and a rebase for every train that is not AWAITING; that one which has arrived at its origin at this
line time is among them is the model's choice between R166 and the last sentence of R174 (log 37). RESUME (R172): the resume pattern, and every
saved train with its lateness, service number and a schedule that many tenths before its basis; the save area is empty and the flag
clear. READ and AMEND SAVE ENTRY (R170, R171). -/
def Obligations.PatternsChangeAndResume : Prop :=
  (∀ (s : State) (tag q : Nat), s.Sound → s.QueuesOk → s.part = .operating → q < 4 →
     let budgets := fun (t : State) => ∀ k, k < s.tables.header.substations →
       (t.substation k).budget = (s.patternLine q).budgets.getD k 0
     (s.control.degraded = false → (s.patternLine q).degraded = false → ∃ t, exec (.selectPattern tag q) s = .next t ∧
       t.control = { s.control with active := q } ∧ budgets t ∧ t.responses = s.responses ++ [⟨22, tag, .done, .pattern q⟩] ∧
       t.pool.trains = s.pool.trains ∧ EventKeeps s t) ∧
     (s.control.degraded = true → (s.patternLine q).degraded = true → ∃ t, exec (.enterDegraded tag q) s = .next t ∧
       t.control = { s.control with active := q } ∧ budgets t ∧
       (∀ i x, s.train? i = some x → ∃ y, t.train? i = some y ∧ y.schedArr = x.schedArr ∧ y.lateness = x.lateness ∧
         y.saved = x.saved)) ∧
     (s.control.degraded = false → (s.patternLine q).degraded = true → ∃ t, exec (.enterDegraded tag q) s = .next t ∧
       t.control = { active := q, degraded := true, resume := s.control.active
                     saves := s.control.saves ++ (s.liveTrains.filter fun e => decide (e.2.state ≠ .awaiting)).map fun e =>
                       ⟨s.handle e.1, e.2.service, max (-36000) (min 36000 e.2.lateness)⟩ } ∧
       budgets t ∧ (∀ i x, s.train? i = some x → ∃ y, t.train? i = some y ∧
         (x.state = .awaiting → y.saved = x.saved ∧ y.lateness = x.lateness ∧ y.schedArr = x.schedArr) ∧
         (x.state ≠ .awaiting → y.saved = true ∧ y.lateness = 0 ∧ y.service = x.service ∧
           y.schedArr = ((if x.state.isRunning = true then x.predicted else x.lastArr).getD s.lineTime))))) ∧
  (∀ (s : State) (tag : Nat), s.Sound → s.QueuesOk → s.part = .operating → s.control.degraded = true →
     ((s.control.saves.map fun e => e.train.slot).Nodup → ∃ t, exec (.resume tag) s = .next t ∧
       t.control = { active := s.control.resume, degraded := false, resume := s.control.resume, saves := [] } ∧
       t.responses = s.responses ++ [⟨24, tag, .done, .resumed s.control.resume s.control.saves.length⟩] ∧
       (∀ k, k < s.tables.header.substations → (t.substation k).budget = (s.patternLine s.control.resume).budgets.getD k 0) ∧
       ∀ i x, s.train? i = some x → ∃ y, t.train? i = some y ∧
         (∀ e ∈ s.control.saves, e.train.slot = i → y.lateness = e.lateness ∧ y.service = e.service ∧ y.saved = false ∧
           y.schedArr = later ((if x.state.isRunning = true then x.predicted else x.lastArr).getD s.lineTime) (-e.lateness)) ∧
         ((∀ e ∈ s.control.saves, e.train.slot ≠ i) →
           y.lateness = x.lateness ∧ y.service = x.service ∧ y.schedArr = x.schedArr)) ∧
     ∀ (h : Handle) (e : SaveEntry), s.current h = true → (s.train? h.slot).isSome = true →
       s.control.saves.find? (fun e => e.train == h) = some e →
       exec (.readSaveEntry tag h) s = .next (s.reply ⟨25, tag, .done, .saveEntry e⟩) ∧
       ∀ (l : Option Int) (n : Option Nat), (∀ m, n = some m → 1 ≤ m ∧ m ≤ 9999) →
         let e' : SaveEntry := ⟨h, n.getD e.service, (l.map fun x => max (-36000) (min 36000 x)).getD e.lateness⟩
         ∃ t, exec (.amendSaveEntry tag h l n) s = .next t ∧ t.control.saves.find? (fun e => e.train == h) = some e' ∧
           t = { s with control := t.control, responses := s.responses ++ [⟨26, tag, .done, .saveEntry e'⟩] } ∧
           { t.control with saves := s.control.saves } = s.control ∧
           t.control.saves.length = s.control.saves.length ∧
           ∀ j : Nat, (∀ f : SaveEntry, s.control.saves[j]? = some f → f.train ≠ h) → t.control.saves[j]? = s.control.saves[j]?)

/-! ### The whole part -/

/-- The lines follow the pending sources, the mask and the routes after every step (R183). The directive queue never holds two
directives for one target (R193); line time stays in the day (R1), the mask within 0..7 (R184), the bad-frame count within 0..7
(R190), every fault counter within 0..255 and every recovery count within 0..16 (R6). -/
def Obligations.LinesTargetsAndCountersAreKept : Prop :=
  (∀ s t : State, s.LinesJudged → step s = .next t → t.LinesJudged) ∧
  (∀ s t : State, s.OnePerTarget → step s = .next t → t.OnePerTarget) ∧
  (∀ s t : State, s.ClockOk ∧ s.MaskOk ∧ s.BadCountOk → step s = .next t → t.ClockOk ∧ t.MaskOk ∧ t.BadCountOk) ∧
  (∀ s t : State, s.CountersOk → step s = .next t → t.CountersOk)

/-- The in-use count of every substation stays the sum of the weights on its lease list (R100, R105), and no step takes it
above the budget in force (R108, R117). -/
def Obligations.InUseStaysTheSumOfTheLeases : Prop :=
  ∀ s t : State, s.Balanced → step s = .next t → t.Balanced ∧
    ∀ k, (t.substation k).inUse ≤ max (s.substation k).inUse (t.substation k).budget

/-- Every slot stays on exactly one list, that of its kind, and no living record has epoch 0 (R20, R21, R26); so the free count
and the live records of the three kinds stay 256 together (R20). The incident list stays in the order of severity and every queue in
that of priority (R25, R26), and every priority stays 0..3 (R122, R143). -/
def Obligations.SlotsStayOnTheirLists : Prop :=
  (∀ s t : State, s.Sound → step s = .next t → t.Sound ∧ t.freeCount + t.trainCount + t.incidentCount + t.annCount = 256) ∧
  (∀ s t : State, s.Sound → s.Ordered → step s = .next t → t.Ordered) ∧
  (∀ s t : State, s.Sound → s.Configured → s.PrioritiesOk → step s = .next t → t.PrioritiesOk)

/-- Every entry of a wait queue stays that of a live train WAITING PERMIT, no train stands in two, and every train WAITING
PERMIT stands in one (R44); the tables stay those that START has passed, and the platforms of the trains configured (R14, R16, R18).
No two live trains come to carry the same vehicle identity (R45), and the caps are kept (R28). The save area stays that of the live
trains marked as saved, one entry for each in train-list order, and empty while the degraded flag is clear (R162, R169). -/
def Obligations.WaitingTrainsAndVehiclesAreKept : Prop :=
  (∀ s t : State, s.Sound → s.QueuesOk → step s = .next t → t.QueuesOk) ∧
  (∀ s t : State, s.Sound → s.Configured → step s = .next t → t.Configured) ∧
  (∀ s t : State, s.Sound → s.QueuesOk → s.Configured → s.WaitersQueued → step s = .next t → t.WaitersQueued) ∧
  (∀ s t : State, s.Sound → s.VehiclesOnce → s.CapsOk → step s = .next t → t.VehiclesOnce ∧ t.CapsOk) ∧
  (∀ s t : State, s.Sound → s.Configured → s.SavesOk → step s = .next t → t.SavesOk)

/-- Players, cues and announcement records stay in agreement through every step (R144, R145, R146, R149): the relation that
State.PlayersOk says. -/
def Obligations.PlayersFollowTheirCues : Prop :=
  ∀ s t : State, s.Sound → s.Configured → s.PlayersOk → step s = .next t → t.PlayersOk

/-- Each part of the supply, the ring and the links moves by its own commands only: the counter, level and operation of a
section (R6, R87, R90, R96), its state (R89 to R95, R98, R99) and occupants (R58), a substation's state and budget (R98, R99,
R117), the train list (R24), a platform's last departure, last foreign passage and occupant (R49, R52 to R54, R60), the bad-frame
count (R190), the receivers and the frames that wait (R175, R180). The tick and ADJUST TIME are among them where an operation expires
with them (R12; log 11). -/
def Obligations.SupplyRingAndLinksHaveTheirCommands : Prop :=
  ∀ (c : Instr) (s t : State), exec c s = .next t →
    let anew := c = .coldReset ∨ ∃ tag, c = .start tag
    let feeder := ∃ i cls pos time, c = .feeder i cls pos time
    let expiry := ∃ i, c = .operationExpiry i
    let breaker := (∃ tag i e, c = .isolate tag i e) ∨ (∃ tag i, c = .energise tag i) ∨ ∃ tag i, c = .restore tag i
    let passage := (∃ v p time, c = .arrive v p time) ∨ ∃ v p time, c = .depart v p time
    let retire := ∃ tag h, c = .retire tag h
    let time := c = .lineTimeTick ∨ ∃ tag d, c = .adjustTime tag d
    (∀ i, ((t.sect i).counter ≠ (s.sect i).counter → anew ∨ feeder ∨ expiry ∨ time) ∧
      ((t.sect i).breaker ≠ (s.sect i).breaker → anew ∨ feeder) ∧
      ((t.sect i).warning ≠ (s.sect i).warning → anew ∨ ∃ tag j n, c = .setWarningLevel tag j n) ∧
      ((t.sect i).state ≠ (s.sect i).state → anew ∨ feeder ∨ expiry ∨ time ∨ breaker ∨ ∃ k up time, c = .substation k up time) ∧
      ((t.sect i).op ≠ (s.sect i).op → anew ∨ feeder ∨ expiry ∨ time ∨ breaker ∨ ∃ tag n, c = .setTime tag n) ∧
      ((t.sect i).occupants ≠ (s.sect i).occupants → anew ∨ passage ∨ retire)) ∧
    (∀ k, (t.up k ≠ s.up k → anew ∨ ∃ j up time, c = .substation j up time) ∧
      ((t.substation k).budget ≠ (s.substation k).budget →
        anew ∨ ∃ tag, c = .resume tag ∨ (∃ q, c = .selectPattern tag q) ∨ ∃ q, c = .enterDegraded tag q)) ∧
    (t.pool.trains ≠ s.pool.trains → c = .coldReset ∨ (∃ tag v n o b m, c = .createTrain tag v n o b m) ∨ retire) ∧
    (∀ p, ((t.platform p).lastDep ≠ (s.platform p).lastDep → anew ∨ ∃ v q time, c = .depart v q time) ∧
      ((t.platform p).lastForeign ≠ (s.platform p).lastForeign → anew ∨ passage) ∧
      ((t.platform p).occupant ≠ (s.platform p).occupant → anew ∨ passage ∨ retire)) ∧
    (t.links.badCount ≠ s.links.badCount → c = .coldReset ∨ (∃ tag, c = .linkRestart tag) ∨ c = .fieldBadFrame ∨
      c = .fieldFrameByteGap ∨ feeder ∨ passage ∨ (∃ k up time, c = .substation k up time) ∨
      ∃ p on n time, c = .platformAlarm p on n time) ∧
    (t.links.controlRx ≠ s.links.controlRx → c = .coldReset ∨ (∃ tag, c = .linkRestart tag) ∨ c = .controlFrameByteGap) ∧
    (t.links.fieldRx ≠ s.links.fieldRx → c = .coldReset ∨ (∃ tag, c = .linkRestart tag) ∨ c = .fieldFrameByteGap) ∧
    (t.links.statusRx ≠ s.links.statusRx → c = .coldReset ∨ (∃ tag, c = .linkRestart tag) ∨ c = .statusFrameByteGap) ∧
    (t.links.waiting ≠ s.links.waiting → c = .coldReset ∨ (∃ tag, c = .linkRestart tag) ∨ c = .controlFrameByteGap)

/-- Every request is answered by one response with its code and tag; a request that is refused changes nothing (R176, R178);
while UNCONFIGURED the requests that R14 does not list are answered NOT CONFIGURED. -/
def Obligations.EachRequestIsAnsweredOnce : Prop :=
  ∀ (c : Instr) (s : State) (code tag : Nat), requestOf c = some (code, tag) →
    ∃ t r, exec c s = .next t ∧ t.responses = s.responses ++ [r] ∧ r.code = code ∧ r.tag = tag ∧
      (r.status ≠ .done → r.status ≠ .accepted → t = s.reply r) ∧
      (s.part = .unconfigured → code ≤ 26 → (∀ n, c ≠ .unknownRequestCode code tag n) → r = ⟨code, tag, .notConfigured, .empty⟩)

/-- Each piece of state moves by its own commands only: line time (R10, R11, R12, R19), the tables (R15), the part state (R14),
the mask (R184), the shadows (R195; that the retirement of an occupant moves none is the model's reading of R61, log 9), Pattern
Control (R163, R169), and the queue of commands by none (the model's choice, log 1). -/
def Obligations.EachPartOfTheStateHasItsCommands : Prop :=
  ∀ (c : Instr) (s : State), ∃ t, exec c s = .next t ∧ t.pending = s.pending ∧ t.straps = s.straps ∧
    (t.lineTime ≠ s.lineTime →
      c = .coldReset ∨ c = .lineTimeTick ∨ (∃ tag n, c = .setTime tag n) ∨ ∃ tag d, c = .adjustTime tag d) ∧
    (t.tables ≠ s.tables → c = .coldReset ∨ ∃ tag n first bytes, c = .loadConfig tag n first bytes) ∧
    (t.part ≠ s.part → c = .coldReset ∨ ∃ tag, c = .start tag ∨ c = .configReload tag) ∧
    (t.attention.mask ≠ s.attention.mask → c = .coldReset ∨ ∃ tag m, c = .setAttentionMask tag m) ∧
    (t.links.shadows ≠ s.links.shadows → c = .coldReset ∨ c = .directiveSent) ∧
    (t.control ≠ s.control → c = .coldReset ∨ ∃ tag, c = .start tag ∨ c = .resume tag ∨ (∃ q, c = .selectPattern tag q) ∨
      (∃ q, c = .enterDegraded tag q) ∨ (∃ h, c = .retire tag h) ∨ ∃ h l n, c = .amendSaveEntry tag h l n)

end Statements
end

