-- ==== Sys2Proof/Laws/State.lean ====
section
/-! SUPPORT. One lemma for each field and each named update of the state: what the update makes of that field. -/

namespace Sys2Proof.Machine

open Sys2Proof

@[simp] theorem State.modPool_part (s : State) (f : Pool → Pool) : (s.modPool f).part = s.part := rfl
@[simp] theorem State.modPool_tables (s : State) (f : Pool → Pool) : (s.modPool f).tables = s.tables := rfl
@[simp] theorem State.modPool_lineTime (s : State) (f : Pool → Pool) : (s.modPool f).lineTime = s.lineTime := rfl
@[simp] theorem State.modPool_pool (s : State) (f : Pool → Pool) : (s.modPool f).pool = f s.pool := rfl
@[simp] theorem State.modPool_platforms (s : State) (f : Pool → Pool) : (s.modPool f).platforms = s.platforms := rfl
@[simp] theorem State.modPool_sects (s : State) (f : Pool → Pool) : (s.modPool f).sects = s.sects := rfl
@[simp] theorem State.modPool_substations (s : State) (f : Pool → Pool) : (s.modPool f).substations = s.substations := rfl
@[simp] theorem State.modPool_control (s : State) (f : Pool → Pool) : (s.modPool f).control = s.control := rfl
@[simp] theorem State.modPool_attention (s : State) (f : Pool → Pool) : (s.modPool f).attention = s.attention := rfl
@[simp] theorem State.modPool_links (s : State) (f : Pool → Pool) : (s.modPool f).links = s.links := rfl
@[simp] theorem State.modPool_straps (s : State) (f : Pool → Pool) : (s.modPool f).straps = s.straps := rfl
@[simp] theorem State.modPool_responses (s : State) (f : Pool → Pool) : (s.modPool f).responses = s.responses := rfl
@[simp] theorem State.modPool_pending (s : State) (f : Pool → Pool) : (s.modPool f).pending = s.pending := rfl

@[simp] theorem State.modSlot_part (s : State) (i : Nat) (f : Slot → Slot) : (s.modSlot i f).part = s.part := rfl
@[simp] theorem State.modSlot_tables (s : State) (i : Nat) (f : Slot → Slot) : (s.modSlot i f).tables = s.tables := rfl
@[simp] theorem State.modSlot_lineTime (s : State) (i : Nat) (f : Slot → Slot) : (s.modSlot i f).lineTime = s.lineTime := rfl
@[simp] theorem State.modSlot_platforms (s : State) (i : Nat) (f : Slot → Slot) : (s.modSlot i f).platforms = s.platforms := rfl
@[simp] theorem State.modSlot_sects (s : State) (i : Nat) (f : Slot → Slot) : (s.modSlot i f).sects = s.sects := rfl
@[simp] theorem State.modSlot_substations (s : State) (i : Nat) (f : Slot → Slot) : (s.modSlot i f).substations = s.substations := rfl
@[simp] theorem State.modSlot_control (s : State) (i : Nat) (f : Slot → Slot) : (s.modSlot i f).control = s.control := rfl
@[simp] theorem State.modSlot_attention (s : State) (i : Nat) (f : Slot → Slot) : (s.modSlot i f).attention = s.attention := rfl
@[simp] theorem State.modSlot_links (s : State) (i : Nat) (f : Slot → Slot) : (s.modSlot i f).links = s.links := rfl
@[simp] theorem State.modSlot_straps (s : State) (i : Nat) (f : Slot → Slot) : (s.modSlot i f).straps = s.straps := rfl
@[simp] theorem State.modSlot_responses (s : State) (i : Nat) (f : Slot → Slot) : (s.modSlot i f).responses = s.responses := rfl
@[simp] theorem State.modSlot_pending (s : State) (i : Nat) (f : Slot → Slot) : (s.modSlot i f).pending = s.pending := rfl

@[simp] theorem State.modTrain_part (s : State) (i : Nat) (f : Train → Train) : (s.modTrain i f).part = s.part := rfl
@[simp] theorem State.modTrain_tables (s : State) (i : Nat) (f : Train → Train) : (s.modTrain i f).tables = s.tables := rfl
@[simp] theorem State.modTrain_lineTime (s : State) (i : Nat) (f : Train → Train) : (s.modTrain i f).lineTime = s.lineTime := rfl
@[simp] theorem State.modTrain_platforms (s : State) (i : Nat) (f : Train → Train) : (s.modTrain i f).platforms = s.platforms := rfl
@[simp] theorem State.modTrain_sects (s : State) (i : Nat) (f : Train → Train) : (s.modTrain i f).sects = s.sects := rfl
@[simp] theorem State.modTrain_substations (s : State) (i : Nat) (f : Train → Train) : (s.modTrain i f).substations = s.substations := rfl
@[simp] theorem State.modTrain_control (s : State) (i : Nat) (f : Train → Train) : (s.modTrain i f).control = s.control := rfl
@[simp] theorem State.modTrain_attention (s : State) (i : Nat) (f : Train → Train) : (s.modTrain i f).attention = s.attention := rfl
@[simp] theorem State.modTrain_links (s : State) (i : Nat) (f : Train → Train) : (s.modTrain i f).links = s.links := rfl
@[simp] theorem State.modTrain_straps (s : State) (i : Nat) (f : Train → Train) : (s.modTrain i f).straps = s.straps := rfl
@[simp] theorem State.modTrain_responses (s : State) (i : Nat) (f : Train → Train) : (s.modTrain i f).responses = s.responses := rfl
@[simp] theorem State.modTrain_pending (s : State) (i : Nat) (f : Train → Train) : (s.modTrain i f).pending = s.pending := rfl

@[simp] theorem State.modIncident_part (s : State) (i : Nat) (f : Incident → Incident) : (s.modIncident i f).part = s.part := rfl
@[simp] theorem State.modIncident_tables (s : State) (i : Nat) (f : Incident → Incident) : (s.modIncident i f).tables = s.tables := rfl
@[simp] theorem State.modIncident_lineTime (s : State) (i : Nat) (f : Incident → Incident) : (s.modIncident i f).lineTime = s.lineTime := rfl
@[simp] theorem State.modIncident_platforms (s : State) (i : Nat) (f : Incident → Incident) : (s.modIncident i f).platforms = s.platforms := rfl
@[simp] theorem State.modIncident_sects (s : State) (i : Nat) (f : Incident → Incident) : (s.modIncident i f).sects = s.sects := rfl
@[simp] theorem State.modIncident_substations (s : State) (i : Nat) (f : Incident → Incident) : (s.modIncident i f).substations = s.substations := rfl
@[simp] theorem State.modIncident_control (s : State) (i : Nat) (f : Incident → Incident) : (s.modIncident i f).control = s.control := rfl
@[simp] theorem State.modIncident_attention (s : State) (i : Nat) (f : Incident → Incident) : (s.modIncident i f).attention = s.attention := rfl
@[simp] theorem State.modIncident_links (s : State) (i : Nat) (f : Incident → Incident) : (s.modIncident i f).links = s.links := rfl
@[simp] theorem State.modIncident_straps (s : State) (i : Nat) (f : Incident → Incident) : (s.modIncident i f).straps = s.straps := rfl
@[simp] theorem State.modIncident_responses (s : State) (i : Nat) (f : Incident → Incident) : (s.modIncident i f).responses = s.responses := rfl
@[simp] theorem State.modIncident_pending (s : State) (i : Nat) (f : Incident → Incident) : (s.modIncident i f).pending = s.pending := rfl

@[simp] theorem State.modAnn_part (s : State) (i : Nat) (f : Ann → Ann) : (s.modAnn i f).part = s.part := rfl
@[simp] theorem State.modAnn_tables (s : State) (i : Nat) (f : Ann → Ann) : (s.modAnn i f).tables = s.tables := rfl
@[simp] theorem State.modAnn_lineTime (s : State) (i : Nat) (f : Ann → Ann) : (s.modAnn i f).lineTime = s.lineTime := rfl
@[simp] theorem State.modAnn_platforms (s : State) (i : Nat) (f : Ann → Ann) : (s.modAnn i f).platforms = s.platforms := rfl
@[simp] theorem State.modAnn_sects (s : State) (i : Nat) (f : Ann → Ann) : (s.modAnn i f).sects = s.sects := rfl
@[simp] theorem State.modAnn_substations (s : State) (i : Nat) (f : Ann → Ann) : (s.modAnn i f).substations = s.substations := rfl
@[simp] theorem State.modAnn_control (s : State) (i : Nat) (f : Ann → Ann) : (s.modAnn i f).control = s.control := rfl
@[simp] theorem State.modAnn_attention (s : State) (i : Nat) (f : Ann → Ann) : (s.modAnn i f).attention = s.attention := rfl
@[simp] theorem State.modAnn_links (s : State) (i : Nat) (f : Ann → Ann) : (s.modAnn i f).links = s.links := rfl
@[simp] theorem State.modAnn_straps (s : State) (i : Nat) (f : Ann → Ann) : (s.modAnn i f).straps = s.straps := rfl
@[simp] theorem State.modAnn_responses (s : State) (i : Nat) (f : Ann → Ann) : (s.modAnn i f).responses = s.responses := rfl
@[simp] theorem State.modAnn_pending (s : State) (i : Nat) (f : Ann → Ann) : (s.modAnn i f).pending = s.pending := rfl

@[simp] theorem State.modQueue_part (s : State) (p : Nat) (f : List Nat → List Nat) : (s.modQueue p f).part = s.part := rfl
@[simp] theorem State.modQueue_tables (s : State) (p : Nat) (f : List Nat → List Nat) : (s.modQueue p f).tables = s.tables := rfl
@[simp] theorem State.modQueue_lineTime (s : State) (p : Nat) (f : List Nat → List Nat) : (s.modQueue p f).lineTime = s.lineTime := rfl
@[simp] theorem State.modQueue_pool (s : State) (p : Nat) (f : List Nat → List Nat) : (s.modQueue p f).pool = { s.pool with queues := s.pool.queues.modify p f } := rfl
@[simp] theorem State.modQueue_platforms (s : State) (p : Nat) (f : List Nat → List Nat) : (s.modQueue p f).platforms = s.platforms := rfl
@[simp] theorem State.modQueue_sects (s : State) (p : Nat) (f : List Nat → List Nat) : (s.modQueue p f).sects = s.sects := rfl
@[simp] theorem State.modQueue_substations (s : State) (p : Nat) (f : List Nat → List Nat) : (s.modQueue p f).substations = s.substations := rfl
@[simp] theorem State.modQueue_control (s : State) (p : Nat) (f : List Nat → List Nat) : (s.modQueue p f).control = s.control := rfl
@[simp] theorem State.modQueue_attention (s : State) (p : Nat) (f : List Nat → List Nat) : (s.modQueue p f).attention = s.attention := rfl
@[simp] theorem State.modQueue_links (s : State) (p : Nat) (f : List Nat → List Nat) : (s.modQueue p f).links = s.links := rfl
@[simp] theorem State.modQueue_straps (s : State) (p : Nat) (f : List Nat → List Nat) : (s.modQueue p f).straps = s.straps := rfl
@[simp] theorem State.modQueue_responses (s : State) (p : Nat) (f : List Nat → List Nat) : (s.modQueue p f).responses = s.responses := rfl
@[simp] theorem State.modQueue_pending (s : State) (p : Nat) (f : List Nat → List Nat) : (s.modQueue p f).pending = s.pending := rfl

@[simp] theorem State.modPlatform_part (s : State) (p : Nat) (f : Platform → Platform) : (s.modPlatform p f).part = s.part := rfl
@[simp] theorem State.modPlatform_tables (s : State) (p : Nat) (f : Platform → Platform) : (s.modPlatform p f).tables = s.tables := rfl
@[simp] theorem State.modPlatform_lineTime (s : State) (p : Nat) (f : Platform → Platform) : (s.modPlatform p f).lineTime = s.lineTime := rfl
@[simp] theorem State.modPlatform_pool (s : State) (p : Nat) (f : Platform → Platform) : (s.modPlatform p f).pool = s.pool := rfl
@[simp] theorem State.modPlatform_platforms (s : State) (p : Nat) (f : Platform → Platform) : (s.modPlatform p f).platforms = s.platforms.modify p f := rfl
@[simp] theorem State.modPlatform_sects (s : State) (p : Nat) (f : Platform → Platform) : (s.modPlatform p f).sects = s.sects := rfl
@[simp] theorem State.modPlatform_substations (s : State) (p : Nat) (f : Platform → Platform) : (s.modPlatform p f).substations = s.substations := rfl
@[simp] theorem State.modPlatform_control (s : State) (p : Nat) (f : Platform → Platform) : (s.modPlatform p f).control = s.control := rfl
@[simp] theorem State.modPlatform_attention (s : State) (p : Nat) (f : Platform → Platform) : (s.modPlatform p f).attention = s.attention := rfl
@[simp] theorem State.modPlatform_links (s : State) (p : Nat) (f : Platform → Platform) : (s.modPlatform p f).links = s.links := rfl
@[simp] theorem State.modPlatform_straps (s : State) (p : Nat) (f : Platform → Platform) : (s.modPlatform p f).straps = s.straps := rfl
@[simp] theorem State.modPlatform_responses (s : State) (p : Nat) (f : Platform → Platform) : (s.modPlatform p f).responses = s.responses := rfl
@[simp] theorem State.modPlatform_pending (s : State) (p : Nat) (f : Platform → Platform) : (s.modPlatform p f).pending = s.pending := rfl

@[simp] theorem State.modSect_part (s : State) (i : Nat) (f : Sect → Sect) : (s.modSect i f).part = s.part := rfl
@[simp] theorem State.modSect_tables (s : State) (i : Nat) (f : Sect → Sect) : (s.modSect i f).tables = s.tables := rfl
@[simp] theorem State.modSect_lineTime (s : State) (i : Nat) (f : Sect → Sect) : (s.modSect i f).lineTime = s.lineTime := rfl
@[simp] theorem State.modSect_pool (s : State) (i : Nat) (f : Sect → Sect) : (s.modSect i f).pool = s.pool := rfl
@[simp] theorem State.modSect_platforms (s : State) (i : Nat) (f : Sect → Sect) : (s.modSect i f).platforms = s.platforms := rfl
@[simp] theorem State.modSect_sects (s : State) (i : Nat) (f : Sect → Sect) : (s.modSect i f).sects = s.sects.modify i f := rfl
@[simp] theorem State.modSect_substations (s : State) (i : Nat) (f : Sect → Sect) : (s.modSect i f).substations = s.substations := rfl
@[simp] theorem State.modSect_control (s : State) (i : Nat) (f : Sect → Sect) : (s.modSect i f).control = s.control := rfl
@[simp] theorem State.modSect_attention (s : State) (i : Nat) (f : Sect → Sect) : (s.modSect i f).attention = s.attention := rfl
@[simp] theorem State.modSect_links (s : State) (i : Nat) (f : Sect → Sect) : (s.modSect i f).links = s.links := rfl
@[simp] theorem State.modSect_straps (s : State) (i : Nat) (f : Sect → Sect) : (s.modSect i f).straps = s.straps := rfl
@[simp] theorem State.modSect_responses (s : State) (i : Nat) (f : Sect → Sect) : (s.modSect i f).responses = s.responses := rfl
@[simp] theorem State.modSect_pending (s : State) (i : Nat) (f : Sect → Sect) : (s.modSect i f).pending = s.pending := rfl

@[simp] theorem State.modSubstation_part (s : State) (k : Nat) (f : Substation → Substation) : (s.modSubstation k f).part = s.part := rfl
@[simp] theorem State.modSubstation_tables (s : State) (k : Nat) (f : Substation → Substation) : (s.modSubstation k f).tables = s.tables := rfl
@[simp] theorem State.modSubstation_lineTime (s : State) (k : Nat) (f : Substation → Substation) : (s.modSubstation k f).lineTime = s.lineTime := rfl
@[simp] theorem State.modSubstation_pool (s : State) (k : Nat) (f : Substation → Substation) : (s.modSubstation k f).pool = s.pool := rfl
@[simp] theorem State.modSubstation_platforms (s : State) (k : Nat) (f : Substation → Substation) : (s.modSubstation k f).platforms = s.platforms := rfl
@[simp] theorem State.modSubstation_sects (s : State) (k : Nat) (f : Substation → Substation) : (s.modSubstation k f).sects = s.sects := rfl
@[simp] theorem State.modSubstation_substations (s : State) (k : Nat) (f : Substation → Substation) : (s.modSubstation k f).substations = s.substations.modify k f := rfl
@[simp] theorem State.modSubstation_control (s : State) (k : Nat) (f : Substation → Substation) : (s.modSubstation k f).control = s.control := rfl
@[simp] theorem State.modSubstation_attention (s : State) (k : Nat) (f : Substation → Substation) : (s.modSubstation k f).attention = s.attention := rfl
@[simp] theorem State.modSubstation_links (s : State) (k : Nat) (f : Substation → Substation) : (s.modSubstation k f).links = s.links := rfl
@[simp] theorem State.modSubstation_straps (s : State) (k : Nat) (f : Substation → Substation) : (s.modSubstation k f).straps = s.straps := rfl
@[simp] theorem State.modSubstation_responses (s : State) (k : Nat) (f : Substation → Substation) : (s.modSubstation k f).responses = s.responses := rfl
@[simp] theorem State.modSubstation_pending (s : State) (k : Nat) (f : Substation → Substation) : (s.modSubstation k f).pending = s.pending := rfl

@[simp] theorem State.modControl_part (s : State) (f : PatternControl → PatternControl) : (s.modControl f).part = s.part := rfl
@[simp] theorem State.modControl_tables (s : State) (f : PatternControl → PatternControl) : (s.modControl f).tables = s.tables := rfl
@[simp] theorem State.modControl_lineTime (s : State) (f : PatternControl → PatternControl) : (s.modControl f).lineTime = s.lineTime := rfl
@[simp] theorem State.modControl_pool (s : State) (f : PatternControl → PatternControl) : (s.modControl f).pool = s.pool := rfl
@[simp] theorem State.modControl_platforms (s : State) (f : PatternControl → PatternControl) : (s.modControl f).platforms = s.platforms := rfl
@[simp] theorem State.modControl_sects (s : State) (f : PatternControl → PatternControl) : (s.modControl f).sects = s.sects := rfl
@[simp] theorem State.modControl_substations (s : State) (f : PatternControl → PatternControl) : (s.modControl f).substations = s.substations := rfl
@[simp] theorem State.modControl_control (s : State) (f : PatternControl → PatternControl) : (s.modControl f).control = f s.control := rfl
@[simp] theorem State.modControl_attention (s : State) (f : PatternControl → PatternControl) : (s.modControl f).attention = s.attention := rfl
@[simp] theorem State.modControl_links (s : State) (f : PatternControl → PatternControl) : (s.modControl f).links = s.links := rfl
@[simp] theorem State.modControl_straps (s : State) (f : PatternControl → PatternControl) : (s.modControl f).straps = s.straps := rfl
@[simp] theorem State.modControl_responses (s : State) (f : PatternControl → PatternControl) : (s.modControl f).responses = s.responses := rfl
@[simp] theorem State.modControl_pending (s : State) (f : PatternControl → PatternControl) : (s.modControl f).pending = s.pending := rfl

@[simp] theorem State.modAttention_part (s : State) (f : Attention → Attention) : (s.modAttention f).part = s.part := rfl
@[simp] theorem State.modAttention_tables (s : State) (f : Attention → Attention) : (s.modAttention f).tables = s.tables := rfl
@[simp] theorem State.modAttention_lineTime (s : State) (f : Attention → Attention) : (s.modAttention f).lineTime = s.lineTime := rfl
@[simp] theorem State.modAttention_pool (s : State) (f : Attention → Attention) : (s.modAttention f).pool = s.pool := rfl
@[simp] theorem State.modAttention_platforms (s : State) (f : Attention → Attention) : (s.modAttention f).platforms = s.platforms := rfl
@[simp] theorem State.modAttention_sects (s : State) (f : Attention → Attention) : (s.modAttention f).sects = s.sects := rfl
@[simp] theorem State.modAttention_substations (s : State) (f : Attention → Attention) : (s.modAttention f).substations = s.substations := rfl
@[simp] theorem State.modAttention_control (s : State) (f : Attention → Attention) : (s.modAttention f).control = s.control := rfl
@[simp] theorem State.modAttention_attention (s : State) (f : Attention → Attention) : (s.modAttention f).attention = f s.attention := rfl
@[simp] theorem State.modAttention_links (s : State) (f : Attention → Attention) : (s.modAttention f).links = s.links := rfl
@[simp] theorem State.modAttention_straps (s : State) (f : Attention → Attention) : (s.modAttention f).straps = s.straps := rfl
@[simp] theorem State.modAttention_responses (s : State) (f : Attention → Attention) : (s.modAttention f).responses = s.responses := rfl
@[simp] theorem State.modAttention_pending (s : State) (f : Attention → Attention) : (s.modAttention f).pending = s.pending := rfl

@[simp] theorem State.modLinks_part (s : State) (f : Links → Links) : (s.modLinks f).part = s.part := rfl
@[simp] theorem State.modLinks_tables (s : State) (f : Links → Links) : (s.modLinks f).tables = s.tables := rfl
@[simp] theorem State.modLinks_lineTime (s : State) (f : Links → Links) : (s.modLinks f).lineTime = s.lineTime := rfl
@[simp] theorem State.modLinks_pool (s : State) (f : Links → Links) : (s.modLinks f).pool = s.pool := rfl
@[simp] theorem State.modLinks_platforms (s : State) (f : Links → Links) : (s.modLinks f).platforms = s.platforms := rfl
@[simp] theorem State.modLinks_sects (s : State) (f : Links → Links) : (s.modLinks f).sects = s.sects := rfl
@[simp] theorem State.modLinks_substations (s : State) (f : Links → Links) : (s.modLinks f).substations = s.substations := rfl
@[simp] theorem State.modLinks_control (s : State) (f : Links → Links) : (s.modLinks f).control = s.control := rfl
@[simp] theorem State.modLinks_attention (s : State) (f : Links → Links) : (s.modLinks f).attention = s.attention := rfl
@[simp] theorem State.modLinks_links (s : State) (f : Links → Links) : (s.modLinks f).links = f s.links := rfl
@[simp] theorem State.modLinks_straps (s : State) (f : Links → Links) : (s.modLinks f).straps = s.straps := rfl
@[simp] theorem State.modLinks_responses (s : State) (f : Links → Links) : (s.modLinks f).responses = s.responses := rfl
@[simp] theorem State.modLinks_pending (s : State) (f : Links → Links) : (s.modLinks f).pending = s.pending := rfl

@[simp] theorem State.setTables_part (s : State) (x : Tables) : (s.setTables x).part = s.part := rfl
@[simp] theorem State.setTables_tables (s : State) (x : Tables) : (s.setTables x).tables = x := rfl
@[simp] theorem State.setTables_lineTime (s : State) (x : Tables) : (s.setTables x).lineTime = s.lineTime := rfl
@[simp] theorem State.setTables_pool (s : State) (x : Tables) : (s.setTables x).pool = s.pool := rfl
@[simp] theorem State.setTables_platforms (s : State) (x : Tables) : (s.setTables x).platforms = s.platforms := rfl
@[simp] theorem State.setTables_sects (s : State) (x : Tables) : (s.setTables x).sects = s.sects := rfl
@[simp] theorem State.setTables_substations (s : State) (x : Tables) : (s.setTables x).substations = s.substations := rfl
@[simp] theorem State.setTables_control (s : State) (x : Tables) : (s.setTables x).control = s.control := rfl
@[simp] theorem State.setTables_attention (s : State) (x : Tables) : (s.setTables x).attention = s.attention := rfl
@[simp] theorem State.setTables_links (s : State) (x : Tables) : (s.setTables x).links = s.links := rfl
@[simp] theorem State.setTables_straps (s : State) (x : Tables) : (s.setTables x).straps = s.straps := rfl
@[simp] theorem State.setTables_responses (s : State) (x : Tables) : (s.setTables x).responses = s.responses := rfl
@[simp] theorem State.setTables_pending (s : State) (x : Tables) : (s.setTables x).pending = s.pending := rfl

@[simp] theorem State.setTime_part (s : State) (x : Nat) : (s.setTime x).part = s.part := rfl
@[simp] theorem State.setTime_tables (s : State) (x : Nat) : (s.setTime x).tables = s.tables := rfl
@[simp] theorem State.setTime_lineTime (s : State) (x : Nat) : (s.setTime x).lineTime = x := rfl
@[simp] theorem State.setTime_pool (s : State) (x : Nat) : (s.setTime x).pool = s.pool := rfl
@[simp] theorem State.setTime_platforms (s : State) (x : Nat) : (s.setTime x).platforms = s.platforms := rfl
@[simp] theorem State.setTime_sects (s : State) (x : Nat) : (s.setTime x).sects = s.sects := rfl
@[simp] theorem State.setTime_substations (s : State) (x : Nat) : (s.setTime x).substations = s.substations := rfl
@[simp] theorem State.setTime_control (s : State) (x : Nat) : (s.setTime x).control = s.control := rfl
@[simp] theorem State.setTime_attention (s : State) (x : Nat) : (s.setTime x).attention = s.attention := rfl
@[simp] theorem State.setTime_links (s : State) (x : Nat) : (s.setTime x).links = s.links := rfl
@[simp] theorem State.setTime_straps (s : State) (x : Nat) : (s.setTime x).straps = s.straps := rfl
@[simp] theorem State.setTime_responses (s : State) (x : Nat) : (s.setTime x).responses = s.responses := rfl
@[simp] theorem State.setTime_pending (s : State) (x : Nat) : (s.setTime x).pending = s.pending := rfl

@[simp] theorem State.setPart_part (s : State) (x : PartState) : (s.setPart x).part = x := rfl
@[simp] theorem State.setPart_tables (s : State) (x : PartState) : (s.setPart x).tables = s.tables := rfl
@[simp] theorem State.setPart_lineTime (s : State) (x : PartState) : (s.setPart x).lineTime = s.lineTime := rfl
@[simp] theorem State.setPart_pool (s : State) (x : PartState) : (s.setPart x).pool = s.pool := rfl
@[simp] theorem State.setPart_platforms (s : State) (x : PartState) : (s.setPart x).platforms = s.platforms := rfl
@[simp] theorem State.setPart_sects (s : State) (x : PartState) : (s.setPart x).sects = s.sects := rfl
@[simp] theorem State.setPart_substations (s : State) (x : PartState) : (s.setPart x).substations = s.substations := rfl
@[simp] theorem State.setPart_control (s : State) (x : PartState) : (s.setPart x).control = s.control := rfl
@[simp] theorem State.setPart_attention (s : State) (x : PartState) : (s.setPart x).attention = s.attention := rfl
@[simp] theorem State.setPart_links (s : State) (x : PartState) : (s.setPart x).links = s.links := rfl
@[simp] theorem State.setPart_straps (s : State) (x : PartState) : (s.setPart x).straps = s.straps := rfl
@[simp] theorem State.setPart_responses (s : State) (x : PartState) : (s.setPart x).responses = s.responses := rfl
@[simp] theorem State.setPart_pending (s : State) (x : PartState) : (s.setPart x).pending = s.pending := rfl

@[simp] theorem State.reply_part (s : State) (r : Response) : (s.reply r).part = s.part := rfl
@[simp] theorem State.reply_tables (s : State) (r : Response) : (s.reply r).tables = s.tables := rfl
@[simp] theorem State.reply_lineTime (s : State) (r : Response) : (s.reply r).lineTime = s.lineTime := rfl
@[simp] theorem State.reply_pool (s : State) (r : Response) : (s.reply r).pool = s.pool := rfl
@[simp] theorem State.reply_platforms (s : State) (r : Response) : (s.reply r).platforms = s.platforms := rfl
@[simp] theorem State.reply_sects (s : State) (r : Response) : (s.reply r).sects = s.sects := rfl
@[simp] theorem State.reply_substations (s : State) (r : Response) : (s.reply r).substations = s.substations := rfl
@[simp] theorem State.reply_control (s : State) (r : Response) : (s.reply r).control = s.control := rfl
@[simp] theorem State.reply_attention (s : State) (r : Response) : (s.reply r).attention = s.attention := rfl
@[simp] theorem State.reply_links (s : State) (r : Response) : (s.reply r).links = s.links := rfl
@[simp] theorem State.reply_straps (s : State) (r : Response) : (s.reply r).straps = s.straps := rfl
@[simp] theorem State.reply_responses (s : State) (r : Response) : (s.reply r).responses = s.responses ++ [r] := rfl
@[simp] theorem State.reply_pending (s : State) (r : Response) : (s.reply r).pending = s.pending := rfl

@[simp] theorem State.await_part (s : State) (c : Instr) : (s.await c).part = s.part := rfl
@[simp] theorem State.await_tables (s : State) (c : Instr) : (s.await c).tables = s.tables := rfl
@[simp] theorem State.await_lineTime (s : State) (c : Instr) : (s.await c).lineTime = s.lineTime := rfl
@[simp] theorem State.await_pool (s : State) (c : Instr) : (s.await c).pool = s.pool := rfl
@[simp] theorem State.await_platforms (s : State) (c : Instr) : (s.await c).platforms = s.platforms := rfl
@[simp] theorem State.await_sects (s : State) (c : Instr) : (s.await c).sects = s.sects := rfl
@[simp] theorem State.await_substations (s : State) (c : Instr) : (s.await c).substations = s.substations := rfl
@[simp] theorem State.await_control (s : State) (c : Instr) : (s.await c).control = s.control := rfl
@[simp] theorem State.await_attention (s : State) (c : Instr) : (s.await c).attention = s.attention := rfl
@[simp] theorem State.await_straps (s : State) (c : Instr) : (s.await c).straps = s.straps := rfl
@[simp] theorem State.await_responses (s : State) (c : Instr) : (s.await c).responses = s.responses := rfl
@[simp] theorem State.await_pending (s : State) (c : Instr) : (s.await c).pending = s.pending := rfl
@[simp] theorem State.await_links (s : State) (c : Instr) :
    (s.await c).links = { s.links with waiting := s.links.waiting ++ [c] } := rfl

@[simp] theorem State.latch_part (s : State) (x : Latch) : (s.latch x).part = s.part := rfl
@[simp] theorem State.latch_tables (s : State) (x : Latch) : (s.latch x).tables = s.tables := rfl
@[simp] theorem State.latch_lineTime (s : State) (x : Latch) : (s.latch x).lineTime = s.lineTime := rfl
@[simp] theorem State.latch_pool (s : State) (x : Latch) : (s.latch x).pool = s.pool := rfl
@[simp] theorem State.latch_platforms (s : State) (x : Latch) : (s.latch x).platforms = s.platforms := rfl
@[simp] theorem State.latch_sects (s : State) (x : Latch) : (s.latch x).sects = s.sects := rfl
@[simp] theorem State.latch_substations (s : State) (x : Latch) : (s.latch x).substations = s.substations := rfl
@[simp] theorem State.latch_control (s : State) (x : Latch) : (s.latch x).control = s.control := rfl
@[simp] theorem State.latch_attention (s : State) (x : Latch) : (s.latch x).attention = { s.attention with latches := s.attention.latches.put true x } := rfl
@[simp] theorem State.latch_links (s : State) (x : Latch) : (s.latch x).links = s.links := rfl
@[simp] theorem State.latch_straps (s : State) (x : Latch) : (s.latch x).straps = s.straps := rfl
@[simp] theorem State.latch_responses (s : State) (x : Latch) : (s.latch x).responses = s.responses := rfl
@[simp] theorem State.latch_pending (s : State) (x : Latch) : (s.latch x).pending = s.pending := rfl

@[simp] theorem State.unlatch_part (s : State) (x : Latch) : (s.unlatch x).part = s.part := rfl
@[simp] theorem State.unlatch_tables (s : State) (x : Latch) : (s.unlatch x).tables = s.tables := rfl
@[simp] theorem State.unlatch_lineTime (s : State) (x : Latch) : (s.unlatch x).lineTime = s.lineTime := rfl
@[simp] theorem State.unlatch_pool (s : State) (x : Latch) : (s.unlatch x).pool = s.pool := rfl
@[simp] theorem State.unlatch_platforms (s : State) (x : Latch) : (s.unlatch x).platforms = s.platforms := rfl
@[simp] theorem State.unlatch_sects (s : State) (x : Latch) : (s.unlatch x).sects = s.sects := rfl
@[simp] theorem State.unlatch_substations (s : State) (x : Latch) : (s.unlatch x).substations = s.substations := rfl
@[simp] theorem State.unlatch_control (s : State) (x : Latch) : (s.unlatch x).control = s.control := rfl
@[simp] theorem State.unlatch_attention (s : State) (x : Latch) : (s.unlatch x).attention = { s.attention with latches := s.attention.latches.put false x } := rfl
@[simp] theorem State.unlatch_links (s : State) (x : Latch) : (s.unlatch x).links = s.links := rfl
@[simp] theorem State.unlatch_straps (s : State) (x : Latch) : (s.unlatch x).straps = s.straps := rfl
@[simp] theorem State.unlatch_responses (s : State) (x : Latch) : (s.unlatch x).responses = s.responses := rfl
@[simp] theorem State.unlatch_pending (s : State) (x : Latch) : (s.unlatch x).pending = s.pending := rfl

@[simp] theorem State.issue_part (s : State) (n : Nat) (d : Directive) : (s.issue n d).part = s.part := rfl
@[simp] theorem State.issue_tables (s : State) (n : Nat) (d : Directive) : (s.issue n d).tables = s.tables := rfl
@[simp] theorem State.issue_lineTime (s : State) (n : Nat) (d : Directive) : (s.issue n d).lineTime = s.lineTime := rfl
@[simp] theorem State.issue_pool (s : State) (n : Nat) (d : Directive) : (s.issue n d).pool = s.pool := rfl
@[simp] theorem State.issue_platforms (s : State) (n : Nat) (d : Directive) : (s.issue n d).platforms = s.platforms := rfl
@[simp] theorem State.issue_sects (s : State) (n : Nat) (d : Directive) : (s.issue n d).sects = s.sects := rfl
@[simp] theorem State.issue_substations (s : State) (n : Nat) (d : Directive) : (s.issue n d).substations = s.substations := rfl
@[simp] theorem State.issue_control (s : State) (n : Nat) (d : Directive) : (s.issue n d).control = s.control := rfl
@[simp] theorem State.issue_attention (s : State) (n : Nat) (d : Directive) : (s.issue n d).attention = s.attention := rfl
@[simp] theorem State.issue_links (s : State) (n : Nat) (d : Directive) : (s.issue n d).links = { s.links with queue := State.issueInto s.links.queue n d } := rfl
@[simp] theorem State.issue_straps (s : State) (n : Nat) (d : Directive) : (s.issue n d).straps = s.straps := rfl
@[simp] theorem State.issue_responses (s : State) (n : Nat) (d : Directive) : (s.issue n d).responses = s.responses := rfl
@[simp] theorem State.issue_pending (s : State) (n : Nat) (d : Directive) : (s.issue n d).pending = s.pending := rfl

@[simp] theorem State.issueIndicator_part (s : State) (n : Nat) (d : Directive) : (s.issueIndicator n d).part = s.part := rfl
@[simp] theorem State.issueIndicator_tables (s : State) (n : Nat) (d : Directive) : (s.issueIndicator n d).tables = s.tables := rfl
@[simp] theorem State.issueIndicator_lineTime (s : State) (n : Nat) (d : Directive) : (s.issueIndicator n d).lineTime = s.lineTime := rfl
@[simp] theorem State.issueIndicator_pool (s : State) (n : Nat) (d : Directive) : (s.issueIndicator n d).pool = s.pool := rfl
@[simp] theorem State.issueIndicator_platforms (s : State) (n : Nat) (d : Directive) : (s.issueIndicator n d).platforms = s.platforms := rfl
@[simp] theorem State.issueIndicator_sects (s : State) (n : Nat) (d : Directive) : (s.issueIndicator n d).sects = s.sects := rfl
@[simp] theorem State.issueIndicator_substations (s : State) (n : Nat) (d : Directive) : (s.issueIndicator n d).substations = s.substations := rfl
@[simp] theorem State.issueIndicator_control (s : State) (n : Nat) (d : Directive) : (s.issueIndicator n d).control = s.control := rfl
@[simp] theorem State.issueIndicator_attention (s : State) (n : Nat) (d : Directive) : (s.issueIndicator n d).attention = s.attention := rfl
@[simp] theorem State.issueIndicator_links (s : State) (n : Nat) (d : Directive) : (s.issueIndicator n d).links = { s.links with queue := State.issueInto s.links.queue n d } := rfl
@[simp] theorem State.issueIndicator_straps (s : State) (n : Nat) (d : Directive) : (s.issueIndicator n d).straps = s.straps := rfl
@[simp] theorem State.issueIndicator_responses (s : State) (n : Nat) (d : Directive) : (s.issueIndicator n d).responses = s.responses := rfl
@[simp] theorem State.issueIndicator_pending (s : State) (n : Nat) (d : Directive) : (s.issueIndicator n d).pending = s.pending := rfl

@[simp] theorem State.issuePlayer_part (s : State) (n : Nat) (d : Directive) : (s.issuePlayer n d).part = s.part := rfl
@[simp] theorem State.issuePlayer_tables (s : State) (n : Nat) (d : Directive) : (s.issuePlayer n d).tables = s.tables := rfl
@[simp] theorem State.issuePlayer_lineTime (s : State) (n : Nat) (d : Directive) : (s.issuePlayer n d).lineTime = s.lineTime := rfl
@[simp] theorem State.issuePlayer_pool (s : State) (n : Nat) (d : Directive) : (s.issuePlayer n d).pool = s.pool := rfl
@[simp] theorem State.issuePlayer_platforms (s : State) (n : Nat) (d : Directive) : (s.issuePlayer n d).platforms = s.platforms := rfl
@[simp] theorem State.issuePlayer_sects (s : State) (n : Nat) (d : Directive) : (s.issuePlayer n d).sects = s.sects := rfl
@[simp] theorem State.issuePlayer_substations (s : State) (n : Nat) (d : Directive) : (s.issuePlayer n d).substations = s.substations := rfl
@[simp] theorem State.issuePlayer_control (s : State) (n : Nat) (d : Directive) : (s.issuePlayer n d).control = s.control := rfl
@[simp] theorem State.issuePlayer_attention (s : State) (n : Nat) (d : Directive) : (s.issuePlayer n d).attention = s.attention := rfl
@[simp] theorem State.issuePlayer_links (s : State) (n : Nat) (d : Directive) : (s.issuePlayer n d).links = { s.links with queue := State.issueInto s.links.queue (Config.playerBase + n) d } := rfl
@[simp] theorem State.issuePlayer_straps (s : State) (n : Nat) (d : Directive) : (s.issuePlayer n d).straps = s.straps := rfl
@[simp] theorem State.issuePlayer_responses (s : State) (n : Nat) (d : Directive) : (s.issuePlayer n d).responses = s.responses := rfl
@[simp] theorem State.issuePlayer_pending (s : State) (n : Nat) (d : Directive) : (s.issuePlayer n d).pending = s.pending := rfl

@[simp] theorem State.issueBreaker_part (s : State) (n : Nat) (d : Directive) : (s.issueBreaker n d).part = s.part := rfl
@[simp] theorem State.issueBreaker_tables (s : State) (n : Nat) (d : Directive) : (s.issueBreaker n d).tables = s.tables := rfl
@[simp] theorem State.issueBreaker_lineTime (s : State) (n : Nat) (d : Directive) : (s.issueBreaker n d).lineTime = s.lineTime := rfl
@[simp] theorem State.issueBreaker_pool (s : State) (n : Nat) (d : Directive) : (s.issueBreaker n d).pool = s.pool := rfl
@[simp] theorem State.issueBreaker_platforms (s : State) (n : Nat) (d : Directive) : (s.issueBreaker n d).platforms = s.platforms := rfl
@[simp] theorem State.issueBreaker_sects (s : State) (n : Nat) (d : Directive) : (s.issueBreaker n d).sects = s.sects := rfl
@[simp] theorem State.issueBreaker_substations (s : State) (n : Nat) (d : Directive) : (s.issueBreaker n d).substations = s.substations := rfl
@[simp] theorem State.issueBreaker_control (s : State) (n : Nat) (d : Directive) : (s.issueBreaker n d).control = s.control := rfl
@[simp] theorem State.issueBreaker_attention (s : State) (n : Nat) (d : Directive) : (s.issueBreaker n d).attention = s.attention := rfl
@[simp] theorem State.issueBreaker_links (s : State) (n : Nat) (d : Directive) : (s.issueBreaker n d).links = { s.links with queue := State.issueInto s.links.queue (Config.breakerBase + n) d } := rfl
@[simp] theorem State.issueBreaker_straps (s : State) (n : Nat) (d : Directive) : (s.issueBreaker n d).straps = s.straps := rfl
@[simp] theorem State.issueBreaker_responses (s : State) (n : Nat) (d : Directive) : (s.issueBreaker n d).responses = s.responses := rfl
@[simp] theorem State.issueBreaker_pending (s : State) (n : Nat) (d : Directive) : (s.issueBreaker n d).pending = s.pending := rfl

/-! ### The lists of the pool under an update of a slot -/

@[simp] theorem State.modSlot_pool_free (s : State) (i : Nat) (f : Slot → Slot) : (s.modSlot i f).pool.free = s.pool.free := rfl
@[simp] theorem State.modSlot_pool_trains (s : State) (i : Nat) (f : Slot → Slot) : (s.modSlot i f).pool.trains = s.pool.trains := rfl
@[simp] theorem State.modSlot_pool_incidents (s : State) (i : Nat) (f : Slot → Slot) : (s.modSlot i f).pool.incidents = s.pool.incidents := rfl
@[simp] theorem State.modSlot_pool_queues (s : State) (i : Nat) (f : Slot → Slot) : (s.modSlot i f).pool.queues = s.pool.queues := rfl
@[simp] theorem State.modTrain_pool_free (s : State) (i : Nat) (f : Train → Train) : (s.modTrain i f).pool.free = s.pool.free := rfl
@[simp] theorem State.modTrain_pool_trains (s : State) (i : Nat) (f : Train → Train) : (s.modTrain i f).pool.trains = s.pool.trains := rfl
@[simp] theorem State.modTrain_pool_incidents (s : State) (i : Nat) (f : Train → Train) : (s.modTrain i f).pool.incidents = s.pool.incidents := rfl
@[simp] theorem State.modTrain_pool_queues (s : State) (i : Nat) (f : Train → Train) : (s.modTrain i f).pool.queues = s.pool.queues := rfl
@[simp] theorem State.modIncident_pool_free (s : State) (i : Nat) (f : Incident → Incident) : (s.modIncident i f).pool.free = s.pool.free := rfl
@[simp] theorem State.modIncident_pool_trains (s : State) (i : Nat) (f : Incident → Incident) : (s.modIncident i f).pool.trains = s.pool.trains := rfl
@[simp] theorem State.modIncident_pool_incidents (s : State) (i : Nat) (f : Incident → Incident) : (s.modIncident i f).pool.incidents = s.pool.incidents := rfl
@[simp] theorem State.modIncident_pool_queues (s : State) (i : Nat) (f : Incident → Incident) : (s.modIncident i f).pool.queues = s.pool.queues := rfl
@[simp] theorem State.modAnn_pool_free (s : State) (i : Nat) (f : Ann → Ann) : (s.modAnn i f).pool.free = s.pool.free := rfl
@[simp] theorem State.modAnn_pool_trains (s : State) (i : Nat) (f : Ann → Ann) : (s.modAnn i f).pool.trains = s.pool.trains := rfl
@[simp] theorem State.modAnn_pool_incidents (s : State) (i : Nat) (f : Ann → Ann) : (s.modAnn i f).pool.incidents = s.pool.incidents := rfl
@[simp] theorem State.modAnn_pool_queues (s : State) (i : Nat) (f : Ann → Ann) : (s.modAnn i f).pool.queues = s.pool.queues := rfl

@[simp] theorem State.modSlot_pool_slots (s : State) (i : Nat) (f : Slot → Slot) :
    (s.modSlot i f).pool.slots = s.pool.slots.modify i f := rfl

@[simp] theorem State.modQueue_pool_slots (s : State) (p : Nat) (f : List Nat → List Nat) :
    (s.modQueue p f).pool.slots = s.pool.slots := rfl

end Sys2Proof.Machine
end

