-- ==== Sys2Proof/Laws/Calm.lean ====
section
/-! SUPPORT. What every shared operation leaves alone, said once for each: `Calm s t` says that `t` follows from `s` by work on
records, queues, directives, latches and the gate alone. -/

namespace Sys2Proof.Machine

open Sys2Proof

/-- A section without its owed set, which the Incident Manager owns. -/
def Sect.core (x : Sect) : Sect := { x with owed := {} }

/-- The fields of a substation that neither the gate nor the Incident Manager changes. -/
def Substation.core (b : Substation) : Bool × Nat := (b.up, b.budget)

/-- The units of a substation agree with its leases (R105). -/
def Substation.Even (b : Substation) : Prop := b.inUse = (b.leases.map Lease.weight).sum

/-- The work of every command keeps these, but for the commands that own them. -/
structure Steady (s t : State) : Prop where
  part      : t.part = s.part
  tables    : t.tables = s.tables
  lineTime  : t.lineTime = s.lineTime
  straps    : t.straps = s.straps
  responses : t.responses = s.responses
  pending   : t.pending = s.pending
  mask      : t.attention.mask = s.attention.mask
  links     : { t.links with queue := [] } = { s.links with queue := [] }
  targets   : s.OnePerTarget → t.OnePerTarget
  balanced  : s.Balanced → t.Balanced
  slots     : t.pool.slots.length = s.pool.slots.length
  queues    : t.pool.queues.length = s.pool.queues.length
  platforms : t.platforms.length = s.platforms.length
  sects     : t.sects.length = s.sects.length
  subs      : t.substations.length = s.substations.length
  lines     : s.attention.lines.length = Config.lineEntries → t.attention.lines.length = Config.lineEntries

/-- The work on living records, queues, directives, latches and the gate keeps, besides, Pattern Control, the sections but
for their owed sets, and the state and budget of every substation. -/
structure Calm (s t : State) : Prop extends Steady s t where
  control : t.control = s.control
  core    : t.sects.map Sect.core = s.sects.map Sect.core
  supply  : t.substations.map Substation.core = s.substations.map Substation.core

theorem Steady.refl (s : State) : Steady s s := by
  constructor <;> first | rfl | exact id

theorem Calm.refl (s : State) : Calm s s := { Steady.refl s with control := rfl, core := rfl, supply := rfl }

theorem Steady.trans {s t u : State} (a : Steady s t) (b : Steady t u) : Steady s u where
  part := b.part.trans a.part
  tables := b.tables.trans a.tables
  lineTime := b.lineTime.trans a.lineTime
  straps := b.straps.trans a.straps
  responses := b.responses.trans a.responses
  pending := b.pending.trans a.pending
  mask := b.mask.trans a.mask
  links := b.links.trans a.links
  targets := fun h => b.targets (a.targets h)
  balanced := fun h => b.balanced (a.balanced h)
  slots := b.slots.trans a.slots
  queues := b.queues.trans a.queues
  platforms := b.platforms.trans a.platforms
  sects := b.sects.trans a.sects
  subs := b.subs.trans a.subs
  lines := fun h => b.lines (a.lines h)

theorem Calm.trans {s t u : State} (a : Calm s t) (b : Calm t u) : Calm s u :=
  { a.toSteady.trans b.toSteady with
    control := b.control.trans a.control
    core := b.core.trans a.core
    supply := b.supply.trans a.supply }

/-! ### Folds -/

theorem Calm.foldl {α : Type} {f : State → α → State} (hf : ∀ s x, Calm s (f s x)) (l : List α) (s : State) :
    Calm s (l.foldl f s) := by
  induction l generalizing s with
  | nil => exact Calm.refl s
  | cons x xs ih => exact (hf s x).trans (ih (f s x))

theorem Steady.foldl {α : Type} {f : State → α → State} (hf : ∀ s x, Steady s (f s x)) (l : List α) (s : State) :
    Steady s (l.foldl f s) := by
  induction l generalizing s with
  | nil => exact Steady.refl s
  | cons x xs ih => exact (hf s x).trans (ih (f s x))

/-! ### The directive queue (R193) -/

theorem issueInto_targets (q : List (Nat × Directive)) (n : Nat) (d : Directive) :
    (State.issueInto q n d).map Prod.fst = if n ∈ q.map Prod.fst then q.map Prod.fst else q.map Prod.fst ++ [n] := by
  unfold State.issueInto
  by_cases h : n ∈ q.map Prod.fst
  · have h' : q.any (fun e => e.1 == n) = true := by
      obtain ⟨e, he, rfl⟩ := List.mem_map.mp h
      exact List.any_eq_true.mpr ⟨e, he, by simp⟩
    rw [if_pos h', if_pos h, List.map_map]
    refine List.map_congr_left fun e _ => ?_
    by_cases hn : e.1 = n <;> simp [hn]
  · have h' : ¬ q.any (fun e => e.1 == n) = true := by
      intro hc
      obtain ⟨e, he, hn⟩ := List.any_eq_true.mp hc
      exact h (List.mem_map.mpr ⟨e, he, by simpa using hn⟩)
    rw [if_neg h', if_neg h]
    simp

theorem issueInto_nodup {q : List (Nat × Directive)} (h : (q.map Prod.fst).Nodup) (n : Nat) (d : Directive) :
    ((State.issueInto q n d).map Prod.fst).Nodup := by
  rw [issueInto_targets]
  split
  · exact h
  · rename_i hn
    exact List.nodup_append.mpr ⟨h, List.nodup_singleton n, fun a ha b hb => by
      rw [List.mem_singleton.mp hb]; rintro rfl; exact hn ha⟩

/-! ### The named updates -/

namespace State

/-- Work on the pool that keeps the number of slots and of queues. -/
theorem calm_modPool (s : State) (f : Pool → Pool) (h1 : (f s.pool).slots.length = s.pool.slots.length)
    (h2 : (f s.pool).queues.length = s.pool.queues.length) : Calm s (s.modPool f) := by
  constructor
  · constructor <;> first | rfl | exact id | assumption
  all_goals rfl

theorem calm_modSlot (s : State) (i : Nat) (f : Slot → Slot) : Calm s (s.modSlot i f) :=
  s.calm_modPool _ (List.length_modify _ _ _) rfl

theorem calm_modTrain (s : State) (i : Nat) (f : Train → Train) : Calm s (s.modTrain i f) := s.calm_modSlot i _

theorem calm_modIncident (s : State) (i : Nat) (f : Incident → Incident) : Calm s (s.modIncident i f) := s.calm_modSlot i _

theorem calm_modAnn (s : State) (i : Nat) (f : Ann → Ann) : Calm s (s.modAnn i f) := s.calm_modSlot i _

theorem calm_modQueue (s : State) (p : Nat) (f : List Nat → List Nat) : Calm s (s.modQueue p f) :=
  s.calm_modPool _ rfl (List.length_modify _ _ _)

theorem calm_modPlatform (s : State) (p : Nat) (f : Platform → Platform) : Calm s (s.modPlatform p f) := by
  constructor
  · constructor <;> first | rfl | exact id | exact List.length_modify _ _ _
  all_goals rfl

theorem calm_modAttention (s : State) (f : Attention → Attention) (h1 : (f s.attention).mask = s.attention.mask)
    (h2 : s.attention.lines.length = Config.lineEntries → (f s.attention).lines.length = Config.lineEntries) :
    Calm s (s.modAttention f) := by
  constructor
  · constructor <;> first | rfl | exact id | assumption
  all_goals rfl

theorem calm_latch (s : State) (x : Latch) : Calm s (s.latch x) := s.calm_modAttention _ rfl id

theorem calm_unlatch (s : State) (x : Latch) : Calm s (s.unlatch x) := s.calm_modAttention _ rfl id

theorem calm_judgeLines (s : State) : Calm s s.judgeLines :=
  s.calm_modAttention _ rfl fun _ => by simp [judgedLines]

theorem calm_issue (s : State) (n : Nat) (d : Directive) : Calm s (s.issue n d) := by
  constructor
  · constructor <;> first | rfl | exact id | exact fun h => issueInto_nodup h n d
  all_goals rfl

theorem calm_issueIndicator (s : State) (p : Nat) (d : Directive) : Calm s (s.issueIndicator p d) := s.calm_issue _ d
theorem calm_issuePlayer (s : State) (p : Nat) (d : Directive) : Calm s (s.issuePlayer p d) := s.calm_issue _ d
theorem calm_issueBreaker (s : State) (i : Nat) (d : Directive) : Calm s (s.issueBreaker i d) := s.calm_issue _ d

theorem map_modify_of_eq {α β : Type} (g : α → β) (f : α → α) (h : ∀ x, g (f x) = g x) (l : List α) (i : Nat) :
    (l.modify i f).map g = l.map g := by
  induction l generalizing i with
  | nil => cases i <;> rfl
  | cons x xs ih => cases i <;> simp [h, ih]

theorem forall_mem_modify {α : Type} {P : α → Prop} {f : α → α} (hf : ∀ x, P x → P (f x)) {l : List α} (h : ∀ x ∈ l, P x)
    (i : Nat) : ∀ x ∈ l.modify i f, P x := by
  induction l generalizing i with
  | nil => cases i <;> simp
  | cons y ys ih =>
    cases i with
    | zero =>
      intro x hx
      rcases List.mem_cons.mp (by simpa using hx) with rfl | hx
      · exact hf y (h y (by simp))
      · exact h x (by simp [hx])
    | succ n =>
      intro x hx
      rcases List.mem_cons.mp (by simpa using hx) with rfl | hx
      · exact h x (by simp)
      · exact ih (fun z hz => h z (by simp [hz])) n x hx

/-- Work on the owed set of a section. -/
theorem calm_modSect (s : State) (i : Nat) (f : Sect → Sect) (h : ∀ x, (f x).core = x.core) : Calm s (s.modSect i f) := by
  constructor
  · constructor <;> first | rfl | exact id | exact List.length_modify _ _ _
  · rfl
  · exact map_modify_of_eq Sect.core f h s.sects i
  · rfl

/-- Work on a section. -/
theorem steady_modSect (s : State) (i : Nat) (f : Sect → Sect) : Steady s (s.modSect i f) := by
  constructor <;> first | rfl | exact id | exact List.length_modify _ _ _

/-- Work on a substation that keeps its units even with its leases. -/
theorem steady_modSubstation (s : State) (k : Nat) (f : Substation → Substation) (h : ∀ b, b.Even → (f b).Even) :
    Steady s (s.modSubstation k f) := by
  constructor <;> first | rfl | exact id | exact List.length_modify _ _ _ | exact fun hs => forall_mem_modify h hs k

theorem calm_modSubstation (s : State) (k : Nat) (f : Substation → Substation) (h : ∀ b, b.Even → (f b).Even)
    (hc : ∀ b, (f b).core = b.core) : Calm s (s.modSubstation k f) :=
  { s.steady_modSubstation k f h with
    control := rfl
    core := rfl
    supply := map_modify_of_eq Substation.core f hc s.substations k }

theorem steady_modControl (s : State) (f : PatternControl → PatternControl) : Steady s (s.modControl f) := by
  constructor <;> first | rfl | exact id

end State

end Sys2Proof.Machine
end

