-- ==== Sys2Proof/Laws/Announce.lean ====
section
/-! SUPPORT. The pool's and the Announcement Scheduler's operations are calm. -/

namespace Sys2Proof.Machine

open Sys2Proof

namespace State

/-- An allocation takes the head of the free list, and answers it (R23, R27). -/
theorem allocate_spec {s t : State} {r : Rec} {i : Nat} (h : s.allocate r = some (t, i)) :
    ∃ rest, s.pool.free = i :: rest ∧ Calm s t ∧
      t.pool = { s.pool with slots := s.pool.slots.modify i fun sl => { epoch := nextEpoch sl.epoch, record := r }, free := rest } := by
  unfold allocate at h
  split at h
  · cases h
  · rename_i j rest hf
    injection h with h
    injection h with h1 h2
    subst h2
    refine ⟨rest, hf, ?_, ?_⟩
    · rw [← h1]
      have c : Calm s ((s.modSlot j fun sl => { epoch := nextEpoch sl.epoch, record := r }).modPool fun q => { q with free := rest }) :=
        (s.calm_modSlot _ _).trans (calm_modPool _ _ rfl rfl)
      split
      · exact c.trans (calm_latch _ _)
      · exact c
    · rw [← h1]; split <;> rfl

theorem calm_release (s : State) (i : Nat) : Calm s (s.release i) := (s.calm_modSlot _ _).trans (calm_modPool _ _ rfl rfl)

theorem calm_linkAnn (s : State) (p i : Nat) : Calm s (s.linkAnn p i) := s.calm_modQueue _ _
theorem calm_unlinkAnn (s : State) (p i : Nat) : Calm s (s.unlinkAnn p i) := s.calm_modQueue _ _
theorem calm_quietPlayer (s : State) (p : Nat) (x : PlayerState) : Calm s (s.quietPlayer p x) := s.calm_modPlatform _ _

theorem calm_stopCue (s : State) (p : Nat) (u : Bool) : Calm s (s.stopCue p u) := by
  unfold stopCue
  dsimp only
  split
  · exact (s.calm_issuePlayer _ _).trans (calm_quietPlayer _ _ _)
  · exact (s.calm_issuePlayer _ _).trans (calm_modPlatform _ _ _)

theorem calm_requeueCue (s : State) (p : Nat) : Calm s (s.requeueCue p) := by
  unfold requeueCue
  split
  · exact s.calm_modAnn _ _
  · exact Calm.refl s

theorem calm_preempt (s : State) (p : Nat) : Calm s (s.preempt p) := by
  unfold preempt
  repeat' split
  all_goals first | exact Calm.refl s | exact (s.calm_requeueCue _).trans (calm_stopCue _ _ _)

theorem calm_createAnn (s : State) (a : Ann) : Calm s (s.createAnn a) := by
  unfold createAnn
  split
  · exact Calm.refl s
  · rename_i t i h
    obtain ⟨_, _, c, _⟩ := allocate_spec h
    dsimp only
    split
    · exact (c.trans (calm_linkAnn _ _ _)).trans (calm_preempt _ _)
    · exact c.trans (calm_linkAnn _ _ _)

theorem calm_retireAnn (s : State) (i : Nat) : Calm s (s.retireAnn i) := by
  unfold retireAnn
  split
  · exact Calm.refl s
  · dsimp only
    refine Calm.trans ?_ ((calm_unlinkAnn _ _ _).trans (calm_release _ _))
    split <;> first | exact calm_stopCue _ _ _ | exact Calm.refl s

theorem calm_retireAnns (s : State) (test : Ann → Bool) : Calm s (s.retireAnns test) :=
  Calm.foldl (f := fun t (e : Nat × Ann) => t.retireAnn e.1) (fun t e => calm_retireAnn t e.1) _ s

theorem calm_mapAnns (s : State) (f : Ann → Ann) : Calm s (s.mapAnns f) :=
  Calm.foldl (f := fun t (e : Nat × Ann) => t.modAnn e.1 f) (fun t e => calm_modAnn t e.1 f) _ s

theorem calm_select (s : State) (p : Nat) : Calm s (s.select p) := by
  unfold select
  repeat' split
  all_goals first
    | exact Calm.refl s
    | exact ((s.calm_modAnn _ _).trans (calm_issuePlayer _ _ _)).trans (calm_modPlatform _ _ _)

theorem calm_selections (s : State) : Calm s s.selections := Calm.foldl calm_select _ s

theorem calm_completePlay (s : State) (p : Nat) : Calm s (s.completePlay p) := by
  unfold completePlay
  repeat' split
  all_goals first
    | exact s.calm_quietPlayer _ _
    | exact ((s.calm_quietPlayer _ _).trans (calm_modAnn _ _ _)).trans (calm_retireAnn _ _)
    | exact (s.calm_quietPlayer _ _).trans (calm_modAnn _ _ _)

theorem calm_playerReady (s : State) (p : Nat) : Calm s (s.playerReady p) := by
  unfold playerReady
  split
  all_goals first
    | exact Calm.refl s
    | exact (s.calm_requeueCue _).trans (calm_quietPlayer _ _ _)
    | exact s.calm_quietPlayer _ _

theorem calm_playerStarted (s : State) (p : Nat) : Calm s (s.playerStarted p) := by
  unfold playerStarted
  split
  all_goals first
    | exact Calm.refl s
    | exact s.calm_issuePlayer _ _
    | (dsimp only
       split
       · exact (s.calm_modAnn _ _).trans (calm_modPlatform _ _ _)
       · exact s.calm_modPlatform _ _)

theorem calm_playerRefused (s : State) (p : Nat) : Calm s (s.playerRefused p) := by
  unfold playerRefused
  split
  all_goals first
    | exact Calm.refl s
    | exact (s.calm_requeueCue _).trans (calm_quietPlayer _ _ _)
    | exact s.calm_quietPlayer _ _

theorem calm_playerEnded (s : State) (p : Nat) : Calm s (s.playerEnded p) := by
  unfold playerEnded
  split
  all_goals first | exact Calm.refl s | exact s.calm_completePlay _ | exact s.calm_quietPlayer _ _

theorem calm_playerLost (s : State) (p : Nat) : Calm s (s.playerLost p) :=
  (((s.calm_requeueCue _).trans (calm_issuePlayer _ _ _)).trans (calm_quietPlayer _ _ _)).trans (calm_latch _ _)

theorem calm_endRest (s : State) (i : Nat) : Calm s (s.endRest i) := by
  unfold endRest
  split
  · exact Calm.refl s
  · dsimp only
    have c := fun (a : Ann) => ((s.calm_modAnn i fun b => { b with state := .queued, restDl := none }).trans
      (calm_unlinkAnn _ a.platform i)).trans (calm_linkAnn _ a.platform i)
    split
    · exact (c _).trans (calm_preempt _ _)
    · exact c _

theorem calm_announceApproach (s : State) (i n : Nat) : Calm s (s.announceApproach i n) := by
  unfold announceApproach
  split
  · exact Calm.refl s
  · dsimp only
    split
    · exact ((s.calm_modTrain _ _).trans (calm_createAnn _ _)).trans (calm_modTrain _ _ _)
    · exact s.calm_modTrain _ _

theorem calm_approachCheck (s : State) (i n : Nat) : Calm s (s.approachCheck i n) := by
  unfold approachCheck
  dsimp only
  repeat' split
  all_goals first
    | exact Calm.refl s
    | exact s.calm_announceApproach _ _
    | exact s.calm_modTrain _ _

end State

end Sys2Proof.Machine
end

