-- ==== Sys2Proof/Laws/Permits.lean ====
section
/-! SUPPORT. The departure gate's operations are calm. -/

namespace Sys2Proof.Machine

open Sys2Proof

namespace State

theorem sum_filter_add (l : List Lease) (p : Lease → Bool) :
    (l.map Lease.weight).sum = ((l.filter p).map Lease.weight).sum + ((l.filter fun x => !p x).map Lease.weight).sum := by
  induction l with
  | nil => rfl
  | cons x xs ih => cases h : p x <;> simp [h, ih] <;> omega

theorem calm_dropEntry (s : State) (k : Nat) (h : Handle) : Calm s (s.dropEntry k h) :=
  s.calm_modSubstation _ _ (fun _ hb => hb) fun _ => rfl

/-- A grant appends one lease and adds its weight to the units (R108). -/
theorem calm_grant (s : State) (k : Nat) (h : Handle) (w : Nat) : Calm s (s.grant k h w) := by
  unfold grant
  dsimp only
  split
  · exact s.calm_dropEntry _ _
  · refine Calm.trans ?_ (calm_issueIndicator _ _ _)
    refine Calm.trans ?_ (calm_modTrain _ _ _)
    refine (s.calm_dropEntry k h).trans ?_
    refine calm_modSubstation _ _ _ ?_ fun _ => rfl
    intro b hb
    simp only [Substation.Even, List.map_append, List.sum_append, List.map_cons, List.map_nil, List.sum_cons, List.sum_nil] at *
    omega

theorem calm_requestPermit (s : State) (i : Nat) : Calm s (s.requestPermit i) := by
  unfold requestPermit
  dsimp only
  repeat' split
  all_goals first
    | exact Calm.refl s
    | exact (s.calm_modTrain _ _).trans (calm_grant _ _ _ _)
    | (refine Calm.trans ?_ (calm_modTrain _ _ _)
       refine Calm.trans (s.calm_modTrain i fun x => { x with permitReq := some s.lineTime }) ?_
       exact calm_modSubstation _ _ _ (fun _ hb => hb) fun _ => rfl)

theorem calm_issueForTrain (s : State) (t : Train) (d : Directive) : Calm s (s.issueForTrain t d) := by
  unfold issueForTrain
  split
  · exact Calm.refl s
  · exact s.calm_issueIndicator _ _

theorem calm_scheduleCheckUnder (held : Nat → Bool) (s : State) (i : Nat) : Calm s (scheduleCheckUnder held s i) := by
  unfold scheduleCheckUnder
  split
  · exact Calm.refl s
  · dsimp only
    repeat' split
    all_goals first
      | exact (s.calm_modTrain _ _).trans (calm_requestPermit _ _)
      | exact (s.calm_modTrain _ _).trans (calm_issueForTrain _ _ _)
      | exact s.calm_modTrain _ _

theorem calm_scheduleCheck (s : State) (i : Nat) : Calm s (s.scheduleCheck i) := calm_scheduleCheckUnder _ s i

theorem calm_holdRemovalCheck (held : Nat → Bool) (s : State) (i : Nat) : Calm s (holdRemovalCheck held s i) := by
  unfold holdRemovalCheck
  split
  · exact Calm.refl s
  · dsimp only
    split
    · exact calm_scheduleCheckUnder _ s _
    · exact (s.calm_modTrain _ _).trans (calm_issueForTrain _ _ _)

theorem calm_checkFreed (held : Nat → Bool) (b s : State) : Calm s (checkFreed held b s) :=
  Calm.foldl (fun t i => calm_holdRemovalCheck held t i) _ s

theorem calm_dropLease (s : State) (k : Nat) (h : Handle) : Calm s (s.dropLease k h) := by
  unfold dropLease
  dsimp only
  have c : Calm s (s.modSubstation k fun b =>
      { b with leases := b.leases.filter (fun l => l.train != h),
               inUse := b.inUse - ((b.leases.filter fun l => l.train == h).map Lease.weight).sum }) := by
    refine s.calm_modSubstation _ _ ?_ fun _ => rfl
    intro b hb
    have := sum_filter_add b.leases (fun l => l.train == h)
    simp only [Substation.Even, bne] at *
    omega
  split
  · exact c.trans (calm_modTrain _ _ _)
  · exact c

theorem calm_dropLeaseOf (s : State) (i : Nat) : Calm s (s.dropLeaseOf i) := by
  unfold dropLeaseOf
  repeat' split
  all_goals first | exact s.calm_dropLease _ _ | exact Calm.refl s

theorem calm_dropEntries (s : State) (h : Handle) : Calm s (s.dropEntries h) :=
  Calm.foldl (fun t k => by split; exacts [t.calm_dropEntry _ _, Calm.refl t]) substationIndices s

theorem calm_withdraw (s : State) (i : Nat) (r : HoldSet → HoldSet) : Calm s (s.withdraw i r) := by
  unfold withdraw
  split
  · exact Calm.refl s
  · exact ((s.calm_dropEntries _).trans (calm_modTrain _ _ _)).trans (calm_issueIndicator _ _ _)

theorem calm_withdrawWhere (s : State) (test : Train → Bool) (r : HoldSet → HoldSet) : Calm s (s.withdrawWhere test r) :=
  Calm.foldl (f := fun t (e : Nat × Train) => t.withdraw e.1 r) (fun t e => t.calm_withdraw e.1 r) _ s

theorem calm_takeOutWhere (s : State) (test : Train → Bool) (has : HoldSet → Bool) (out : HoldSet → HoldSet) :
    Calm s (s.takeOutWhere test has out) :=
  Calm.foldl (f := fun t (e : Nat × Train) => t.modTrain e.1 fun x => { x with holds := out x.holds })
    (fun t e => t.calm_modTrain e.1 _) _ s

theorem calm_grantFromHead (s : State) (k fuel : Nat) : Calm s (s.grantFromHead k fuel) := by
  induction fuel generalizing s with
  | zero => exact Calm.refl s
  | succ n ih =>
    unfold grantFromHead
    repeat' split
    all_goals first | exact Calm.refl s | exact (s.calm_grant _ _ _).trans (ih _)

end State

end Sys2Proof.Machine
end

