-- ==== Sys2Proof/Laws/Incidents.lean ====
section
/-! SUPPORT. The Incident Manager's operations and the end of an event are calm; an event ends with its lines judged. -/

namespace Sys2Proof.Machine

open Sys2Proof

namespace State

theorem calm_putOwed (s : State) (k : Kind) (loc : Location) (v : Option Nat) : Calm s (s.putOwed k loc v) := by
  unfold putOwed
  split
  · exact s.calm_modPlatform _ _
  · exact s.calm_modSect _ _ fun _ => rfl
  · exact s.calm_modSubstation _ _ (fun _ hb => hb) fun _ => rfl
  · split
    · exact s.calm_modTrain _ _
    · exact Calm.refl s

theorem calm_owe (s : State) (k : Kind) (loc : Location) (v : Nat) : Calm s (s.owe k loc v) := s.calm_putOwed _ _ _

theorem calm_linkIncident (s : State) (i : Nat) : Calm s (s.linkIncident i) := s.calm_modPool _ rfl rfl
theorem calm_unlinkIncident (s : State) (i : Nat) : Calm s (s.unlinkIncident i) := s.calm_modPool _ rfl rfl

theorem calm_copyOrOwe (s : State) (i p : Nat) : Calm s (s.copyOrOwe i p) := by
  unfold copyOrOwe
  repeat' split
  all_goals first | exact Calm.refl s | exact s.calm_createAnn _ | exact s.calm_modIncident _ _

theorem calm_copyStep (s : State) (i : Nat) : Calm s (s.copyStep i) := by
  unfold copyStep
  repeat' split
  all_goals first
    | exact Calm.refl s
    | exact (s.calm_modIncident _ _).trans (Calm.foldl (f := fun t p => t.copyOrOwe i p) (fun t p => t.calm_copyOrOwe i p) _ _)

theorem calm_clearCopies (s : State) (i : Nat) : Calm s (s.clearCopies i) := by
  unfold clearCopies
  repeat' split
  all_goals first
    | exact Calm.refl s
    | exact Calm.foldl (fun t p => by split; exacts [t.calm_createAnn _, Calm.refl t]) _ s

theorem calm_takeRestriction (b s : State) (held : Nat → Bool) : Calm s (takeRestriction b s held) := s.calm_takeOutWhere _ _ _

theorem calm_holdsStop (b s : State) : Calm s (holdsStop b s) := calm_takeRestriction b s _

theorem calm_enterCleared (s : State) (i : Nat) : Calm s (s.enterCleared i) := by
  unfold enterCleared
  dsimp only
  exact ((((s.calm_modIncident _ _).trans (calm_holdsStop _ _)).trans (calm_retireAnns _ _)).trans
    (calm_modIncident _ _ _)).trans (calm_clearCopies _ _)

theorem calm_endCause (s : State) (k : Kind) (loc : Location) : Calm s (s.endCause k loc) := by
  have drop : ∀ t, Calm s t → Calm s (if (t.owed k loc).isSome then t.putOwed k loc none else t) := by
    intro t c
    split
    · exact c.trans (calm_putOwed _ _ _ _)
    · exact c
  unfold endCause
  refine drop _ ?_
  repeat' split
  all_goals first | exact Calm.refl s | exact s.calm_modIncident _ _ | exact s.calm_enterCleared _

theorem calm_serveQueue (s : State) (k : Nat) (b : Bool) : Calm s (s.serveQueue k b) := by
  unfold serveQueue
  dsimp only
  split
  · exact (s.calm_grantFromHead _ _).trans (calm_endCause _ _ _)
  · exact s.calm_grantFromHead _ _

theorem calm_serveChanged (b s : State) : Calm s (serveChanged b s) :=
  Calm.foldl (f := fun t k => t.serveQueue k (emptiedSince b s k)) (fun t k => t.calm_serveQueue k _) _ s

theorem calm_serveAll (s : State) : Calm s s.serveAll :=
  Calm.foldl (f := fun t k => t.serveQueue k false) (fun t k => t.calm_serveQueue k _) _ s

theorem calm_holdsBegin (b s : State) : Calm s (holdsBegin b s) := by
  unfold holdsBegin
  exact (s.calm_withdrawWhere _ _).trans (calm_serveChanged _ _)

theorem calm_changeSeverity (s : State) (i v : Nat) : Calm s (s.changeSeverity i v) := by
  unfold changeSeverity
  dsimp only
  exact (((s.calm_unlinkIncident _).trans (calm_modIncident _ _ _)).trans (calm_linkIncident _ _)).trans (calm_modIncident _ _ _)

/-- What a raise does as restrictions begin is calm, at once or later. -/
def CalmBegins (begins : Begins) : Prop := ∀ b s, Calm s (begins b s)

theorem calmBegins_holdsBegin : CalmBegins holdsBegin := calm_holdsBegin
theorem calmBegins_holdsLater : CalmBegins holdsLater := fun _ s => Calm.refl s

section
variable {begins : Begins} (hb : CalmBegins begins)
include hb

theorem calm_createWith (s : State) (c : Incident) : Calm s (s.createWith begins c).1 := by
  unfold createWith
  split
  · exact Calm.refl s
  · rename_i t i h
    obtain ⟨_, _, h, _⟩ := allocate_spec h
    exact ((h.trans (calm_linkIncident _ _)).trans (hb _ _)).trans (calm_copyStep _ _)

theorem calm_alarmHold (s : State) (i : Nat) : Calm s (s.alarmHold begins i) := by
  unfold alarmHold
  repeat' split
  all_goals first | exact Calm.refl s | exact (s.calm_modIncident _ _).trans (hb _ _)

theorem calm_coalesce (s : State) (i : Nat) (c : Incident) (v : Nat) : Calm s (s.coalesce begins i c v) := by
  unfold coalesce
  dsimp only
  have m := fun f => s.calm_modIncident i f
  repeat' split
  · exact ((m _).trans (calm_changeSeverity _ _ _)).trans (calm_alarmHold hb _ _)
  · exact (((m _).trans (calm_changeSeverity _ _ _)).trans (calm_alarmHold hb _ _)).trans (calm_copyStep _ _)
  · exact (m _).trans (calm_alarmHold hb _ _)

theorem calm_raiseWith (s : State) (k : Kind) (loc : Location) (v : Nat) : Calm s (s.raiseWith begins k loc v) := by
  unfold raiseWith
  repeat' split
  all_goals first | exact calm_coalesce hb s _ _ _ | exact calm_createWith hb s _ | exact s.calm_owe _ _ _

end

theorem calm_createIncident (s : State) (c : Incident) : Calm s (s.createIncident c).1 := calm_createWith calmBegins_holdsBegin s c

theorem calm_autoRaise (s : State) (k : Kind) (loc : Location) (v : Nat) : Calm s (s.autoRaise k loc v) :=
  calm_raiseWith calmBegins_holdsBegin s k loc v

theorem calm_serveOwedIncident (s : State) (k : Kind) (loc : Location) : Calm s (s.serveOwedIncident k loc) := by
  unfold serveOwedIncident
  repeat' split
  all_goals first | exact Calm.refl s | exact (s.calm_putOwed _ _ _).trans (calm_raiseWith calmBegins_holdsLater _ _ _ _)

theorem calm_serveOwedIncidents (s : State) : Calm s s.serveOwedIncidents :=
  (Calm.foldl (f := fun t (e : Kind × Location) => t.serveOwedIncident e.1 e.2) (fun t _ => t.calm_serveOwedIncident _ _) _ s).trans
    (calm_holdsBegin _ _)

theorem calm_serveOwedCopy (s : State) (i p : Nat) : Calm s (s.serveOwedCopy i p) := by
  unfold serveOwedCopy
  repeat' split
  all_goals first
    | exact Calm.refl s
    | exact s.calm_modIncident _ _
    | exact (s.calm_modIncident _ _).trans (calm_createAnn _ _)

theorem calm_serveOwed (s : State) : Calm s s.serveOwed :=
  s.calm_serveOwedIncidents.trans
    (Calm.foldl (f := fun t (e : Nat × Nat) => t.serveOwedCopy e.1 e.2) (fun t _ => t.calm_serveOwedCopy _ _) _ _)

theorem calm_endEvent (b s : State) : Calm s (endEvent b s) := by
  unfold endEvent
  refine Calm.trans ?_ ((calm_selections _).trans (calm_judgeLines _))
  refine Calm.trans (calm_checkFreed s.held b s) ?_
  split
  · exact (calm_serveOwed _).trans (calm_checkFreed _ _ _)
  · exact Calm.refl _

/-! ### The attention lines (R183) -/

theorem judgedLines_congr {s t : State} (hp : t.pool = s.pool) (hm : t.attention.mask = s.attention.mask)
    (hl : t.attention.latches = s.attention.latches) (hr : t.tables.routes = s.tables.routes) : t.judgedLines = s.judgedLines := by
  have h1 : t.liveIncidents = s.liveIncidents := by simp only [liveIncidents, incident?, slot, hp]
  have h2 : t.sourcePending = s.sourcePending := by
    funext n
    simp only [sourcePending, kindPending, callers, h1, hm, hl]
  have h3 : t.lineAsserted = s.lineAsserted := by
    funext l
    simp only [lineAsserted, pendingSources, h2, route, hr]
  simp only [judgedLines, h3]

theorem linesJudged_judgeLines (s : State) : s.judgeLines.LinesJudged :=
  (judgedLines_congr (s := s) (t := s.judgeLines) rfl rfl rfl rfl).symm

/-- An event ends with its lines judged (R183). -/
theorem linesJudged_endEvent (b s : State) : (endEvent b s).LinesJudged := linesJudged_judgeLines _

theorem linesJudged_reply {s : State} (h : s.LinesJudged) (r : Response) : (s.reply r).LinesJudged :=
  h.trans (judgedLines_congr (s := s) (t := s.reply r) rfl rfl rfl rfl).symm

end State

end Sys2Proof.Machine
end

