-- ==== Sys2Proof/Laws/PerInstr.lean ====
section
/-! SUPPORT. Made per command: the frames that wait on the Control Link are the requests, those that a response answers with
their own code and tag (R176, R178, R199). -/

namespace Sys2Proof.Laws

open Sys2Proof

/-- A command comes from a good frame of the Control Link when it has a request code and a tag (R176). -/
def Requests.Statement (i : Instr) : Prop := Machine.fromControl i = (Machine.requestOf i).isSome

theorem Requests.coldReset : Requests.Statement .coldReset := rfl
theorem Requests.lineTimeTick : Requests.Statement .lineTimeTick := rfl
theorem Requests.lookup (tag : Nat) (h : Handle) : Requests.Statement (.lookup tag h) := rfl
theorem Requests.walk (tag : Nat) (list : Nat) (platform : Nat) (after : Handle) :
    Requests.Statement (.walk tag list platform after) := rfl
theorem Requests.findTrain (tag : Nat) (keyKind : Nat) (key : Nat) (after : Handle) :
    Requests.Statement (.findTrain tag keyKind key after) := rfl
theorem Requests.findIncident (tag : Nat) (kind : Nat) (locKind : Nat) (loc : Nat) (after : Handle) :
    Requests.Statement (.findIncident tag kind locKind loc after) := rfl
theorem Requests.createTrain (tag : Nat) (vehicle : Nat) (service : Nat) (origin : Nat) (tripStart : Nat) (manual : Option Bool) :
    Requests.Statement (.createTrain tag vehicle service origin tripStart manual) := rfl
theorem Requests.amendTrain (tag : Nat) (h : Handle) (service : Option Nat) (origin : Option Nat) (tripStart : Option Nat) (manual : Option Bool) :
    Requests.Statement (.amendTrain tag h service origin tripStart manual) := rfl
theorem Requests.forceDepart (tag : Nat) (h : Handle) : Requests.Statement (.forceDepart tag h) := rfl
theorem Requests.retire (tag : Nat) (h : Handle) : Requests.Statement (.retire tag h) := rfl
theorem Requests.raiseIncident (tag : Nat) (severity : Nat) (locKind : Nat) (loc : Nat) (restr : RestrictionArg) (ann : AnnouncementArg) :
    Requests.Statement (.raiseIncident tag severity locKind loc restr ann) := rfl
theorem Requests.amendIncident (tag : Nat) (h : Handle) (severity : Option Nat) (restr : Option RestrictionArg) (ann : Option AnnouncementArg) :
    Requests.Statement (.amendIncident tag h severity restr ann) := rfl
theorem Requests.acknowledge (tag : Nat) (h : Handle) : Requests.Statement (.acknowledge tag h) := rfl
theorem Requests.clear (tag : Nat) (h : Handle) : Requests.Statement (.clear tag h) := rfl
theorem Requests.createAnnouncement (tag : Nat) (platform : Nat) (message : Nat) (priority : Nat) (train : Handle) (minutes : Option Nat) (mode : ModeArg) :
    Requests.Statement (.createAnnouncement tag platform message priority train minutes mode) := rfl
theorem Requests.amendAnnouncement (tag : Nat) (h : Handle) (message : Option Nat) (minutes : Option Nat) (mode : Option ModeArg) :
    Requests.Statement (.amendAnnouncement tag h message minutes mode) := rfl
theorem Requests.readPlatform (tag : Nat) (platform : Nat) : Requests.Statement (.readPlatform tag platform) := rfl
theorem Requests.readSection (tag : Nat) (sect : Nat) : Requests.Statement (.readSection tag sect) := rfl
theorem Requests.readSubstation (tag : Nat) (substation : Nat) : Requests.Statement (.readSubstation tag substation) := rfl
theorem Requests.isolate (tag : Nat) (sect : Nat) (emergency : Bool) :
    Requests.Statement (.isolate tag sect emergency) := rfl
theorem Requests.energise (tag : Nat) (sect : Nat) : Requests.Statement (.energise tag sect) := rfl
theorem Requests.restore (tag : Nat) (sect : Nat) : Requests.Statement (.restore tag sect) := rfl
theorem Requests.setWarningLevel (tag : Nat) (sect : Nat) (level : Nat) :
    Requests.Statement (.setWarningLevel tag sect level) := rfl
theorem Requests.selectPattern (tag : Nat) (pattern : Nat) : Requests.Statement (.selectPattern tag pattern) := rfl
theorem Requests.enterDegraded (tag : Nat) (pattern : Nat) : Requests.Statement (.enterDegraded tag pattern) := rfl
theorem Requests.resume (tag : Nat) : Requests.Statement (.resume tag) := rfl
theorem Requests.readSaveEntry (tag : Nat) (h : Handle) : Requests.Statement (.readSaveEntry tag h) := rfl
theorem Requests.amendSaveEntry (tag : Nat) (h : Handle) (lateness : Option Int) (service : Option Nat) :
    Requests.Statement (.amendSaveEntry tag h lateness service) := rfl
theorem Requests.setTime (tag : Nat) (time : Nat) : Requests.Statement (.setTime tag time) := rfl
theorem Requests.adjustTime (tag : Nat) (step : Int) : Requests.Statement (.adjustTime tag step) := rfl
theorem Requests.readTime (tag : Nat) : Requests.Statement (.readTime tag) := rfl
theorem Requests.loadConfig (tag : Nat) (table : Nat) (first : Nat) (bytes : List Byte) :
    Requests.Statement (.loadConfig tag table first bytes) := rfl
theorem Requests.start (tag : Nat) : Requests.Statement (.start tag) := rfl
theorem Requests.configReload (tag : Nat) : Requests.Statement (.configReload tag) := rfl
theorem Requests.linkRestart (tag : Nat) : Requests.Statement (.linkRestart tag) := rfl
theorem Requests.readAttention (tag : Nat) (cls : Option Nat) : Requests.Statement (.readAttention tag cls) := rfl
theorem Requests.setAttentionMask (tag : Nat) (mask : Nat) : Requests.Statement (.setAttentionMask tag mask) := rfl
theorem Requests.readStatus (tag : Nat) : Requests.Statement (.readStatus tag) := rfl
theorem Requests.readShadow (tag : Nat) (target : Nat) : Requests.Statement (.readShadow tag target) := rfl
theorem Requests.unknownRequestCode (code : Nat) (tag : Nat) (bodyLength : Nat) :
    Requests.Statement (.unknownRequestCode code tag bodyLength) := rfl
theorem Requests.badFrame : Requests.Statement .badFrame := rfl
theorem Requests.controlFrameByteGap : Requests.Statement .controlFrameByteGap := rfl
theorem Requests.frameNotKept : Requests.Statement .frameNotKept := rfl
theorem Requests.arrive (vehicle : Nat) (platform : Nat) (time : Nat) :
    Requests.Statement (.arrive vehicle platform time) := rfl
theorem Requests.depart (vehicle : Nat) (platform : Nat) (time : Nat) :
    Requests.Statement (.depart vehicle platform time) := rfl
theorem Requests.feeder (sect : Nat) (cls : SupplyClass) (breaker : Position) (time : Nat) :
    Requests.Statement (.feeder sect cls breaker time) := rfl
theorem Requests.substation (substation : Nat) (up : Bool) (time : Nat) :
    Requests.Statement (.substation substation up time) := rfl
theorem Requests.platformAlarm (platform : Nat) (on : Bool) (severity : Nat) (time : Nat) :
    Requests.Statement (.platformAlarm platform on severity time) := rfl
theorem Requests.fieldBadFrame : Requests.Statement .fieldBadFrame := rfl
theorem Requests.fieldFrameByteGap : Requests.Statement .fieldFrameByteGap := rfl
theorem Requests.directiveSent : Requests.Statement .directiveSent := rfl
theorem Requests.ready (platform : Nat) : Requests.Statement (.ready platform) := rfl
theorem Requests.started (platform : Nat) : Requests.Statement (.started platform) := rfl
theorem Requests.refused (platform : Nat) : Requests.Statement (.refused platform) := rfl
theorem Requests.ended (platform : Nat) : Requests.Statement (.ended platform) := rfl
theorem Requests.statusFrameBad : Requests.Statement .statusFrameBad := rfl
theorem Requests.statusFrameByteGap : Requests.Statement .statusFrameByteGap := rfl
theorem Requests.departureExpiry (slot : Nat) : Requests.Statement (.departureExpiry slot) := rfl
theorem Requests.overdueExpiry (slot : Nat) : Requests.Statement (.overdueExpiry slot) := rfl
theorem Requests.approachExpiry (slot : Nat) : Requests.Statement (.approachExpiry slot) := rfl
theorem Requests.waitExpiry (substation : Nat) (train : Handle) : Requests.Statement (.waitExpiry substation train) := rfl
theorem Requests.leaseExpiry (substation : Nat) (train : Handle) : Requests.Statement (.leaseExpiry substation train) := rfl
theorem Requests.operationExpiry (sect : Nat) : Requests.Statement (.operationExpiry sect) := rfl
theorem Requests.escalationExpiry (slot : Nat) : Requests.Statement (.escalationExpiry slot) := rfl
theorem Requests.restExpiry (slot : Nat) : Requests.Statement (.restExpiry slot) := rfl
theorem Requests.startExpiry (platform : Nat) : Requests.Statement (.startExpiry platform) := rfl
theorem Requests.stopExpiry (platform : Nat) : Requests.Statement (.stopExpiry platform) := rfl

end Sys2Proof.Laws
end

