-- ==== Sys2Proof/Laws/Sound.lean ====
section
/-! SUPPORT. How the invariants of Safety.lean are shown of one concrete state: its records stand in the first slots, every
later slot is free, and what is left to check is finite. -/

namespace Sys2Proof.Laws

open Sys2Proof Sys2Proof.Machine

/-- A state whose records stand in the first `n` slots, the others never used and in order on the free list. -/
structure Front (s : State) (n : Nat) : Prop where
  small     : n ≤ Config.slotEntries
  rest      : s.pool.slots.drop n = List.replicate (Config.slotEntries - n) {}
  free      : s.pool.free = List.range' n (Config.slotEntries - n)
  used      : ∀ i < n, (s.slot i).record ≠ .free ∧ 1 ≤ (s.slot i).epoch ∧ (s.slot i).epoch ≤ 15
  trains    : ∀ i ∈ s.pool.trains, i < n
  incidents : ∀ i ∈ s.pool.incidents, i < n
  queued    : ∀ p < Config.platformEntries, ∀ i ∈ s.queue p, i < n
  listed    : ∀ i < n, (i ∈ s.pool.trains ↔ (s.train? i).isSome = true) ∧ (i ∈ s.pool.incidents ↔ (s.incident? i).isSome = true)
  homed     : ∀ p < Config.platformEntries, ∀ i < n, i ∈ s.queue p ↔ (s.ann? i).map Ann.platform = some p
  once      : s.pool.trains.Nodup ∧ s.pool.incidents.Nodup ∧ ∀ p < Config.platformEntries, (s.queue p).Nodup
  placed    : ∀ i < n, (∀ x ∈ s.train? i, x.origin < Config.platformEntries ∧ ∀ p ∈ x.position, p < Config.platformEntries) ∧
                (∀ a ∈ s.ann? i, a.platform < Config.platformEntries) ∧
                ∀ c ∈ s.incident? i, ∀ p ∈ c.owedCopies, p < Config.platformEntries

theorem Front.slot_rest {s : State} {n i : Nat} (h : Front s n) (hi : n ≤ i) : s.slot i = {} := by
  have e : s.pool.slots[i]? = (s.pool.slots.drop n)[i - n]? := by simp [List.getElem?_drop, Nat.add_sub_cancel' hi]
  simp only [State.slot, List.getD_eq_getElem?_getD, e, h.rest, List.getElem?_replicate]
  split <;> rfl

theorem Front.train_lt {s : State} {n i : Nat} {x : Train} (h : Front s n) (hx : s.train? i = some x) : i < n := by
  by_contra hi
  simp [State.train?, h.slot_rest (Nat.le_of_not_lt hi)] at hx

theorem Front.incident_lt {s : State} {n i : Nat} {c : Incident} (h : Front s n) (hc : s.incident? i = some c) : i < n := by
  by_contra hi
  simp [State.incident?, h.slot_rest (Nat.le_of_not_lt hi)] at hc

theorem Front.ann_lt {s : State} {n i : Nat} {a : Ann} (h : Front s n) (ha : s.ann? i = some a) : i < n := by
  by_contra hi
  simp [State.ann?, h.slot_rest (Nat.le_of_not_lt hi)] at ha

theorem queue_far {s : State} {p : Nat} (h : s.pool.queues.length = Config.platformEntries) (hp : Config.platformEntries ≤ p) :
    s.queue p = [] := by
  simp [State.queue, List.getD_eq_getElem?_getD, List.getElem?_eq_none (h ▸ hp)]

theorem Front.sound {s : State} {n : Nat} (h : Front s n) (hs : s.Sized) (hh : s.part = .operating → s.headerGood = true) :
    s.Sound where
  sized := hs
  header := hh
  pooled :=
    { free := fun i => by
        rw [h.free, List.mem_range'_1, Nat.add_sub_cancel' h.small]
        by_cases hi : i < n
        · exact iff_of_false (fun k => absurd k.1 (Nat.not_le.mpr hi)) (fun k => (h.used i hi).1 k.2)
        · exact ⟨fun k => ⟨k.2, by rw [h.slot_rest k.1]⟩, fun k => ⟨Nat.le_of_not_lt hi, k.1⟩⟩
      trains := fun i => by
        by_cases hi : i < n
        · exact (h.listed i hi).1
        · exact iff_of_false (fun k => hi (h.trains i k)) (by simp [State.train?, h.slot_rest (Nat.le_of_not_lt hi)])
      incidents := fun i => by
        by_cases hi : i < n
        · exact (h.listed i hi).2
        · exact iff_of_false (fun k => hi (h.incidents i k)) (by simp [State.incident?, h.slot_rest (Nat.le_of_not_lt hi)])
      queues := fun p i => by
        by_cases hp : p < Config.platformEntries
        · by_cases hi : i < n
          · rw [h.homed p hp i hi, Option.map_eq_some_iff]
          · refine iff_of_false (fun k => hi (h.queued p hp i k)) ?_
            rintro ⟨a, ha, -⟩
            exact hi (h.ann_lt ha)
        · rw [queue_far hs.2.1 (Nat.le_of_not_lt hp)]
          refine iff_of_false List.not_mem_nil ?_
          rintro ⟨a, ha, rfl⟩
          exact hp ((h.placed i (h.ann_lt ha)).2.1 a ha)
      freeOnce := h.free ▸ List.nodup_range'
      trainsOnce := h.once.1
      incidentsOnce := h.once.2.1
      queuesOnce := fun p => by
        by_cases hp : p < Config.platformEntries
        · exact h.once.2.2 p hp
        · rw [queue_far hs.2.1 (Nat.le_of_not_lt hp)]; exact List.nodup_nil
      epochs := fun i => by
        by_cases hi : i < n
        · exact ⟨(h.used i hi).2.2, fun _ => (h.used i hi).2.1⟩
        · rw [h.slot_rest (Nat.le_of_not_lt hi)]; exact ⟨Nat.zero_le _, fun k => absurd rfl k⟩ }
  placed :=
    { origins := fun i x hx => ((h.placed i (h.train_lt hx)).1 x hx).1
      positions := fun i x p hx hp => ((h.placed i (h.train_lt hx)).1 x hx).2 p hp
      anns := fun i a ha => (h.placed i (h.ann_lt ha)).2.1 a ha
      copies := fun i c hc p hp => (h.placed i (h.incident_lt hc)).2.2 c hc p hp }

theorem Front.vehiclesOnce {s : State} {n : Nat} (h : Front s n)
    (hv : ∀ i < n, ∀ j < n, ∀ x ∈ s.train? i, ∀ y ∈ s.train? j, x.vehicle = y.vehicle → i = j) : s.VehiclesOnce :=
  fun i j x y hx hy e => hv i (h.train_lt hx) j (h.train_lt hy) x hx y hy e

theorem substation_mem_or {s : State} (k : Nat) : s.substation k ∈ s.substations ∨ s.substation k = {} := by
  simp only [State.substation, List.getD_eq_getElem?_getD]
  cases hk : s.substations[k]? with
  | none => exact .inr rfl
  | some b => exact .inl (List.mem_of_getElem? hk)

theorem queuesOk_of {s : State} (hw : ∀ b ∈ s.substations, ∀ e ∈ b.queue, s.handle e.train.slot = e.train ∧
      ∃ x ∈ s.train? e.train.slot, x.state = .waiting)
    (ho : ((s.substations.flatMap Substation.queue).map Entry.train).Nodup) : s.QueuesOk where
  once := ho
  waiting := fun k e he => by
    obtain hm | hm := substation_mem_or (s := s) k
    · exact hw _ hm e he
    · rw [hm] at he; cases he

theorem Front.nothingOwed {s : State} {n : Nat} (h : Front s n) (hp : ∀ x ∈ s.platforms, x.owed = {})
    (hs : ∀ x ∈ s.sects, x.owed = {}) (hb : ∀ x ∈ s.substations, x.owed = {})
    (hi : ∀ i < n, (∀ x ∈ s.train? i, x.owed = {}) ∧ ∀ c ∈ s.incident? i, c.owedCopies = []) : s.NothingOwed where
  platforms := fun p => by
    simp only [State.platform, List.getD_eq_getElem?_getD]
    cases hk : s.platforms[p]? with
    | none => rfl
    | some b => exact hp b (List.mem_of_getElem? hk)
  sects := fun p => by
    simp only [State.sect, List.getD_eq_getElem?_getD]
    cases hk : s.sects[p]? with
    | none => rfl
    | some b => exact hs b (List.mem_of_getElem? hk)
  substations := fun p => by
    obtain hm | hm := substation_mem_or (s := s) p
    · exact hb _ hm
    · rw [hm]
  trains := fun i x hx => (hi i (h.train_lt hx)).1 x hx
  copies := fun i c hc => (hi i (h.incident_lt hc)).2 c hc

/-- The same from three finite checks: of the slots and the free list, of the lists, and of the platforms named. -/
theorem Front.of {s : State} {n : Nat}
    (h : n ≤ Config.slotEntries ∧ s.pool.slots.drop n = List.replicate (Config.slotEntries - n) {} ∧
      s.pool.free = List.range' n (Config.slotEntries - n) ∧
      (∀ i < n, (s.slot i).record ≠ .free ∧ 1 ≤ (s.slot i).epoch ∧ (s.slot i).epoch ≤ 15) ∧ (∀ i ∈ s.pool.trains, i < n) ∧
      (∀ i ∈ s.pool.incidents, i < n) ∧ ∀ p < Config.platformEntries, ∀ i ∈ s.queue p, i < n)
    (hl : (∀ i < n, (i ∈ s.pool.trains ↔ (s.train? i).isSome = true) ∧ (i ∈ s.pool.incidents ↔ (s.incident? i).isSome = true)) ∧
      (∀ p < Config.platformEntries, ∀ i ∈ s.queue p, (s.ann? i).map Ann.platform = some p) ∧
      (∀ i < n, ∀ a ∈ s.ann? i, i ∈ s.queue a.platform) ∧ s.pool.trains.Nodup ∧ s.pool.incidents.Nodup ∧ ∀ p < Config.platformEntries, (s.queue p).Nodup)
    (hp : ∀ i < n, (∀ x ∈ s.train? i, x.origin < Config.platformEntries ∧ ∀ p ∈ x.position, p < Config.platformEntries) ∧
        (∀ a ∈ s.ann? i, a.platform < Config.platformEntries) ∧
        ∀ c ∈ s.incident? i, ∀ p ∈ c.owedCopies, p < Config.platformEntries) : Front s n :=
  ⟨h.1, h.2.1, h.2.2.1, h.2.2.2.1, h.2.2.2.2.1, h.2.2.2.2.2.1, h.2.2.2.2.2.2, hl.1,
    fun p hlt i hi => ⟨hl.2.1 p hlt i, fun e => by
      obtain ⟨a, ha, rfl⟩ := Option.map_eq_some_iff.mp e
      exact hl.2.2.1 i hi a ha⟩, hl.2.2.2, hp⟩

/-- A state with the pool of a sound one is sound. -/
theorem sound_of_pool {s t : State} (h : s.Sound) (hp : t.pool = s.pool) (hs : t.Sized)
    (hh : t.part = .operating → t.headerGood = true) : t.Sound := by
  obtain ⟨_, _, _, _, pool, _⟩ := t
  cases hp
  exact ⟨hs, ⟨h.pooled.free, h.pooled.trains, h.pooled.incidents, h.pooled.queues, h.pooled.freeOnce, h.pooled.trainsOnce,
    h.pooled.incidentsOnce, h.pooled.queuesOnce, h.pooled.epochs⟩,
    ⟨h.placed.origins, h.placed.positions, h.placed.anns, h.placed.copies⟩, hh⟩

theorem Front.configured {s : State} {n : Nat} (h : Front s n)
    (hc : s.part = .operating ∧ s.startFailure = none ∧ s.control.active < Config.patternEntries ∧
      s.control.resume < Config.patternEntries ∧
      ∀ i < n, ∀ x ∈ s.train? i, s.platformOk x.origin = true ∧ ∀ p ∈ x.position, s.platformOk p = true) : s.Configured where
  checked := fun _ => hc.2.1
  empty := fun e => absurd (hc.1.symm.trans e) (by decide)
  patterns := ⟨hc.2.2.1, hc.2.2.2.1⟩
  trains := fun i x hx => hc.2.2.2.2 i (h.train_lt hx) x hx

theorem Front.alone {s : State} {n i p : Nat} (h : Front s n)
    (ha : ∀ j < n, j ≠ i → ∀ x ∈ s.train? j, x.position.getD 0 = p → x.state.atPlatform = false) : s.Alone i p :=
  fun j x hj hx hp => ha j (h.train_lt hx) hj x hx hp

theorem Front.plainHolds {s : State} {n : Nat} (h : Front s n)
    (hk : ∀ i < n, ∀ c ∈ s.incident? i, ∀ r ∈ c.restriction, r.kind = .hold → c.kind = .operator ∨ c.kind = .platformAlarm) :
    s.PlainHolds := fun i c r hc hr => hk i (h.incident_lt hc) c hc r hr

theorem Front.prioritiesOk {s : State} {n : Nat} (h : Front s n)
    (hk : ∀ i < n, (∀ a ∈ s.ann? i, a.priority ≤ 3) ∧ ∀ c ∈ s.incident? i, ∀ a ∈ c.ann, a.priority ≤ 3) : s.PrioritiesOk where
  anns := fun i a ha => (hk i (h.ann_lt ha)).1 a ha
  parts := fun i c a hc ha => (hk i (h.incident_lt hc)).2 c hc a ha

theorem Front.savesOk {s : State} {n : Nat} (h : Front s n)
    (he : ∀ e ∈ s.control.saves, s.handle e.train.slot = e.train ∧ (∃ x ∈ s.train? e.train.slot, x.saved = true) ∧
      1 ≤ e.service ∧ e.service ≤ 9999 ∧ -36000 ≤ e.lateness ∧ e.lateness ≤ 36000)
    (ht : ∀ i < n, ∀ x ∈ s.train? i, (x.saved = true → ∃ e ∈ s.control.saves, e.train = s.handle i) ∧
      1 ≤ x.service ∧ x.service ≤ 9999)
    (hl : (s.control.saves.map fun e => e.train.slot).Nodup ∧
      (s.control.saves.map fun e => e.train.slot).Sublist s.pool.trains ∧ (s.control.degraded = false → s.control.saves = [])) :
    s.SavesOk where
  live := fun e m => ⟨(he e m).1, (he e m).2.1⟩
  marked := fun i x hx => (ht i (h.train_lt hx) x hx).1
  once := hl.1
  order := hl.2.1
  clear := hl.2.2
  values := fun e m => (he e m).2.2
  services := fun i x hx => (ht i (h.train_lt hx) x hx).2

theorem Front.waitersQueued {s : State} {n : Nat} (h : Front s n)
    (hw : ∀ i < n, ∀ x ∈ s.train? i, x.state = .waiting →
      ∃ k ∈ List.range Config.substationEntries, ∃ e ∈ (s.substation k).queue, e.train = s.handle i) : s.WaitersQueued :=
  fun i x hx hst => (hw i (h.train_lt hx) x hx hst).imp fun _ k => k.2

theorem platform_far {s : State} {p : Nat} (h : s.platforms.length = Config.platformEntries) (hp : Config.platformEntries ≤ p) :
    s.platform p = {} := by
  simp [State.platform, List.getD_eq_getElem?_getD, List.getElem?_eq_none (h ▸ hp)]

theorem ordered_of {s : State} (hl : s.pool.queues.length = Config.platformEntries)
    (h : (s.pool.incidents.map s.severityAt).Pairwise (· ≥ ·) ∧
      ∀ p < Config.platformEntries, ((s.queue p).map s.annPriority).Pairwise (· ≥ ·)) : s.Ordered where
  incidents := h.1
  queues := fun p => by
    by_cases hp : p < Config.platformEntries
    · exact h.2 p hp
    · rw [queue_far hl (Nat.le_of_not_lt hp)]; exact .nil

theorem countersOk_of {s : State} (h : ∀ x ∈ s.sects, x.counter ≤ Config.counterMax ∧ x.recovery ≤ Config.recoveryLength) :
    s.CountersOk := fun i => by
  simp only [State.sect, List.getD_eq_getElem?_getD]
  cases hk : s.sects[i]? with
  | none => exact ⟨Nat.zero_le _, Nat.zero_le _⟩
  | some x => exact h x (List.mem_of_getElem? hk)

theorem Front.playersOk {s : State} {n : Nat} (h : Front s n) (hl : s.platforms.length = Config.platformEntries)
    (hp : ∀ p < Config.platformEntries,
      ((s.platform p).player = .cued ∨ (s.platform p).player = .playing → ∃ h ∈ (s.platform p).cue, s.handle h.slot = h ∧
        ∃ a ∈ s.ann? h.slot, a.platform = p ∧ a.state = if (s.platform p).player = .cued then .selected else .playing) ∧
      ((s.platform p).player = .idle ∨ (s.platform p).player = .stopping ∨ (s.platform p).player = .offline →
        (s.platform p).cue = none) ∧
      ((s.platform p).playerDl.isSome = true ↔ (s.platform p).player = .cued ∨ (s.platform p).player = .stopping) ∧
      ((s.platform p).player = .idle → s.queuedOn p = none))
    (ha : ∀ i < n, ∀ a ∈ s.ann? i, (a.state = .selected ∨ a.state = .playing → (s.platform a.platform).cue = some (s.handle i)) ∧
      a.state ≠ .done) (hq : s.pool.queues.length = Config.platformEntries) : s.PlayersOk where
  cued := fun p hc => by
    by_cases hlt : p < Config.platformEntries
    · obtain ⟨c, hcue, hcur, a, hann, h1, h2⟩ := (hp p hlt).1 hc
      exact ⟨c, a, hcue, hcur, hann, h1, h2⟩
    · rw [platform_far hl (Nat.le_of_not_lt hlt)] at hc; rcases hc with hc | hc <;> cases hc
  quiet := fun p hc => by
    by_cases hlt : p < Config.platformEntries
    · exact (hp p hlt).2.1 hc
    · rw [platform_far hl (Nat.le_of_not_lt hlt)]
  timed := fun p => by
    by_cases hlt : p < Config.platformEntries
    · exact (hp p hlt).2.2.1
    · rw [platform_far hl (Nat.le_of_not_lt hlt)]; decide
  selected := fun i a hann => (ha i (h.ann_lt hann) a hann).1
  idle := fun p hc => by
    by_cases hlt : p < Config.platformEntries
    · exact (hp p hlt).2.2.2 hc
    · simp only [State.queuedOn, queue_far hq (Nat.le_of_not_lt hlt), List.find?_nil]
  done := fun i a hann => (ha i (h.ann_lt hann) a hann).2

end Sys2Proof.Laws
end

