-- ==== Sys2Proof/Laws/Supply.lean ====
section
/-! SUPPORT. What the operations of the Regulation Unit, the Passage Tracker, the Supply Monitor and Pattern Control leave
alone. -/

namespace Sys2Proof.Machine

open Sys2Proof

namespace State

/-! ### Regulation and passages -/

theorem calm_beginDwell (s : State) (i d : Nat) (b : Bool) (n : ClampNote) : Calm s (s.beginDwell i d b n) := by
  unfold beginDwell
  dsimp only
  split
  · exact (s.calm_modTrain _ _).trans (calm_issueForTrain _ _ _)
  · exact s.calm_modTrain _ _

theorem calm_regulate (s : State) (i p a : Nat) (l : Int) : Calm s (s.regulate i p a l) := s.calm_beginDwell _ _ _ _

theorem calm_occupy (s : State) (i p : Nat) : Calm s (s.occupy i p) := by
  unfold occupy
  split
  · exact s.calm_modPlatform _ _
  · exact (s.calm_modTrain _ _).trans (calm_autoRaise _ _ _ _)

theorem calm_promote (s : State) (i p : Nat) : Calm s (s.promote i p).1 := by
  unfold promote
  split
  · exact s.calm_modPlatform _ _
  · exact (s.calm_modPlatform _ _).trans (calm_modTrain _ _ _)

theorem calm_judgeConflict (s : State) (i p : Nat) (b : Bool) : Calm s (s.judgeConflict i p b) := by
  unfold judgeConflict
  split
  · exact s.calm_endCause _ _
  · exact Calm.refl s

theorem calm_arriveAtOrigin (s : State) (i : Nat) (t : Train) (a : Nat) (c : Bool) : Calm s (s.arriveAtOrigin i t a c) := by
  unfold arriveAtOrigin
  dsimp only
  exact ((s.calm_modTrain _ _).trans (calm_occupy _ _ _)).trans (calm_beginDwell _ _ _ _ _)

theorem steady_arriveRunning (s : State) (i : Nat) (t : Train) (p a : Nat) (c : Bool) : Steady s (s.arriveRunning i t p a c) := by
  unfold arriveRunning
  dsimp only
  refine Steady.trans ?_ (Calm.toSteady (calm_regulate _ _ _ _ _))
  refine Steady.trans ?_ (Calm.toSteady (calm_occupy _ _ _))
  refine Steady.trans ?_ (Calm.toSteady (calm_endCause _ _ _))
  refine Steady.trans ?_ (Calm.toSteady (calm_endCause _ _ _))
  refine Steady.trans ?_ (Calm.toSteady (calm_modTrain _ _ _))
  refine Steady.trans ?_ (steady_modSect _ _ _)
  exact ((s.calm_dropLeaseOf i).trans (calm_serveChanged _ _)).toSteady

theorem steady_departFrom (s : State) (i : Nat) (t : Train) (p a : Nat) (c : Bool) : Steady s (s.departFrom i t p a c) := by
  unfold departFrom
  dsimp only
  refine Steady.trans ?_ (Calm.toSteady (calm_approachCheck _ _ _))
  refine Steady.trans ?_ (Calm.toSteady (calm_judgeConflict _ _ _ _))
  refine Steady.trans ?_ (steady_modSect _ _ _)
  refine Steady.trans ?_ (Calm.toSteady (calm_modTrain _ _ _))
  split
  · exact ((s.calm_modPlatform _ _).trans (calm_promote _ _ _)).toSteady
  · exact (s.calm_modPlatform _ _).toSteady

theorem steady_departTrain (s : State) (i : Nat) (t : Train) (p a : Nat) (c : Bool) : Steady s (s.departTrain i t p a c) := by
  unfold departTrain
  dsimp only
  have h : Steady s (if t.state = TrainState.waiting then serveChanged s (s.dropEntries (s.handle i)) else s) := by
    split
    · exact ((s.calm_dropEntries _).trans (calm_serveChanged _ _)).toSteady
    · exact Steady.refl s
  have h2 := h.trans (steady_departFrom _ i t p a c)
  generalize hs1 : (if t.state = TrainState.waiting then serveChanged s (s.dropEntries (s.handle i)) else s) = s1 at h2 ⊢
  split
  · exact h2
  · exact h2.trans (Calm.toSteady (calm_autoRaise _ _ _ _))

theorem calm_unlist (s : State) (i : Nat) : Calm s (s.unlist i) := s.calm_modPool _ rfl rfl

theorem steady_retireFromGate (s : State) (i : Nat) (t : Train) : Steady s (s.retireFromGate i t) := by
  refine Steady.trans (((s.calm_dropEntries (s.handle i)).trans (calm_dropLeaseOf _ i)).trans (calm_serveChanged s _)).toSteady ?_
  unfold retireFromGate
  generalize serveChanged _ _ = u
  split
  · exact steady_modSect _ _ _
  · split
    · dsimp only
      refine Steady.trans ?_ (Calm.toSteady (calm_judgeConflict _ _ _ _))
      split
      · exact Calm.toSteady (calm_promote _ _ _)
      · exact Steady.refl _
    · exact Steady.refl _

theorem steady_retireFromRecords (s : State) (i : Nat) (t : Train) (b : Bool) : Steady s (s.retireFromRecords i t b) := by
  unfold retireFromRecords
  dsimp only
  have h : Steady s ((((s.retireAnns fun a => a.origin == .approach && a.train == some (s.handle i)).mapAnns fun a =>
      if a.train = some (s.handle i) then { a with train := none } else a).endCause .trainOverdue (.train (s.handle i))).endCause
        .unauthorised (.train (s.handle i))) :=
    (((s.calm_retireAnns _).trans (calm_mapAnns _ _)).trans ((calm_endCause _ _ _).trans (calm_endCause _ _ _))).toSteady
  refine h.trans ?_
  generalize endCause _ _ _ = u
  repeat' split
  all_goals first
    | exact (steady_modControl _ _).trans (Calm.toSteady (calm_issueIndicator _ _ _))
    | exact Calm.toSteady (calm_issueIndicator _ _ _)
    | exact steady_modControl _ _
    | exact Steady.refl _

theorem steady_retireTrain (s : State) (i : Nat) (t : Train) : Steady s (s.retireTrain i t) := by
  unfold retireTrain
  exact ((s.steady_retireFromGate i t).trans (steady_retireFromRecords _ _ _ _)).trans
    ((calm_unlist _ _).trans (calm_release _ _)).toSteady

/-! ### The Supply Monitor -/

theorem steady_issueOperation (s : State) (i : Nat) (op : BreakerOp) : Steady s (s.issueOperation i op) :=
  (s.steady_modSect i _).trans (Calm.toSteady (calm_issueBreaker _ _ _))

theorem calm_moveRequests (s : State) (i g r : Nat) : Calm s (s.moveRequests i g r) := by
  unfold moveRequests
  dsimp only
  refine Calm.trans (s.calm_modSubstation g _ ?_ ?_) (calm_modSubstation _ r _ ?_ ?_)
  all_goals first | exact fun _ hb => hb | exact fun _ => rfl

theorem calm_followSupplier (b s : State) (i : Nat) : Calm s (followSupplier b s i) := by
  unfold followSupplier
  repeat' split
  all_goals first | exact Calm.refl s | exact s.calm_moveRequests _ _ _

theorem calm_supplyWork (b s : State) : Calm s (supplyWork b s) := by
  unfold supplyWork
  dsimp only
  exact (((s.calm_withdrawWhere _ _).trans (Calm.foldl (f := fun t i => followSupplier b t i)
    (fun t i => calm_followSupplier b t i) _ _)).trans (calm_serveChanged _ _)).trans (calm_takeOutWhere _ _ _ _)

theorem calm_thenIncidents (b s : State) {f : State → State} (h : ∀ u, Calm u (f u)) : Calm s (thenIncidents b s f) :=
  ((calm_takeRestriction s s _).trans (calm_checkFreed _ b _)).trans (h _)

theorem calm_dropLeasesInto (s : State) (i : Nat) : Calm s (s.dropLeasesInto i) :=
  Calm.foldl (f := fun t (e : Nat × Train) => t.dropLeaseOf e.1) (fun t e => t.calm_dropLeaseOf e.1) _ s

theorem steady_lockOut (s : State) (i : Nat) : Steady s (s.lockOut i) :=
  ((s.steady_modSect i _).trans (steady_issueOperation _ _ _)).trans (Calm.toSteady (calm_dropLeasesInto _ _))

theorem steady_addFault (s : State) (i n : Nat) : Steady s (s.addFault i n) := by
  unfold addFault
  dsimp only
  repeat' split
  all_goals first | exact Steady.refl s | exact s.steady_modSect _ _ | exact s.steady_lockOut _

theorem steady_easeFault (s : State) (i : Nat) : Steady s (s.easeFault i) := s.steady_modSect _ _

theorem steady_relapse (s : State) (i : Nat) : Steady s (s.relapse i) := (s.steady_modSect i _).trans (steady_issueOperation _ _ _)

theorem steady_breakerPart (s : State) (i : Nat) (pos : Position) : Steady s (s.breakerPart i pos) := by
  unfold breakerPart
  dsimp only
  split
  · exact (s.steady_modSect _ _).trans (steady_modSect _ _ _)
  · exact s.steady_modSect _ _

theorem steady_classPart (s : State) (i : Nat) (c : SupplyClass) (pos : Position) : Steady s (s.classPart i c pos) := by
  unfold classPart
  repeat' split
  all_goals first | exact Steady.refl s | exact s.steady_easeFault _ | exact s.steady_addFault _ _

theorem steady_recoveryPart (s : State) (i : Nat) (c : SupplyClass) (pos : Position) (b : Bool) :
    Steady s (s.recoveryPart i c pos b) := by
  unfold recoveryPart
  dsimp only
  repeat' split
  all_goals first
    | exact s.steady_relapse _
    | exact ((s.steady_easeFault _).trans (steady_modSect _ _ _)).trans (steady_modSect _ _ _)
    | exact (s.steady_easeFault _).trans (steady_modSect _ _ _)
    | exact s.steady_easeFault _

theorem calm_judgeLockout (s : State) (x : Sect) (i : Nat) : Calm s (s.judgeLockout x i) := by
  unfold judgeLockout
  repeat' split
  all_goals first | exact Calm.refl s | exact s.calm_autoRaise _ _ _ | exact s.calm_endCause _ _

theorem calm_latchWarning (s : State) (x : Sect) (i : Nat) : Calm s (s.latchWarning x i) := by
  unfold latchWarning
  split
  · exact s.calm_latch _
  · exact Calm.refl s

theorem steady_takeFeeder (s : State) (i : Nat) (c : SupplyClass) (pos : Position) : Steady s (s.takeFeeder i c pos) := by
  unfold takeFeeder
  dsimp only
  refine Steady.trans ?_ (Calm.toSteady (calm_latchWarning _ _ _))
  have h : Steady s (if (s.sect i).state = SectState.recovering then (s.breakerPart i pos).recoveryPart i c pos ((s.sect i).trips pos)
      else (if (s.sect i).trips pos = true then (s.breakerPart i pos).addFault i 8 else s.breakerPart i pos).classPart i c pos) := by
    repeat' split
    · exact (s.steady_breakerPart _ _).trans (steady_recoveryPart _ _ _ _ _)
    · exact ((s.steady_breakerPart _ _).trans (steady_addFault _ _ _)).trans (steady_classPart _ _ _ _)
    · exact (s.steady_breakerPart _ _).trans (steady_classPart _ _ _ _)
  refine (h.trans (Calm.toSteady (calm_supplyWork s _))).trans (Calm.toSteady (calm_thenIncidents _ _ fun u => ?_))
  split
  · exact (u.calm_endCause _ _).trans (calm_judgeLockout _ _ _)
  · exact u.calm_judgeLockout _ _

theorem steady_abandonOperation (s : State) (i : Nat) : Steady s (s.abandonOperation i) := by
  unfold abandonOperation
  dsimp only
  split
  all_goals first
    | exact (s.steady_modSect _ _).trans (steady_modSect _ _ _)
    | exact (s.steady_modSect _ _).trans (steady_relapse _ _)
    | exact s.steady_modSect _ _

theorem steady_expireOperation (s : State) (i : Nat) : Steady s (s.expireOperation i) := by
  unfold expireOperation
  dsimp only
  exact (((s.steady_abandonOperation _).trans (steady_addFault _ _ _)).trans (Calm.toSteady (calm_supplyWork _ _))).trans
    (Calm.toSteady ((calm_thenIncidents _ _ fun u => (u.calm_judgeLockout _ _).trans (calm_autoRaise _ _ _ _)).trans
      (calm_latchWarning _ _ _)))

theorem steady_isolateSect (s : State) (i : Nat) : Steady s (s.isolateSect i) := by
  unfold isolateSect
  dsimp only
  exact ((s.steady_modSect _ _).trans (steady_issueOperation _ _ _)).trans
    (Calm.toSteady ((calm_supplyWork _ _).trans (calm_thenIncidents _ _ fun u => u.calm_judgeLockout _ _)))

theorem steady_energiseSect (s : State) (i : Nat) : Steady s (s.energiseSect i) :=
  (s.steady_modSect i _).trans (steady_issueOperation _ _ _)

theorem steady_restoreSect (s : State) (i : Nat) : Steady s (s.restoreSect i) :=
  (s.steady_modSect i _).trans (steady_issueOperation _ _ _)

theorem steady_setWarning (s : State) (i n : Nat) : Steady s (s.setWarning i n) :=
  (s.steady_modSect i _).trans (Calm.toSteady (calm_latchWarning _ _ _))

theorem steady_moveSect (s : State) (i : Nat) (x : Option SectState) : Steady s (s.moveSect i x) := by
  unfold moveSect
  split
  · exact s.steady_modSect _ _
  · exact Steady.refl s

theorem steady_moveSects (s : State) (k : Nat) (up : Bool) : Steady s (s.moveSects k up) := by
  unfold moveSects
  exact (s.steady_modSubstation k (fun b => { b with up := up }) fun _ hb => hb).trans
    (Steady.foldl (fun t i => t.steady_moveSect _ _) _ _)

theorem calm_judgeLockouts (b s : State) : Calm s (judgeLockouts b s) :=
  Calm.foldl (f := fun t i => t.judgeLockout (b.sect i) i) (fun t i => t.calm_judgeLockout _ i) _ s

theorem steady_takeSubstation (s : State) (k : Nat) (up : Bool) : Steady s (s.takeSubstation k up) := by
  unfold takeSubstation
  dsimp only
  split
  · exact Steady.refl s
  · refine (s.steady_moveSects k up).trans (Calm.toSteady ((calm_supplyWork _ _).trans (calm_thenIncidents _ _ fun u => ?_)))
    split
    · exact (calm_judgeLockouts s u).trans (calm_endCause _ _ _)
    · exact (calm_judgeLockouts s u).trans (calm_autoRaise _ _ _ _)

/-! ### Pattern Control -/

theorem steady_setBudgets (s : State) (q : Nat) : Steady s (s.setBudgets q) := by
  unfold setBudgets
  exact Steady.foldl (f := fun (t : State) (k : Nat) => t.modSubstation k fun b => { b with budget := (s.patternLine q).budgets.getD k 0 })
    (fun t k => t.steady_modSubstation k _ fun _ hb => hb) _ s

theorem steady_setPattern (s : State) (q : Nat) : Steady s (s.setPattern q) :=
  ((s.steady_modControl _).trans (steady_setBudgets _ _)).trans (Calm.toSteady (calm_serveAll _))

theorem steady_saveTrain (s : State) (i : Nat) (t : Train) : Steady s (s.saveTrain i t) :=
  (s.steady_modControl _).trans (Calm.toSteady (calm_modTrain _ _ _))

theorem steady_enterFromClear (s : State) (q : Nat) : Steady s (s.enterFromClear q) := by
  unfold enterFromClear
  dsimp only
  exact (((s.steady_modControl _).trans (Steady.foldl (f := fun u (e : Nat × Train) => u.saveTrain e.1 e.2)
    (fun u e => u.steady_saveTrain _ _) _ _)).trans (steady_modControl _ _)).trans (steady_setPattern _ _)

theorem calm_restoreTrain (s : State) (e : SaveEntry) : Calm s (s.restoreTrain e) := s.calm_modTrain _ _

theorem steady_leaveDegraded (s : State) : Steady s s.leaveDegraded := by
  unfold leaveDegraded
  dsimp only
  exact ((s.steady_setPattern _).trans (Calm.toSteady (Calm.foldl calm_restoreTrain _ _))).trans (steady_modControl _ _)

theorem steady_amendSave (s : State) (h : Handle) (x : Option Int) (n : Option Nat) : Steady s (s.amendSave h x n) :=
  s.steady_modControl _

end State

end Sys2Proof.Machine
end

