-- ==== Sys2Proof/Laws/Time.lean ====
section
/-! SUPPORT. What the expiries and the passage of line time leave alone, and that an UNCONFIGURED part takes no expiry. -/

namespace Sys2Proof.Machine

open Sys2Proof

namespace State

/-- An expiry that is not due, or that comes while UNCONFIGURED, changes nothing (R10). -/
theorem expire_idle {s e : State} {due : Bool} (h : s.part = .unconfigured ∨ due = false) : s.expire due e = s := by
  unfold expire
  rcases h with h | h <;> simp [h]

theorem steady_expire {s e : State} (h : Steady s e) (due : Bool) : Steady s (s.expire due e) := by
  unfold expire
  split
  · exact h.trans (Calm.toSteady (calm_endEvent _ _))
  · exact Steady.refl s

section
variable (due : Reach) (s : State)

theorem steady_takeDeparture (i : Nat) : Steady s (s.takeDeparture due i) := steady_expire (s.calm_scheduleCheck i).toSteady _

theorem steady_takeOverdue (i : Nat) : Steady s (s.takeOverdue due i) :=
  steady_expire ((s.calm_modTrain _ _).trans (calm_autoRaise _ _ _ _)).toSteady _

theorem steady_takeApproach (i : Nat) : Steady s (s.takeApproach due i) := by
  refine steady_expire (Calm.toSteady ?_) _
  unfold approachNow
  split
  · exact s.calm_announceApproach _ _
  · exact Calm.refl s

theorem steady_takeWait (k : Nat) (h : Handle) : Steady s (s.takeWait due k h) := by
  refine steady_expire (Calm.toSteady ?_) _
  unfold waitExpired
  refine Calm.trans ?_ (calm_autoRaise _ _ _ _)
  exact s.calm_modSubstation k _ (fun _ hb => hb) fun _ => rfl

theorem steady_takeLease (k : Nat) (h : Handle) : Steady s (s.takeLease due k h) :=
  steady_expire ((s.calm_dropLease k h).trans (calm_serveChanged _ _)).toSteady _

theorem steady_takeOperation (i : Nat) : Steady s (s.takeOperation due i) := steady_expire (s.steady_expireOperation i) _

theorem steady_takeEscalation (i : Nat) : Steady s (s.takeEscalation due i) := steady_expire (s.calm_changeSeverity _ _).toSteady _

theorem steady_takeRest (i : Nat) : Steady s (s.takeRest due i) := steady_expire (s.calm_endRest i).toSteady _

theorem steady_takeStart (p : Nat) : Steady s (s.takeStart due p) := steady_expire (s.calm_playerLost p).toSteady _

theorem steady_takeStop (p : Nat) : Steady s (s.takeStop due p) :=
  steady_expire ((s.calm_quietPlayer _ _).trans (calm_latch _ _)).toSteady _

/-- The taking of every due deadline keeps what every event keeps; line time is the same throughout (R10). -/
theorem steady_takeDue : Steady s (s.takeDue due) := by
  have trains : ∀ t, Steady t (dueTrains due t) := fun t => Steady.foldl (fun t i =>
    ((t.steady_takeDeparture due i).trans (steady_takeOverdue due _ i)).trans (steady_takeApproach due _ i)) _ t
  have waits : ∀ t, Steady t (dueWaits due t) := Steady.foldl (fun t k =>
    Steady.foldl (f := fun u (e : Entry) => u.takeWait due k e.train) (fun u e => steady_takeWait due u k e.train) _ t) _
  have leases : ∀ t, Steady t (dueLeases due t) := Steady.foldl (fun t k =>
    Steady.foldl (f := fun u (l : Lease) => u.takeLease due k l.train) (fun u l => steady_takeLease due u k l.train) _ t) _
  have operations : ∀ t, Steady t (dueOperations due t) := Steady.foldl (fun t i => steady_takeOperation due t i) _
  have escalations : ∀ t, Steady t (dueEscalations due t) := fun t => Steady.foldl (fun t i => steady_takeEscalation due t i) _ t
  have rests : ∀ t, Steady t (dueRests due t) := fun t => Steady.foldl (fun t i => steady_takeRest due t i) _ t
  have players : ∀ t, Steady t (duePlayers due t) := Steady.foldl (fun t p =>
    (t.steady_takeStart due p).trans (steady_takeStop due _ p)) _
  exact ((((((trains s).trans (waits _)).trans (leases _)).trans (operations _)).trans (escalations _)).trans (rests _)).trans
    (players _)

end

theorem foldl_idle {α β : Type} {f : α → β → α} {s : α} {l : List β} (h : ∀ x, f s x = s) : l.foldl f s = s := by
  induction l with
  | nil => rfl
  | cons x xs ih => rw [List.foldl_cons, h x, ih]

/-- While UNCONFIGURED no expiry is taken (R10). -/
theorem takeDue_unconfigured {s : State} (h : s.part = .unconfigured) (due : Reach) : s.takeDue due = s := by
  have e : ∀ (d : Bool) (t : State), s.expire d t = s := fun _ _ => expire_idle (.inl h)
  have trains : s.dueTrains due = s := foldl_idle fun i => by
    rw [show s.takeDeparture due i = s from e _ _, show s.takeOverdue due i = s from e _ _]; exact e _ _
  have waits : s.dueWaits due = s := foldl_idle fun _ => foldl_idle fun _ => e _ _
  have leases : s.dueLeases due = s := foldl_idle fun _ => foldl_idle fun _ => e _ _
  have operations : s.dueOperations due = s := foldl_idle fun _ => e _ _
  have escalations : s.dueEscalations due = s := foldl_idle fun _ => e _ _
  have rests : s.dueRests due = s := foldl_idle fun _ => e _ _
  have players : s.duePlayers due = s := foldl_idle fun p => by
    rw [show s.takeStart due p = s from e _ _]; exact e _ _
  rw [takeDue, trains, waits, leases, operations, escalations, rests, players]

end State

end Sys2Proof.Machine
end

