-- ==== Sys2Proof/WellFormed.lean ====
section
/-! DEFINITION. Well-formed commands: every operand fits the bytes that carry it on its link (R198, R199), and a report's
source time lies in the day (R190). A value within its bytes but outside the range a rule gives is well-formed: the rule
refuses, clamps or drops it. -/

namespace Sys2Proof

def fits1 (x : Nat) : Bool := decide (x < 256)
def fits2 (x : Nat) : Bool := decide (x < 65536)
def fits3 (x : Nat) : Bool := decide (x < 16777216)
def inDay (x : Nat) : Bool := decide (x < Config.day)

/-- A signed value in `n` bits. -/
def fitsSigned (n : Nat) (x : Int) : Bool := decide (-(2 ^ (n - 1) : Int) ≤ x) && decide (x < (2 ^ (n - 1) : Int))

def Handle.wf (h : Handle) : Bool := fits1 h.slot && fits1 h.epoch

def RestrictionArg.wf (r : RestrictionArg) : Bool := fits1 r.code && fits2 r.delay && fits1 r.first && fits1 r.last

def AnnouncementArg.wf (a : AnnouncementArg) : Bool :=
  fits1 a.part && fits2 a.message && fits2 a.clear && fits1 a.priority && fits1 a.first && fits1 a.last

def ModeArg.wf (m : ModeArg) : Bool := fits1 m.code && fits2 m.interval && fits1 m.count

/-- A value that may be absent. -/
def optional {α : Type} (check : α → Bool) : Option α → Bool
  | none => true
  | some x => check x

/-- The body lengths R199 allows for a request code; LOAD CONFIG takes 2 bytes and its entries. -/
def bodyAllowed (code length : Nat) : Bool :=
  match code with
  | 1 | 7 | 8 | 11 | 12 | 18 | 21 | 25 | 28 => length == 2
  | 2 => length == 4
  | 3 | 4 => length == 6
  | 5 => length == 9 || length == 10
  | 6 | 14 => length == 10
  | 9 | 10 => length == 19
  | 13 => length == 12
  | 15 | 16 | 17 | 19 | 20 | 22 | 23 | 35 | 37 => length == 1
  | 24 | 29 | 31 | 32 | 33 | 36 => length == 0
  | 26 => length == 8
  | 27 => length == 3
  | 30 => decide (2 ≤ length)
  | 34 => length == 0 || length == 1
  | _ => false

/-- Bytes of entries that a 250-byte length leaves after code, tag, table and index (R198). -/
abbrev maxEntryBytes : Nat := 246

def Instr.wf : Instr → Bool
  | .coldReset | .lineTimeTick | .badFrame | .controlFrameByteGap | .frameNotKept | .fieldBadFrame | .fieldFrameByteGap
  | .directiveSent | .statusFrameBad | .statusFrameByteGap => true
  | .lookup tag h | .forceDepart tag h | .retire tag h | .acknowledge tag h | .clear tag h | .readSaveEntry tag h =>
    fits1 tag && h.wf
  | .walk tag list platform after => fits1 tag && fits1 list && fits1 platform && after.wf
  | .findTrain tag keyKind key after => fits1 tag && fits1 keyKind && fits3 key && after.wf
  | .findIncident tag kind locKind loc after => fits1 tag && fits1 kind && fits1 locKind && fits2 loc && after.wf
  | .createTrain tag vehicle service origin tripStart _ =>
    fits1 tag && fits3 vehicle && fits2 service && fits1 origin && fits3 tripStart
  | .amendTrain tag h service origin tripStart _ =>
    fits1 tag && h.wf && optional fits2 service && optional fits1 origin && optional fits3 tripStart
  | .raiseIncident tag severity locKind loc restr ann =>
    fits1 tag && fits1 severity && fits1 locKind && fits2 loc && restr.wf && ann.wf
  | .amendIncident tag h severity restr ann =>
    fits1 tag && h.wf && optional fits1 severity && optional RestrictionArg.wf restr && optional AnnouncementArg.wf ann
  | .createAnnouncement tag platform message priority train minutes mode =>
    fits1 tag && fits1 platform && fits2 message && fits1 priority && train.wf && optional fits1 minutes && mode.wf
  | .amendAnnouncement tag h message minutes mode =>
    fits1 tag && h.wf && optional fits2 message && optional fits1 minutes && optional ModeArg.wf mode
  | .readPlatform tag x | .readSection tag x | .readSubstation tag x | .energise tag x | .restore tag x | .isolate tag x _
  | .selectPattern tag x | .enterDegraded tag x | .setAttentionMask tag x | .readShadow tag x => fits1 tag && fits1 x
  | .setWarningLevel tag sect level => fits1 tag && fits1 sect && fits1 level
  | .resume tag | .readTime tag | .start tag | .configReload tag | .linkRestart tag | .readStatus tag => fits1 tag
  | .amendSaveEntry tag h lateness service => fits1 tag && h.wf && optional (fitsSigned 24) lateness && optional fits2 service
  | .setTime tag time => fits1 tag && fits3 time
  | .adjustTime tag step => fits1 tag && fitsSigned 16 step
  | .loadConfig tag table first bytes => fits1 tag && fits1 table && fits1 first && decide (bytes.length ≤ maxEntryBytes)
  | .readAttention tag cls => fits1 tag && optional fits1 cls
  | .unknownRequestCode code tag bodyLength =>
    fits1 code && fits1 tag && decide (bodyLength ≤ 248) && !bodyAllowed code bodyLength
  | .arrive vehicle platform time | .depart vehicle platform time => fits3 vehicle && fits1 platform && inDay time
  | .feeder x _ _ time | .substation x _ time => fits1 x && inDay time
  | .platformAlarm platform _ severity time => fits1 platform && fits1 severity && inDay time
  | .ready p | .started p | .refused p | .ended p => fits1 p
  | .departureExpiry slot | .overdueExpiry slot | .approachExpiry slot | .escalationExpiry slot | .restExpiry slot =>
    decide (slot < Config.slotEntries)
  | .waitExpiry k h | .leaseExpiry k h => decide (k < Config.substationEntries) && h.wf
  | .operationExpiry sect => decide (sect < Config.sectionEntries)
  | .startExpiry platform | .stopExpiry platform => decide (platform < Config.platformEntries)

end Sys2Proof
end

