-- ==== Sys2Proof/Tests/Slice0.lean ====
section
/-! SUPPORT. Tests: ill-formed commands that `wf` refuses, frames written from the layouts of R198 and R199 that decode to their
commands, single steps from the manual's examples, and for each statement with hypotheses a state and operands that meet them. -/

namespace Sys2Proof.Tests

open Sys2Proof Sys2Proof.Machine

-- One theorem after the other: each kernel evaluation below needs the whole environment before it.
set_option Elab.async false

/-! ### Ill-formed commands -/

theorem test_ill_formed_tag : ((.start 256 : Instr)).wf = false := by decide
theorem test_ill_formed_handle_slot : ((.lookup 1 ⟨256, 1⟩ : Instr)).wf = false := by decide
theorem test_ill_formed_handle_epoch : ((.retire 1 ⟨1, 256⟩ : Instr)).wf = false := by decide
theorem test_ill_formed_walk_list : ((.walk 1 256 0 ⟨0, 0⟩ : Instr)).wf = false := by decide
theorem test_ill_formed_walk_platform : ((.walk 1 2 256 ⟨0, 0⟩ : Instr)).wf = false := by decide
theorem test_ill_formed_key : ((.findTrain 1 0 16777216 ⟨0, 0⟩ : Instr)).wf = false := by decide
theorem test_ill_formed_location : ((.findIncident 1 0 1 65536 ⟨0, 0⟩ : Instr)).wf = false := by decide
theorem test_ill_formed_vehicle : ((.createTrain 1 16777216 1 0 0 none : Instr)).wf = false := by decide
theorem test_ill_formed_service : ((.createTrain 1 1 65536 0 0 none : Instr)).wf = false := by decide
theorem test_ill_formed_origin : ((.amendTrain 1 ⟨1, 1⟩ none (some 256) none none : Instr)).wf = false := by decide
theorem test_ill_formed_trip_start : ((.amendTrain 1 ⟨1, 1⟩ none none (some 16777216) none : Instr)).wf = false := by decide
theorem test_ill_formed_severity : ((.raiseIncident 1 256 0 0 ⟨0, 0, 0, 0⟩ ⟨0, 0, 0, 0, 0, 0, false, false⟩ : Instr)).wf = false := by decide
theorem test_ill_formed_restriction : ((.raiseIncident 1 1 0 0 ⟨2, 65536, 0, 0⟩ ⟨0, 0, 0, 0, 0, 0, false, false⟩ : Instr)).wf = false := by decide
theorem test_ill_formed_announcement : ((.amendIncident 1 ⟨1, 1⟩ none none (some ⟨1, 65536, 0, 0, 0, 0, false, false⟩) : Instr)).wf = false := by decide
theorem test_ill_formed_minutes : ((.createAnnouncement 1 0 1 0 ⟨0, 0⟩ (some 256) ⟨0, 0, 0⟩ : Instr)).wf = false := by decide
theorem test_ill_formed_mode : ((.amendAnnouncement 1 ⟨1, 1⟩ none none (some ⟨1, 65536, 0⟩) : Instr)).wf = false := by decide
theorem test_ill_formed_index : ((.readPlatform 1 256 : Instr)).wf = false := by decide
theorem test_ill_formed_warning_level : ((.setWarningLevel 1 0 256 : Instr)).wf = false := by decide
theorem test_ill_formed_saved_lateness : ((.amendSaveEntry 1 ⟨1, 1⟩ (some 8388608) none : Instr)).wf = false := by decide
theorem test_ill_formed_line_time : ((.setTime 1 16777216 : Instr)).wf = false := by decide
theorem test_ill_formed_step : ((.adjustTime 1 (-32769) : Instr)).wf = false := by decide
theorem test_ill_formed_config_bytes : ((.loadConfig 1 9 0 (List.replicate 247 0) : Instr)).wf = false := by decide +kernel
theorem test_ill_formed_class : ((.readAttention 1 (some 256) : Instr)).wf = false := by decide
theorem test_ill_formed_known_code : ((.unknownRequestCode 1 0 2 : Instr)).wf = false := by decide
theorem test_ill_formed_body_length : ((.unknownRequestCode 0 0 249 : Instr)).wf = false := by decide
theorem test_ill_formed_report_time : ((.arrive 1 0 864000 : Instr)).wf = false := by decide
theorem test_ill_formed_feeder_section : ((.feeder 256 .low .closed 0 : Instr)).wf = false := by decide
theorem test_ill_formed_alarm_severity : ((.platformAlarm 0 true 256 0 : Instr)).wf = false := by decide
theorem test_ill_formed_player : ((.ready 256 : Instr)).wf = false := by decide
theorem test_ill_formed_slot : ((.departureExpiry 256 : Instr)).wf = false := by decide
theorem test_ill_formed_queue_entry : ((.waitExpiry 12 ⟨1, 1⟩ : Instr)).wf = false := by decide
theorem test_ill_formed_operation : ((.operationExpiry 32 : Instr)).wf = false := by decide
theorem test_ill_formed_deadline_player : ((.startExpiry 48 : Instr)).wf = false := by decide
theorem test_well_formed : ([.start 255, .setTime 0 16777215, .adjustTime 1 (-32768), .loadConfig 1 9 0 (List.replicate 246 0),
    .unknownRequestCode 1 0 3, .arrive 16777215 255 863999, .leaseExpiry 11 ⟨255, 15⟩, .stopExpiry 47] : List Instr).all Instr.wf = true := by decide +kernel

/-! ### Frames -/

theorem test_decode_lookup : decodeControl [4, 1, 7, 5, 3, 236] = .lookup 7 ⟨5, 3⟩ := by decide
theorem test_decode_walk : decodeControl [6, 2, 8, 2, 11, 5, 3, 219] = .walk 8 2 11 ⟨5, 3⟩ := by decide
theorem test_decode_find_train : decodeControl [8, 3, 9, 0, 0, 156, 181, 0, 0, 155] = .findTrain 9 0 40117 ⟨0, 0⟩ := by decide
theorem test_decode_find_incident : decodeControl [8, 4, 9, 3, 4, 6, 2, 0, 0, 220] = .findIncident 9 3 4 (6 * 256 + 2) ⟨0, 0⟩ := by decide
theorem test_decode_create_train_short : decodeControl [11, 5, 1, 0, 156, 181, 1, 56, 3, 1, 134, 160, 59] = .createTrain 1 40117 312 3 100000 none := by decide
theorem test_decode_create_train_held : decodeControl [12, 5, 1, 0, 156, 181, 1, 56, 3, 1, 134, 160, 9, 49] = .createTrain 1 40117 312 3 100000 (some true) := by decide +kernel
theorem test_decode_amend_train : decodeControl [12, 6, 2, 5, 3, 10, 0, 77, 4, 0, 1, 244, 0, 148] = .amendTrain 2 ⟨5, 3⟩ none (some 4) none (some false) := by decide +kernel
theorem test_decode_raise_incident : decodeControl [21, 9, 3, 5, 1, 0, 14, 2, 1, 144, 14, 16, 2, 3, 132, 3, 133, 3, 13, 17, 1, 0, 231] = .raiseIncident 3 5 1 14 ⟨2, 400, 14, 16⟩ ⟨2, 900, 901, 3, 13, 17, true, false⟩ := by decide +kernel
theorem test_decode_amend_incident : decodeControl [21, 10, 3, 5, 3, 3, 4, 0, 0, 0, 0, 0, 1, 3, 132, 3, 133, 3, 13, 17, 1, 0, 157] = .amendIncident 3 ⟨5, 3⟩ (some 4) (some ⟨0, 0, 0, 0⟩) none := by decide +kernel
theorem test_decode_create_announcement : decodeControl [14, 13, 4, 11, 2, 188, 1, 0, 0, 1, 5, 1, 1, 44, 2, 225] = .createAnnouncement 4 11 700 1 ⟨0, 0⟩ (some 5) ⟨1, 300, 2⟩ := by decide +kernel
theorem test_decode_amend_announcement : decodeControl [12, 14, 4, 5, 3, 2, 2, 188, 255, 1, 1, 44, 2, 235] = .amendAnnouncement 4 ⟨5, 3⟩ none (some 255) none := by decide +kernel
theorem test_decode_isolate : decodeControl [4, 18, 4, 12, 1, 217] = .isolate 4 12 true := by decide
theorem test_decode_amend_save_entry : decodeControl [10, 26, 5, 5, 3, 3, 255, 255, 196, 0, 202, 64] = .amendSaveEntry 5 ⟨5, 3⟩ (some (-60)) (some 202) := by decide +kernel
theorem test_decode_set_time : decodeControl [5, 27, 6, 13, 46, 255, 160] = .setTime 6 863999 := by decide
theorem test_decode_adjust_time : decodeControl [4, 28, 6, 255, 206, 13] = .adjustTime 6 (-50) := by decide
theorem test_decode_load_config : decodeControl [6, 30, 6, 9, 14, 255, 7, 185] = .loadConfig 6 9 14 [255, 7] := by decide
theorem test_decode_read_attention : decodeControl [2, 34, 6, 214] = .readAttention 6 none := by decide
theorem test_decode_read_shadow : decodeControl [3, 37, 6, 127, 83] = .readShadow 6 127 := by decide
theorem test_decode_no_request : decodeControl [2, 0, 6, 248] = .unknownRequestCode 0 6 0 := by decide
theorem test_decode_body_too_long : decodeControl [3, 29, 6, 1, 217] = .unknownRequestCode 29 6 1 := by decide
theorem test_decode_bad_check : decodeControl [4, 1, 7, 5, 3, 237] = .badFrame := by decide
theorem test_decode_arrive : decodeField [9, 1, 200, 0, 156, 181, 3, 1, 133, 16, 68] = .arrive 40117 3 99600 := by decide
theorem test_decode_depart : decodeField [9, 2, 200, 0, 156, 181, 3, 13, 46, 255, 159] = .depart 40117 3 863999 := by decide
theorem test_decode_feeder : decodeField [8, 3, 200, 5, 2, 0, 6, 34, 90, 164] = .feeder 5 .absent .opened 402010 := by decide
theorem test_decode_substation : decodeField [7, 4, 200, 2, 1, 7, 161, 132, 254] = .substation 2 true 500100 := by decide
theorem test_decode_platform_alarm : decodeField [8, 5, 200, 4, 1, 7, 7, 200, 48, 32] = .platformAlarm 4 true 7 510000 := by decide
theorem test_decode_class_of_none : decodeField [8, 3, 200, 5, 3, 0, 6, 34, 90, 163] = .fieldBadFrame := by decide
theorem test_decode_time_past_the_day : decodeField [9, 1, 200, 0, 156, 181, 3, 13, 47, 0, 158] = .fieldBadFrame := by decide
theorem test_decode_ready : decodeStatus [2, 1, 47, 206] = .ready 47 := by decide
theorem test_decode_started : decodeStatus [2, 2, 47, 205] = .started 47 := by decide
theorem test_decode_refused : decodeStatus [2, 3, 47, 204] = .refused 47 := by decide
theorem test_decode_ended : decodeStatus [2, 4, 47, 203] = .ended 47 := by decide
theorem test_decode_status_with_body : decodeStatus [3, 1, 47, 0, 205] = .statusFrameBad := by decide
theorem test_dwell_frame : directiveFrame 11 (.dwell 300100) = [165, 5, 1, 11, 4, 148, 68, 19] := by decide
theorem test_play_frame : directiveFrame 59 (.play 700 none (some 312)) = [165, 8, 5, 59, 2, 188, 2, 0, 1, 56, 191] := by decide
theorem test_breaker_frame : directiveFrame 101 .breakerOpen = [165, 2, 7, 101, 146] := by decide

/-! ### A small line for the witnesses -/

/-- Pattern values inside the ranges of R8. -/
def someVals : PatternVals := { d0 := 300, dmin := 200, dmax := 900, run := 900, headway := 1200, wh := 192, ws := 64, accel := 200 }

/-- Six platforms, sixteen sections and five substations that START passes. -/
def someTables : Tables :=
  { Tables.zero with
    header := ⟨6, 16, 5⟩
    platforms := (List.range 48).map fun p =>
      { runSection := min p 1, originAllowed := true, approachLead := if p = 5 then 0 else 600, approachCode := 40, player := true }
    sects := [⟨0, none, 40⟩, ⟨1, some 3, 40⟩, ⟨0, none, 40⟩, ⟨0, none, 40⟩, ⟨3, none, 40⟩, ⟨0, none, 40⟩, ⟨0, none, 40⟩, ⟨3, none, 40⟩,
      ⟨0, none, 40⟩, ⟨2, none, 40⟩, ⟨2, some 3, 40⟩, ⟨0, none, 40⟩, ⟨3, none, 40⟩, ⟨2, none, 40⟩, ⟨2, some 4, 40⟩, ⟨0, none, 40⟩]
      ++ List.replicate 16 {}
    vals := List.replicate 4 (List.replicate 48 someVals)
    lines := [false, false, true, true].map fun d =>
      { overdueMargin := 600, waitLimit := 200, degraded := d, budgets := List.replicate 12 4 }
    messages := List.replicate 9 { raiseCode := 50, clearCode := 51, priority := 2 }
    routes := List.replicate 16 1 }

/-- A train in slot `i` at or behind platform `p`. -/
def aTrain (i p : Nat) (st : TrainState) : Train :=
  { vehicle := 100 + i, service := 10 + i, origin := p, tripStart := 1200, state := st, position := some p, schedArr := 900,
    lastArr := some 950, lastDep := some 900, depTime := some 1000, depDl := some 1000 }

/-- An incident of a kind at a place. -/
def anIncident (k : Kind) (loc : Option Location) (sev : Nat) (st : IncidentState) : Incident :=
  { kind := k, severity := sev, location := loc, state := st, raisedTime := 800, escDl := some 1000 }

/-- An announcement on a platform. -/
def anAnn (p : Nat) (st : AnnState) (m : Mode) : Ann :=
  { platform := p, message := 60, priority := 1, origin := .operator, mode := m, state := st }

/-! The records, one for each slot in order. -/

def boarding : Train := { aTrain 0 5 .awaiting with position := none, depDl := none }
def dueTrain : Train := aTrain 1 1 .dwelling
def heldByHand : Train := { aTrain 2 2 .held with holds := { manual := true } }
def queuedTrain : Train := aTrain 3 0 .waiting
def releasedTrain : Train := aTrain 4 3 .released
def runner : Train :=
  { aTrain 5 0 .running with predicted := some 1800, overdueDl := some 1000, approachDl := some 1000, lease := some (1, 1) }
def lateRunner : Train := { aTrain 6 1 .overdue with predicted := some 900, lease := some (1, 2) }
def dueBehindQueue : Train := aTrain 7 0 .dwelling
def dueHeld : Train := { aTrain 8 4 .dwelling with holds := { manual := true } }
def restricted : Train := { aTrain 9 2 .held with holds := { restriction := true } }
def dueWaiter : Train := { aTrain 10 1 .dwelling with holds := { conflict := true } }
def boardingBehind : Train := { aTrain 11 0 .awaiting with position := none, depDl := none }
def raisedIncident : Incident := { anIncident .operator none 3 .raised with
    restriction := some ⟨.delay 120, 4, 4⟩, ann := some ⟨70, 71, 1, .range 3 3, false, false⟩ }
def ackedIncident : Incident := anIncident .breakerFailure (some (.sect 0)) 5 .acknowledged
def clearedIncident : Incident := anIncident .operator none 2 .cleared
def alarm : Incident := anIncident .platformAlarm (some (.platform 1)) 3 .raised
def topAlarm : Incident := anIncident .platformAlarm (some (.platform 2)) 7 .raised
def ackedAlarm : Incident := anIncident .platformAlarm (some (.platform 3)) 7 .acknowledged
def endedIncident : Incident := { anIncident .operator none 7 .raised with causeEnded := true }
def queuedAnn : Ann := anAnn 0 .queued .once
def cuedAnn : Ann := anAnn 1 .selected .once
def playingAnn : Ann := anAnn 2 .playing (.repeated 600 3)
def restingAnn : Ann := { anAnn 3 .resting (.repeated 600 3) with plays := 1, restDl := some 1000 }
def lastAnn : Ann := anAnn 4 .playing .once
def overdueIncident : Incident := anIncident .trainOverdue (some (.train ⟨6, 1⟩)) 3 .raised
def transferIncident : Incident := anIncident .supplyTransfer (some (.substation 2)) 6 .raised
def nextAnn : Ann := anAnn 1 .queued .once

/-- The records of the first 27 slots. -/
def someRecords : List Rec :=
  [boarding, dueTrain, heldByHand, queuedTrain, releasedTrain, runner,
    lateRunner, dueBehindQueue, dueHeld, restricted, dueWaiter, boardingBehind].map .train ++
  [raisedIncident, ackedIncident, clearedIncident, alarm,
    topAlarm, ackedAlarm, endedIncident].map .incident ++
  [queuedAnn, cuedAnn, playingAnn, restingAnn, lastAnn].map .ann ++
  [.incident overdueIncident, .incident transferIncident, .ann nextAnn]

/-- Announcements that fill the slots behind the records, over the platforms from 5 on. -/
def filler (n : Nat) : List Rec := (List.range n).map fun k => .ann (anAnn (5 + k / 6) .resting .once)

/-- An OPERATING part at line time 1000 with something due everywhere: 27 records in the first slots, and `n` slots filled behind
them. -/
def lineOf (records : List Rec) (n : Nat) : State :=
  { State.reset with
    part := .operating
    tables := someTables
    lineTime := 1000
    pool :=
      { slots := (records ++ filler n).map (fun r => ⟨1, r⟩) ++ List.replicate (229 - n) {}
        free := List.range' (27 + n) (229 - n)
        trains := List.range 12
        incidents := [16, 17, 18, 25, 13, 12, 15, 24, 14]
        queues := [[19], [20, 26], [21], [22], [23]]
          ++ (List.range 43).map fun p => List.range' (27 + 6 * p) (min 6 (n - 6 * p)) }
    platforms :=
      [{ occupant := some ⟨7, 1⟩, player := .stopping, playerDl := some 1000 },
       { occupant := some ⟨1, 1⟩, player := .cued, cue := some ⟨20, 1⟩, playerDl := some 1000 },
       { player := .playing, cue := some ⟨21, 1⟩ },
       { occupant := some ⟨4, 1⟩ },
       { player := .playing, cue := some ⟨23, 1⟩ },
       { player := .offline }] ++ List.replicate 42 {}
    sects :=
      [{ breaker := .closed, occupants := 1, warning := 40 }, { warning := 40, counter := 60 },
       { state := .isolated }, { state := .lockedOut, counter := 255 },
       { state := .recovering, breaker := .closed, recovery := 14, counter := 9 },
       { state := .isolating, op := some (.opening, 1000) }, { state := .energising, op := some (.closing, 1000) },
       { state := .recovering, op := some (.closing, 1000) }, { state := .lockedOut, op := some (.opening, 1000) },
       { state := .dead }, { state := .onFallback }, { counter := 250, breaker := .closed },
       { state := .recovering, breaker := .closed, recovery := 15 }, { state := .recovering, breaker := .closed },
       { state := .dead }, { counter := 247, breaker := .closed }] ++ List.replicate 16 {}
    substations :=
      [{ budget := 4, queue := [⟨⟨3, 1⟩, 1, 800, some 1000⟩] },
       { budget := 4, inUse := 3, leases := [⟨⟨6, 1⟩, 2, 1000⟩, ⟨⟨5, 1⟩, 1, 1100⟩] },
       { budget := 4, up := false }, { budget := 4 }, { budget := 4, up := false }] ++ List.replicate 7 {}
    attention := { latches := { poolLow := true } }
    links := { queue := [(3, .hold), (49, .play 60 none none)], shadows := (some .depart) :: List.replicate 127 none } }

/-- The witness state of most statements. -/
def onLine : State := lineOf someRecords 0

/-- The same with another record in one slot. -/
def onLineWith (i : Nat) (r : Rec) : State := lineOf (someRecords.set i r) 0

theorem onLine_front : Laws.Front onLine 27 := .of (by decide +kernel) (by decide +kernel) (by decide +kernel)

theorem onLine_sound : onLine.Sound :=
  onLine_front.sound (by unfold State.Sized; decide +kernel) (by decide +kernel)

theorem onLine_vehicles : onLine.VehiclesOnce := onLine_front.vehiclesOnce (by decide +kernel)

/-- Its queues, and those of a state with the same substations whose slot 3 has a train WAITING PERMIT. -/
theorem queuesOk_like {s : State} {x : Train} (hs : s.substations = onLine.substations) (hh : s.handle 3 = ⟨3, 1⟩)
    (hx : s.train? 3 = some x) (hw : x.state = .waiting) : s.QueuesOk := by
  refine Laws.queuesOk_of (fun b hb e he => ?_) (hs ▸ by decide +kernel)
  have h : b.queue = [] ∨ b.queue = [⟨⟨3, 1⟩, 1, 800, some 1000⟩] :=
    (by decide +kernel : ∀ b ∈ onLine.substations, b.queue = [] ∨ b.queue = [⟨⟨3, 1⟩, 1, 800, some 1000⟩]) b (hs ▸ hb)
  rcases h with h | h <;> simp only [h, List.not_mem_nil, List.mem_singleton] at he
  subst he
  exact ⟨hh, x, hx, hw⟩

theorem onLine_queues : onLine.QueuesOk := queuesOk_like (x := queuedTrain) rfl (by decide +kernel) (by decide +kernel) rfl

theorem onLine_nothing_owed : onLine.NothingOwed :=
  onLine_front.nothingOwed (by decide +kernel) (by decide +kernel) (by decide +kernel) (by decide +kernel)

theorem onLine_configured : onLine.Configured := onLine_front.configured (by decide +kernel)

theorem onLine_plain_holds : onLine.PlainHolds := onLine_front.plainHolds (by decide +kernel)

theorem onLine_waiters : onLine.WaitersQueued := onLine_front.waitersQueued (by decide +kernel)

theorem onLine_priorities : onLine.PrioritiesOk := onLine_front.prioritiesOk (by decide +kernel)

theorem onLine_saves : onLine.SavesOk := onLine_front.savesOk (by decide +kernel) (by decide +kernel) (by decide +kernel)

theorem onLine_ordered : onLine.Ordered := Laws.ordered_of rfl (by decide +kernel)

theorem onLine_players : onLine.PlayersOk := onLine_front.playersOk rfl (by decide +kernel) (by decide +kernel) rfl

theorem onLine_caps : onLine.CapsOk where
  trains := by decide +kernel
  incidents := by decide +kernel
  queues p := by
    by_cases hp : p < Config.platformEntries
    · exact (by decide +kernel : ∀ p < Config.platformEntries, (onLine.queue p).length ≤ Config.queueCap) p hp
    · rw [Laws.queue_far (by decide +kernel) (Nat.le_of_not_lt hp)]; exact Nat.zero_le _

/-- The same part in degraded working, with two saved trains. -/
def degradedLine : State :=
  { onLine with control := { active := 2, degraded := true, saves := [⟨⟨1, 1⟩, 11, 50⟩, ⟨⟨5, 1⟩, 15, -7⟩] } }

theorem degradedLine_sound : degradedLine.Sound :=
  Laws.sound_of_pool onLine_sound rfl (by unfold State.Sized; decide +kernel) (by decide +kernel)

theorem degradedLine_queues : degradedLine.QueuesOk := ⟨onLine_queues.waiting, onLine_queues.once⟩

/-- No slot is free, and section 0 owes a SECTION LOCKOUT. -/
def fullLine : State :=
  { lineOf someRecords 229 with
    sects := onLine.sects.set 0 { owed := { first := some 5 } } }

theorem fullLine_sound : fullLine.Sound :=
  (Laws.Front.of (n := 256) (by decide +kernel) (by decide +kernel) (by decide +kernel)).sound (by unfold State.Sized; decide +kernel) (by decide +kernel)

/-- Sixteen slots are free, nothing is owed but a copy of the incident in slot 12, at platform 3. -/
def sixteenLine : State := lineOf (someRecords.set 12 (.incident { raisedIncident with owedCopies := [3] })) 213

theorem sixteenLine_sound : sixteenLine.Sound :=
  (Laws.Front.of (n := 240) (by decide +kernel) (by decide +kernel) (by decide +kernel)).sound
    (by unfold State.Sized; decide +kernel) (by decide +kernel)

/-- Platform 5 owes a PLATFORM ALARM. -/
def owingLine : State := { onLine with platforms := onLine.platforms.set 5 { owed := { first := some 4 } } }

theorem owingLine_sound : owingLine.Sound :=
  Laws.sound_of_pool onLine_sound rfl (by unfold State.Sized; decide +kernel) (by decide +kernel)

/-- The train of slot 9 is HELD at platform 2 by a HOLD of the incident in slot 12. -/
def heldLine : State :=
  onLineWith 12 (.incident { raisedIncident with restriction := some ⟨.hold, 2, 2⟩ })

theorem heldLine_front : Laws.Front heldLine 27 := .of (by decide +kernel) (by decide +kernel) (by decide +kernel)

/-- The train of slot 2 is HELD at platform 2 with NO SUPPLY alone; section 1 is DEAD and its primary DOWN. -/
def darkTrain : Train := { aTrain 2 2 .held with holds := { noSupply := true } }

def darkLine : State :=
  { onLineWith 2 (.train darkTrain) with
    sects := onLine.sects.set 1 { state := .dead, warning := 40 }
    substations := onLine.substations.set 1 { onLine.substation 1 with up := false } }

theorem darkLine_front : Laws.Front darkLine 27 := .of (by decide +kernel) (by decide +kernel) (by decide +kernel)

/-- The queue of substation 0 has an entry, and a lease there is due; slot 25 has an incident `c`. -/
def gateLine (c : Incident) : State :=
  { onLineWith 25 (.incident c) with
    substations := onLine.substations.set 0
      { budget := 4, inUse := 3, leases := [⟨⟨6, 1⟩, 2, 1000⟩, ⟨⟨5, 1⟩, 1, 1100⟩], queue := [⟨⟨3, 1⟩, 1, 800, none⟩] } }

/-- A POWER DELAY at substation 0. -/
def delayIncident : Incident := anIncident .powerDelay (some (.substation 0)) 6 .raised

theorem gateLine_sound (c : Incident) (h : c = transferIncident ∨ c = delayIncident) : (gateLine c).Sound := by
  rcases h with rfl | rfl
  · exact (Laws.Front.of (n := 27) (by decide +kernel) (by decide +kernel) (by decide +kernel)).sound
      (by unfold State.Sized; decide +kernel) (by decide +kernel)
  · exact (Laws.Front.of (n := 27) (by decide +kernel) (by decide +kernel) (by decide +kernel)).sound
      (by unfold State.Sized; decide +kernel) (by decide +kernel)

theorem gateLine_queues (c : Incident) : (gateLine c).QueuesOk := by
  refine Laws.queuesOk_of (fun b hb e he => ?_) (by decide +kernel : ((onLine.substations.set 0
    { budget := 4, inUse := 3, leases := [⟨⟨6, 1⟩, 2, 1000⟩, ⟨⟨5, 1⟩, 1, 1100⟩],
      queue := [⟨⟨3, 1⟩, 1, 800, none⟩] }).flatMap Substation.queue |>.map Entry.train).Nodup)
  have h : b.queue = [] ∨ b.queue = [⟨⟨3, 1⟩, 1, 800, none⟩] :=
    (by decide +kernel : ∀ b ∈ (gateLine transferIncident).substations, b.queue = [] ∨ b.queue = [⟨⟨3, 1⟩, 1, 800, none⟩]) b hb
  rcases h with h | h <;> simp only [h, List.not_mem_nil, List.mem_singleton] at he
  subst he
  exact ⟨rfl, queuedTrain, rfl, rfl⟩

/-- The train of slot 3 waits at substation 1 for section 1, whose fallback is substation 3; no other section is fed from 1. -/
def movingTrain : Train := aTrain 3 2 .waiting

def movingLine : State :=
  { onLineWith 3 (.train movingTrain) with
    substations := [{ budget := 4 }, { budget := 1, inUse := 1, leases := [⟨⟨6, 1⟩, 1, 1100⟩], queue := [⟨⟨3, 1⟩, 1, 800, none⟩] },
      { budget := 4, up := false }, { budget := 4 }, { budget := 4, up := false }] ++ List.replicate 7 {} }

theorem movingLine_front : Laws.Front movingLine 27 := .of (by decide +kernel) (by decide +kernel) (by decide +kernel)

theorem movingLine_queues : movingLine.QueuesOk := by
  refine Laws.queuesOk_of (fun b hb e he => ?_) (by decide +kernel)
  have h : b.queue = [] ∨ b.queue = [⟨⟨3, 1⟩, 1, 800, none⟩] :=
    (by decide +kernel : ∀ b ∈ movingLine.substations, b.queue = [] ∨ b.queue = [⟨⟨3, 1⟩, 1, 800, none⟩]) b hb
  rcases h with h | h <;> simp only [h, List.not_mem_nil, List.mem_singleton] at he
  subst he
  exact ⟨by decide +kernel, movingTrain, by decide +kernel, rfl⟩

/-- The same with section 1 ON FALLBACK at substation 3, where the train waits, and a SUPPLY TRANSFER at substation 1. -/
def returningLine : State :=
  { movingLine.modIncident 25 fun c => { c with location := some (.substation 1) } with
    sects := onLine.sects.set 1 { state := .onFallback, warning := 40 }
    substations := [{ budget := 4 }, { budget := 1, inUse := 1, leases := [⟨⟨6, 1⟩, 1, 1100⟩], up := false },
      { budget := 4, up := false }, { budget := 4, queue := [⟨⟨3, 1⟩, 1, 800, none⟩] }, { budget := 4, up := false }]
      ++ List.replicate 7 {} }

theorem returningLine_front : Laws.Front returningLine 27 := .of (by decide +kernel) (by decide +kernel) (by decide +kernel)

theorem returningLine_queues : returningLine.QueuesOk := by
  refine Laws.queuesOk_of (fun b hb e he => ?_) (by decide +kernel)
  have h : b.queue = [] ∨ b.queue = [⟨⟨3, 1⟩, 1, 800, none⟩] :=
    (by decide +kernel : ∀ b ∈ returningLine.substations, b.queue = [] ∨ b.queue = [⟨⟨3, 1⟩, 1, 800, none⟩]) b hb
  rcases h with h | h <;> simp only [h, List.not_mem_nil, List.mem_singleton] at he
  subst he
  exact ⟨by decide +kernel, movingTrain, by decide +kernel, rfl⟩

/-- A waiter with MANUAL at platform `p`: the occupant of platform 1 is DWELLING, that of platform 3 RELEASED. -/
def crowdLine (p : Nat) : State := onLineWith 10 (.train { aTrain 10 p .dwelling with holds := { manual := true, conflict := true } })

theorem crowdLine_sound (p : Nat) (h : p = 1 ∨ p = 3) : (crowdLine p).Sound := by
  rcases h with rfl | rfl
  · exact (Laws.Front.of (n := 27) (by decide +kernel) (by decide +kernel) (by decide +kernel)).sound
      (by unfold State.Sized; decide +kernel) (by decide +kernel)
  · exact (Laws.Front.of (n := 27) (by decide +kernel) (by decide +kernel) (by decide +kernel)).sound
      (by unfold State.Sized; decide +kernel) (by decide +kernel)

/-- The train of slot 2 is HELD with MANUAL and CONFLICT. -/
def heldWaiter : Train := aTrain 2 2 .held
def pairLine : State := onLineWith 2 (.train { heldWaiter with holds := { manual := true, conflict := true } })

theorem pairLine_front : Laws.Front pairLine 27 := .of (by decide +kernel) (by decide +kernel) (by decide +kernel)

/-- In degraded working, with the train of slot 1 marked as saved. -/
def savedLine : State :=
  { onLineWith 1 (.train { dueTrain with saved := true }) with
    control := { active := 2, degraded := true, saves := [⟨⟨1, 1⟩, 11, 50⟩] } }

theorem savedLine_front : Laws.Front savedLine 27 := .of (by decide +kernel) (by decide +kernel) (by decide +kernel)

/-- The cue of platform 1 has priority 3, or the record behind it rests. -/
def topCueLine : State := onLineWith 20 (.ann { cuedAnn with priority := 3 })
def lastCueLine : State := onLineWith 26 (.ann { nextAnn with state := .resting })

theorem topCueLine_front : Laws.Front topCueLine 27 := .of (by decide +kernel) (by decide +kernel) (by decide +kernel)
theorem lastCueLine_front : Laws.Front lastCueLine 27 := .of (by decide +kernel) (by decide +kernel) (by decide +kernel)

/-- The part with tables that START passes. -/
def readyLine : State := { State.reset with tables := someTables }

/-- The same with a fault in section 3. -/
def faultyLine : State := { readyLine with tables := { someTables with sects := someTables.sects.set 3 ⟨0, none, 0⟩ } }

/-- The part OPERATING with an empty pool. -/
def idleLine : State := { readyLine with part := .operating }

/-- No expiry changes it: it has no record, no entry, no lease, no operation and no player at work. -/
theorem idleLine_quiet (c : Instr) (h : isExpiry c = true) : exec c idleLine = .next idleLine := by
  have f : Laws.Front idleLine 0 := .of (by decide +kernel) (by decide +kernel) (by decide +kernel)
  have none_train : ∀ i, idleLine.train? i = none := fun i =>
    Option.eq_none_iff_forall_ne_some.mpr fun _ e => absurd (f.train_lt e) (Nat.not_lt_zero i)
  have none_incident : ∀ i, idleLine.incident? i = none := fun i =>
    Option.eq_none_iff_forall_ne_some.mpr fun _ e => absurd (f.incident_lt e) (Nat.not_lt_zero i)
  have none_ann : ∀ i, idleLine.ann? i = none := fun i =>
    Option.eq_none_iff_forall_ne_some.mpr fun _ e => absurd (f.ann_lt e) (Nat.not_lt_zero i)
  have no_sub : ∀ k, idleLine.substation k = {} := fun k => by
    simp [State.substation, idleLine, readyLine, State.reset, List.getD_eq_getElem?_getD, List.getElem?_replicate]
    split <;> rfl
  have no_op : ∀ i, (idleLine.sect i).op = none := fun i => by
    simp [State.sect, idleLine, readyLine, State.reset, List.getD_eq_getElem?_getD, List.getElem?_replicate]
    split <;> rfl
  have no_player : ∀ p, (idleLine.platform p).playerDl = none := fun p => by
    simp [State.platform, idleLine, readyLine, State.reset, List.getD_eq_getElem?_getD, List.getElem?_replicate]
    split <;> rfl
  cases c <;> first | (cases h; done) | refine congrArg Host.Outcome.next (State.expire_idle (.inr ?_))
  all_goals simp [State.trainDue, State.waitDue, State.leaseDue, State.operationDue, State.escalationDue, State.restDue,
    State.playerDue, none_train, none_incident, none_ann, no_sub, no_op, no_player]

/-! ### Single steps -/

/-- The state after one command. -/
def after (c : Instr) (s : State) : State := match exec c s with | .next t => t | _ => s

/-- The status of the last response. -/
def answered (c : Instr) (s : State) : Option Status := (after c s).responses.getLast?.map Response.status

/-- The examples beside R13, R72 and R75, and the two accumulators of the worked computations of 04. -/
theorem test_diff_goes_round_the_day : diff 100 863900 = -200 ∧ diff 40 863950 = -90 ∧ diff 100 700 = 600 := by decide
theorem test_headway_error_truncates : headwayError 301 0 = 150 ∧ headwayError 0 301 = -150 := by decide
theorem test_accumulator_examples : accumulate { d0 := 300, wh := 192, ws := 64 } 150 (-150) 0 = (96000, false) ∧
    accumulate { d0 := 250, wh := 256, ws := 128 } (-1350) 200 400 = (-153600, false) := by decide
theorem test_epoch_skips_zero : State.nextEpoch 15 = 1 ∧ State.nextEpoch 0 = 1 := by decide

/-- The first worked computation of 04: train T at platform 10 of 24, with F behind it and G ahead. -/
def regulatedLine : State :=
  [{ aTrain 0 9 .running with schedArr := 299850, predicted := some 299990 },
   { aTrain 1 8 .dwelling with depTime := some 300100 },
   { aTrain 2 11 .running with predicted := some 301000 }].foldl State.createTrain
    { idleLine with
      lineTime := 300000
      tables := { someTables with
        header := ⟨24, 16, 5⟩, vals := [(List.replicate 48 { someVals with run := 500 }).set 10 someVals] }
      platforms := (List.replicate 48 {}).set 10 { lastDep := some 298900 } }

theorem test_worked_arrival : ((after (.arrive 100 10 300000) regulatedLine).train? 0).map
      (fun x => (x.lateness, x.depTime, x.depDl, x.saturated, x.clamp)) = some (150, some 300375, some 300375, false, .unclamped) ∧
    (10, Directive.dwell 300375) ∈ (after (.arrive 100 10 300000) regulatedLine).links.queue := by decide +kernel

/-- The lockout example of 05: a trip at a counter of 250. -/
theorem test_worked_lockout :
    let x := (after (.feeder 11 .healthy .opened 402010) (onLine.setTime 402010)).sect 11
    x.state = .lockedOut ∧ x.counter = 255 ∧ x.breaker = .opened ∧ x.op = some (.opening, 402060) := by decide +kernel

theorem test_mask_is_clamped : (after (.setAttentionMask 1 9) State.reset).attention.mask = 7 := by decide +kernel
/-- One RAISED incident on a quiet line; its escalation deadline is 1000. -/
def raisedLine (now : Nat) : State :=
  { idleLine with
    lineTime := now
    pool := { idleLine.pool with
      slots := ⟨1, .incident raisedIncident⟩ :: List.replicate 255 {}, free := List.range' 1 255, incidents := [0] } }

/-- The severity and deadline it has after a command. -/
def raisedAfter (c : Instr) (now : Nat) : Option (Nat × Option Nat) :=
  ((after c (raisedLine now)).incident? 0).map fun c => (c.severity, c.escDl)

/-- A tick takes what is still due at the line time it leaves, and ADJUST TIME what its step passes, at the new line time
(R10, R12). -/
theorem test_tick_takes_what_is_due : raisedAfter .lineTimeTick 1000 = some (4, some 1450) ∧
    raisedAfter .lineTimeTick 999 = some (3, some 1000) := by decide +kernel
theorem test_adjust_takes_what_it_passes : raisedAfter (.adjustTime 1 10) 990 = some (4, some 1450) ∧
    raisedAfter (.adjustTime 1 11) 990 = some (4, some 1451) ∧ raisedAfter (.adjustTime 1 9) 990 = some (3, some 1000) ∧
    raisedAfter (.adjustTime 1 (-1)) 1001 = some (3, some 1000) := by decide +kernel
theorem test_response_frame : responseFrame ⟨12, 7, .wrongState, .empty⟩ = [165, 3, 12, 7, BitVec.ofNat 8 (statusCode .wrongState),
    BitVec.ofNat 8 (256 - (3 + 12 + 7 + statusCode .wrongState))] := by decide +kernel
theorem test_adjust_is_clamped : (after (.adjustTime 1 (-70)) State.reset).lineTime = 863950 := by decide +kernel
theorem test_refusals : answered (.isolate 1 0 false) onLine = some .occupied ∧ answered (.setTime 1 0) onLine = some .wrongState ∧
    answered (.lookup 1 ⟨0, 1⟩) State.reset = some .notConfigured ∧ answered (.lookup 1 ⟨0, 2⟩) onLine = some .staleHandle ∧
    answered (.createTrain 1 100 1 0 0 none) onLine = some .wrongState ∧ answered (.energise 1 5) onLine = some .wrongState ∧
    answered (.clear 1 ⟨18, 1⟩) onLine = some .wrongState ∧ answered (.setTime 1 864000) State.reset = some .outOfRange := by
  decide +kernel
theorem test_escalation : ((after (.escalationExpiry 12) onLine).incident? 12).map (fun c => (c.severity, c.escDl))
    = some (4, some 1450) := by decide +kernel
theorem test_lease_returns_its_units : ((after (.leaseExpiry 1 ⟨6, 1⟩) onLine).substation 1).inUse = 1 := by decide +kernel
theorem test_first_play_rests : ((after (.ended 2) onLine).ann? 21).map (fun a => (a.state, a.plays, a.restDl))
    = some (.resting, 1, some 1600) := by decide +kernel
theorem test_start_deadline : ((after (.startExpiry 1) onLine).platform 1).player = .offline ∧
    (after (.startExpiry 1) onLine).attention.latches.playerOffline = true := by decide +kernel

/-- SUBSTATION UP gives a HELD train its supply back and then ends a SUPPLY TRANSFER amended to HOLD over it: it is checked once,
in step 4 of R84, and no HOLD is queued (R80; log 18). -/
theorem test_one_check_for_two_reasons :
    let s := darkLine.modIncident 25 fun c =>
      { c with location := some (.substation 1), severity := 4, restriction := some ⟨.hold, 2, 2⟩ }
    let t := after (.substation 1 true 1000) s
    (s.held 2, t.held 2, (t.train? 2).map (fun x => (x.state, x.holds)), t.links.queue.filter fun e => e.1 == 2)
      = (true, false, some (.released, {}), [(2, .depart)]) := by decide +kernel

/-- A LOOKUP frame that arrives byte by byte waits; the third frame is not kept (R176); LINK RESTART discards them (R180). -/
theorem test_frames_wait : (([165, 4, 1, 7, 5, 3, 236, 165, 2, 29, 7, 218, 165, 2, 29, 8, 217] : List Byte).foldl State.controlByte
    State.reset).links.waiting = [.lookup 7 ⟨5, 3⟩, .readTime 7, .frameNotKept] := by decide +kernel
theorem test_gap_answer_waits_its_turn : (after .controlFrameByteGap { onLine with links := { onLine.links with
    waiting := [.readTime 7] } }).links.waiting = [.readTime 7, .badFrame] := by decide +kernel
theorem test_restart_discards_frames : (after (.linkRestart 1) { onLine with links := { onLine.links with
    waiting := [.readTime 7, .badFrame] } }).links.waiting = [] := by decide +kernel

/-- No row of the table gives bits, so no word puts a command in front. -/
theorem test_no_row_gives_bits : decodeTableWord 16 165 = none ∧ (State.reset.withFetchWord 16 165).pending = [] := by decide +kernel

/-! ### Hypotheses that are met, statement by statement -/

theorem test_met_StepTakesTheFrontCommand :
    ({ onLine with pending := [.lineTimeTick, .badFrame] } : State).pending = .lineTimeTick :: [.badFrame] ∧
      (onLine.pending = [] ∧ ({ onLine with links := { onLine.links with waiting := [.readTime 1] } } : State).links.waiting
        = .readTime 1 :: []) ∧ onLine.links.waiting = [] := by decide +kernel

theorem test_met_TimesAreTakenRoundTheDay : ((0 < 864000) ∧ (863999 < 864000) ∧ 432000 < 864000) ∧
    300 < diff onLine.lineTime 1301 ∧ diff onLine.lineTime 858999 < -6000 ∧
    (-6000 ≤ diff onLine.lineTime 859000 ∧ diff onLine.lineTime 1300 ≤ 300) := by decide +kernel

theorem test_met_RingSuccessorDistanceAndRange :
    onLine.tables.header.platforms = 6 ∧ (0 < 6 ∧ 5 < 6) ∧ (3 < 4 ∧ 4 < 6 ∧ 0 < 6) := by decide

theorem test_met_DwellAccumulatorSaturates : ({ d0 := 6000 } : PatternVals).d0 ≤ 6000 ∧
    (1023 ≤ 1023 ∧ (-6000 : Int) ≤ -6000 ∧ (-6000 : Int) ≤ 6000) ∧ 6000 ≤ 6000 := by decide

theorem test_met_ClockCommands : (State.ClockOk { onLine with lineTime := 863999 } ∧ onLine.ClockOk ∧ idleLine.ClockOk ∧
    readyLine.ClockOk) ∧ (∀ c, isExpiry c = true → exec c idleLine = .next idleLine) ∧ readyLine.part = .unconfigured ∧
    (-1 : Int) < 0 ∧ readyLine.pool.trains = [] ∧ 863999 < 864000 :=
  ⟨by unfold State.ClockOk; decide +kernel, idleLine_quiet, by decide +kernel⟩

/-- At line time 1000 a deadline is due; at 990 a step of 10 reaches it. -/
theorem test_met_TimeLeavesNoDeadlineBehind : ((onLine.Sound ∧ onLine.Configured) ∧ onLine.ClockOk ∧ onLine.part = .operating ∧
      (∃ t, exec .lineTimeTick onLine = .next t) ∧ onLine.incident? 12 = some raisedIncident ∧ raisedIncident.kind = .operator ∧
      raisedIncident.state = .raised ∧ raisedIncident.escDl = some onLine.lineTime) ∧
    ((onLine.setTime 990).Sound ∧ (onLine.setTime 990).Configured) ∧ (onLine.setTime 990).ClockOk ∧
      (onLine.setTime 990).part = .operating ∧ (∃ t, exec (.adjustTime 1 10) (onLine.setTime 990) = .next t) ∧
      (onLine.setTime 990).incident? 12 = some raisedIncident ∧ raisedIncident.escDl = some 1000 ∧
      0 < diff (onLine.setTime 990).lineTime 1000 ∧ diff (onLine.setTime 990).lineTime 1000 ≤ min 50 10 :=
  ⟨⟨⟨onLine_sound, onLine_configured⟩, by unfold State.ClockOk; decide +kernel, rfl, ⟨_, rfl⟩, by decide +kernel⟩,
    ⟨Laws.sound_of_pool onLine_sound rfl (by unfold State.Sized; decide +kernel) (by decide +kernel),
      ⟨onLine_configured.checked, onLine_configured.empty, onLine_configured.patterns, onLine_configured.trains⟩⟩,
    by unfold State.ClockOk; decide +kernel, rfl, ⟨_, rfl⟩, by decide +kernel⟩

theorem test_met_LoadConfigWritesEntries : State.reset.part = .unconfigured ∧ entryBytes 9 = some 1 ∧
    ([255] : List Byte).length = 1 * 1 ∧ 1 ≤ 1 ∧ 15 + 1 ≤ entryCount 9 ∧
    (Tables.zero.platforms.length = 48 ∧ 47 + [[(0 : Nat)]].length ≤ 48) ∧
    Tables.zero.routes.length = 16 ∧ 15 + [[(255 : Nat)]].length ≤ 16 := by decide +kernel

theorem test_met_StartChecksInOrder : onLine.part = .operating ∧
    (State.reset.part = .unconfigured ∧ State.reset.startFailure = some (0, 0)) ∧ readyLine.startFailure = none ∧
    faultyLine.part = .unconfigured ∧ faultyLine.startFailure = some (2, 3) := by decide +kernel

theorem test_met_StartAndReload : readyLine.Sized ∧ readyLine.part = .unconfigured ∧ readyLine.startFailure = none ∧
    readyLine.platformOk 5 = true ∧ readyLine.sectOk 15 = true ∧ readyLine.substationOk 4 = true ∧
    (idleLine.part = .operating ∧ idleLine.trainCount = 0 ∧ idleLine.incidentCount = 0 ∧ idleLine.annCount = 0) ∧
    onLine.part = .operating ∧ onLine.trainCount ≠ 0 := by unfold State.Sized; decide +kernel

theorem test_met_FramesAreReceivedAndAnswered :
    (([] : List Byte).length ≤ 248 ∧ (List.replicate 248 (165 : Byte)).length ≤ 248) ∧
    (({ onLine with links := { onLine.links with controlRx := .collecting 1 [2, 29, 8], waiting := [.readTime 1, .readTime 2] } }
        : State).links.controlRx = .collecting 1 [2, 29, 8] ∧
      fromControl (decodeControl ([2, 29, 8] ++ [217])) = true ∧ 2 ≤ ([.readTime 1, .readTime 2].filter fromControl).length) ∧
    ((⟨255, 255, .badFrame, .empty⟩ : Response).body = .empty ∧ 255 < 256) ∧
    (onLine.links.waiting = [] ∧ ({ onLine with links := { onLine.links with waiting := [.readTime 1] } } : State).links.waiting ≠ []) ∧
    State.reset.links.badCount < 7 ∧ 863999 < 864000 ∧
    ({ onLine with links := { onLine.links with badCount := 7 } } : State).links.badCount = 7 ∧
    State.reset.part = .unconfigured ∧ onLine.part = .operating ∧ onLine.playerOk 6 = false := by decide +kernel

theorem test_met_DirectivesAreSentAndShadowed : onLine.part = .operating ∧
    onLine.links.queue = (3, .hold) :: [(49, .play 60 none none)] ∧ State.reset.part = .unconfigured ∧
    idleLine.links.queue = [] ∧ 3 < onLine.links.shadows.length ∧ 127 < 128 ∧ (127 ≤ 127 ∧ ∀ e ∈ onLine.links.queue, e.1 ≠ 127) ∧
    49 ≤ 127 ∧ onLine.links.queue = [(3, .hold)] ++ (49, .play 60 none none) :: [] ∧
    ∀ e ∈ [((3 : Nat), Directive.hold)], e.1 ≠ 49 := by decide +kernel

/-- A CUED player with its cue, and an OFFLINE one. -/
theorem test_met_LinkRestartReplaysTheShadows : (onLine.platform 1).player = .cued ∧
    (onLine.platform 1).cue = some ⟨20, 1⟩ ∧ onLine.ann? 20 = some cuedAnn ∧ (onLine.platform 5).player = .offline := by
  decide +kernel

theorem test_met_AttentionIsReadAndMasked :
    (idleLine.latch .poolLow).firstCaller = none ∧ (idleLine.latch .poolLow).firstLatch = some .poolLow ∧
    idleLine.firstCaller = none ∧ idleLine.firstLatch = none ∧ ∃ e ∈ onLine.liveIncidents, e.2.calls onLine.attention.mask = true := by
  decide +kernel

theorem test_met_ReadsReturnTheRecordsAsTheyStand : onLine.part = .operating ∧
    (onLine.current ⟨1, 1⟩ = true ∧ onLine.train? 1 = some dueTrain) ∧
    (onLine.current ⟨12, 1⟩ = true ∧ onLine.incident? 12 = some raisedIncident) ∧
    (onLine.current ⟨19, 1⟩ = true ∧ onLine.ann? 19 = some queuedAnn) ∧ onLine.current ⟨27, 1⟩ = false ∧
    (5 < onLine.tables.header.platforms ∧ onLine.tables.header.platforms ≤ 6) ∧
    (15 < onLine.tables.header.sections ∧ onLine.tables.header.sections ≤ 16) ∧
    4 < onLine.tables.header.substations ∧ onLine.tables.header.substations ≤ 5 := by decide +kernel

theorem test_met_WalkAndFindFollowTheLists : onLine.part = .operating ∧
    onLine.pool.trains = [] ++ 0 :: 1 :: List.range' 2 10 ∧ onLine.current ⟨0, 1⟩ = true ∧
    onLine.pool.incidents = [16, 17, 18, 25, 13, 12, 15, 24] ++ [14] ∧ onLine.current ⟨14, 1⟩ = true ∧
    14 ∉ [16, 17, 18, 25, 13, 12, 15, 24] ∧
    (5 < onLine.tables.header.platforms ∧ onLine.queue 5 = []) ∧ 14 ∉ onLine.pool.trains ∧
    (onLine.train? 0 = some boarding ∧ boarding.vehicle = 100 ∧ boarding.service = 10) ∧
    (onLine.incident? 15 = some alarm ∧ Kind.ofNumber 1 = some alarm.kind ∧ onLine.findLocation 1 1 = some alarm.location) ∧
    (onLine.current ⟨11, 1⟩ = true ∧ onLine.pool.trains = List.range 11 ++ 11 :: [] ∧ 11 ∉ List.range 11) := by decide +kernel

theorem test_met_RetireFreesTheSlot : (onLine.Sound ∧ onLine.NothingOwed) ∧ onLine.part = .operating ∧
    (onLine.current ⟨12, 1⟩ = true ∧ onLine.incident? 12 = some raisedIncident ∧ raisedIncident.state ≠ .cleared) ∧
    (onLine.current ⟨14, 1⟩ = true ∧ onLine.incident? 14 = some clearedIncident ∧ clearedIncident.state = .cleared) ∧
    onLine.current ⟨21, 1⟩ = true ∧ onLine.ann? 21 = some playingAnn ∧ playingAnn.state = .playing :=
  ⟨⟨onLine_sound, onLine_nothing_owed⟩, by decide +kernel⟩

/-- Platform 5 owes an alarm; no slot is free and section 0 owes a lockout; 16 slots are free and a copy is owed. -/
theorem test_met_OwedWorkIsRecordedAndServed : (owingLine.Sound ∧ fullLine.Sound ∧ sixteenLine.Sound) ∧
    (owingLine.part = .operating ∧ 5 < owingLine.tables.header.platforms ∧ 1000 < 864000 ∧
      owingLine.activeAt .platformAlarm (.platform 5) = none ∧ (owingLine.platform 5).owed.first ≠ none) ∧
    (fullLine.part = .operating ∧ fullLine.current ⟨19, 1⟩ = true ∧ fullLine.ann? 19 = some queuedAnn ∧ fullLine.pool.free = [] ∧
      fullLine.incidentCount < 96 ∧ fullLine.activeAt .platformAlarm (.platform 5) = none ∧
      fullLine.owedOrder = [] ++ (.sectionLockout, .sect 0) :: fullLine.owedOrder.tail ∧
      fullLine.owed .sectionLockout (.sect 0) = some 5 ∧ fullLine.activeAt .sectionLockout (.sect 0) = none) ∧
    sixteenLine.part = .operating ∧ sixteenLine.current ⟨19, 1⟩ = true ∧ sixteenLine.ann? 19 = some queuedAnn ∧
      (∀ e ∈ sixteenLine.owedOrder, sixteenLine.owed e.1 e.2 = none) ∧
      sixteenLine.pool.free = 240 :: List.range' 241 15 ∧ (List.range' 241 15).length = 15 ∧
      (sixteenLine.liveIncidents.flatMap fun e => e.2.owedCopies.map fun q => (e.1, q)) = [] ++ (12, 3) :: [] ∧
      ((sixteenLine.queue 3).erase 19).length < 16 ∧
      sixteenLine.incident? 12 = some { raisedIncident with owedCopies := [3] } ∧
      raisedIncident.ann = some ⟨70, 71, 1, .range 3 3, false, false⟩ ∧ 70 ≠ 0 :=
  ⟨⟨owingLine_sound, fullLine_sound, sixteenLine_sound⟩, by decide +kernel⟩

/-- The runner with its lease; the occupant of platform 1 with a waiter; that of platform 3, alone; and the late train, whose
TRAIN OVERDUE is active. -/
theorem test_met_RetireTakesATrainOffTheLine : (onLine.Sound ∧ onLine.QueuesOk ∧ onLine.Alone 4 3) ∧ onLine.part = .operating ∧
    (onLine.current ⟨5, 1⟩ = true ∧ onLine.train? 5 = some runner ∧ runner.state.isRunning = true ∧ runner.lease = some (1, 1)) ∧
    (onLine.current ⟨1, 1⟩ = true ∧ onLine.train? 1 = some dueTrain ∧ dueTrain.state.atPlatform = true ∧
      dueTrain.position = some 1 ∧ (onLine.platform 1).occupant = some ⟨1, 1⟩ ∧
      onLine.liveTrains = onLine.liveTrains.take 10 ++ (10, dueWaiter) :: onLine.liveTrains.drop 11 ∧
      dueWaiter.state.atPlatform = true ∧ dueWaiter.position = some 1 ∧ dueWaiter.holds.conflict = true) ∧
    (onLine.current ⟨4, 1⟩ = true ∧ onLine.train? 4 = some releasedTrain ∧ releasedTrain.position = some 3 ∧
      (onLine.platform 3).occupant = some ⟨4, 1⟩ ∧ ∀ e ∈ onLine.liveTrains, e.2.holds.conflict = true → e.2.position ≠ some 3) ∧
    onLine.current ⟨6, 1⟩ = true ∧ onLine.train? 6 = some lateRunner ∧
    onLine.activeAt .trainOverdue (.train ⟨6, 1⟩) = some (24, overdueIncident) :=
  ⟨⟨onLine_sound, onLine_queues, onLine_front.alone (by decide +kernel)⟩, by decide +kernel⟩

theorem test_met_CreateTrainTakesTheHeadSlot : onLine.Sound ∧ onLine.part = .operating ∧ (1 ≤ 16777215 ∧ 1 ≤ 9999) ∧
    863999 < 864000 ∧ onLine.originOk 5 = true ∧ (∀ e ∈ onLine.liveTrains, e.2.vehicle ≠ 16777215) ∧ onLine.trainCount < 64 ∧
    onLine.pool.free = 27 :: List.range' 28 228 ∧ 16 ≤ (List.range' 28 228).length := ⟨onLine_sound, by decide +kernel⟩

theorem test_met_AmendTrainActsOnFieldsAndHold : (onLine.Sound ∧ onLine.QueuesOk) ∧ onLine.part = .operating ∧
    (onLine.current ⟨0, 1⟩ = true ∧ onLine.train? 0 = some boarding ∧ 9999 ≤ 9999 ∧ onLine.originOk 5 = true ∧ 863999 < 864000 ∧
      boarding.state = .awaiting) ∧
    (onLine.current ⟨1, 1⟩ = true ∧ onLine.train? 1 = some dueTrain ∧ dueTrain.state ≠ .waiting ∧ dueTrain.state ≠ .held) ∧
    (onLine.current ⟨3, 1⟩ = true ∧ onLine.train? 3 = some queuedTrain ∧ queuedTrain.state = .waiting ∧
      queuedTrain.holds.manual = false ∧ ⟨⟨3, 1⟩, 1, 800, some 1000⟩ ∈ (onLine.substation 0).queue ∧
      onLine.activeAt .powerDelay (.substation 0) = none) ∧
    onLine.current ⟨2, 1⟩ = true ∧ onLine.train? 2 = some heldByHand ∧ heldByHand.state = .held ∧
    heldByHand.holds.manual = true ∧ heldByHand.position = some 2 := ⟨⟨onLine_sound, onLine_queues⟩, by decide +kernel⟩

theorem test_met_ForceDepartGoesToTheGate : onLine.ClockOk ∧ onLine.part = .operating ∧
    (onLine.current ⟨1, 1⟩ = true ∧ onLine.train? 1 = some dueTrain ∧ dueTrain.state = .dwelling) ∧
    (onLine.current ⟨2, 1⟩ = true ∧ onLine.train? 2 = some heldByHand ∧ heldByHand.state = .held ∧
      heldByHand.holds.restriction = false ∧ heldByHand.holds.noSupply = false) ∧
    onLine.current ⟨9, 1⟩ = true ∧ onLine.train? 9 = some restricted ∧ restricted.state ≠ .dwelling ∧
    restricted.holds.restriction = true := by unfold State.ClockOk; decide +kernel

/-- Its four outcomes: CONFLICT left, a HOLD over the platform, a permit that is granted, and one that is queued. -/
theorem test_met_ForceDepartGoesToTheGate_outcomes : (pairLine.Sound ∧ heldLine.Sound ∧ onLine.Sound) ∧
    (pairLine.current ⟨2, 1⟩ = true ∧ (pairLine.train? 2).map (fun x => (x.state, x.holds)) =
      some (.held, { manual := true, conflict := true })) ∧
    (heldLine.current ⟨2, 1⟩ = true ∧ heldLine.train? 2 = some heldByHand ∧ heldLine.held 2 = true) ∧
    (onLine.current ⟨1, 1⟩ = true ∧ onLine.held 1 = false ∧ onLine.supplied 1 = true ∧ onLine.supplier 1 = some 1 ∧
      (onLine.substation 1).queue = [] ∧ (onLine.substation 1).inUse + 1 ≤ (onLine.substation 1).budget ∧
      (onLine.sect 1).counter < 128) ∧
    (onLine.current ⟨7, 1⟩ = true ∧ onLine.train? 7 = some dueBehindQueue ∧ onLine.held 0 = false ∧ onLine.supplied 0 = true ∧
      onLine.supplier 0 = some 0 ∧ (onLine.substation 0).queue ≠ []) :=
  ⟨⟨pairLine_front.sound (by unfold State.Sized; decide +kernel) (by decide +kernel),
    heldLine_front.sound (by unfold State.Sized; decide +kernel) (by decide +kernel), onLine_sound⟩, by decide +kernel⟩

theorem test_met_DepartureExpiryChecksTheSchedule : onLine.Sound ∧ onLine.part = .operating ∧ onLine.lineTime = 1000 ∧
    (onLine.train? 8 = some dueHeld ∧ dueHeld.state = .dwelling ∧ dueHeld.position = some 4 ∧ dueHeld.depDl = some 1000 ∧
      dueHeld.holds.manual = true) ∧
    onLine.train? 10 = some dueWaiter ∧ dueWaiter.state = .dwelling ∧ dueWaiter.position = some 1 ∧
    dueWaiter.depDl = some 1000 ∧ dueWaiter.holds = { conflict := true } ∧ onLine.held 1 = false ∧
    onLine.supplied (onLine.platformCfg 1).runSection = true := ⟨onLine_sound, by decide +kernel⟩

/-- Its waiters: with an occupant that is not RELEASED and with one that is. -/
theorem test_met_DepartureExpiryChecksTheSchedule_waiters : ((crowdLine 1).Sound ∧ (crowdLine 3).Sound) ∧
    ((crowdLine 1).platform 1).occupant = some ⟨1, 1⟩ ∧ (crowdLine 1).train? 1 = some dueTrain ∧ dueTrain.state ≠ .released ∧
    ((crowdLine 3).platform 3).occupant = some ⟨4, 1⟩ ∧ (crowdLine 3).train? 4 = some releasedTrain ∧
    releasedTrain.state = .released ∧
    ((crowdLine 3).train? 10).map (fun x => (x.state, x.position, x.depDl, x.holds)) =
      some (.dwelling, some 3, some 1000, { manual := true, conflict := true }) :=
  ⟨⟨crowdLine_sound 1 (.inl rfl), crowdLine_sound 3 (.inr rfl)⟩, by decide +kernel⟩

theorem test_met_DepartureExpiryChecksTheSchedule_permit : onLine.Sound ∧ onLine.part = .operating ∧ onLine.lineTime = 1000 ∧
    (onLine.train? 1 = some dueTrain ∧ dueTrain.state = .dwelling ∧ dueTrain.position = some 1 ∧
      dueTrain.depDl = some 1000 ∧ dueTrain.holds = {} ∧ onLine.held 1 = false ∧
      onLine.supplied (onLine.platformCfg 1).runSection = true ∧ onLine.supplier (onLine.platformCfg 1).runSection = some 1 ∧
      (onLine.substation 1).queue = [] ∧ (onLine.substation 1).inUse + 1 = (onLine.substation 1).budget) ∧
    onLine.train? 7 = some dueBehindQueue ∧ dueBehindQueue.state = .dwelling ∧ dueBehindQueue.position = some 0 ∧
    dueBehindQueue.depDl = some 1000 ∧ dueBehindQueue.holds = {} ∧ onLine.held 0 = false ∧
    onLine.supplied (onLine.platformCfg 0).runSection = true ∧ onLine.supplier (onLine.platformCfg 0).runSection = some 0 ∧
    (onLine.substation 0).queue ≠ [] ∧ 0 < Config.substationEntries := ⟨onLine_sound, by decide +kernel⟩

theorem test_met_ArriveAtTheOriginBeginsTheDwell : (onLine.Sound ∧ onLine.VehiclesOnce) ∧ onLine.part = .operating ∧
    (onLine.train? 0 = some boarding ∧ boarding.state = .awaiting ∧ boarding.vehicle = 100 ∧ boarding.origin = 5 ∧
      5 < onLine.tables.header.platforms ∧ (onLine.platform 5).occupant = none) ∧
    onLine.train? 11 = some boardingBehind ∧ boardingBehind.state = .awaiting ∧ boardingBehind.vehicle = 111 ∧
    boardingBehind.origin = 0 ∧ (onLine.platform 0).occupant ≠ none ∧ 1000 < 864000 :=
  ⟨⟨onLine_sound, onLine_vehicles⟩, by decide +kernel⟩

/-- The runner may arrive at the next platform, and at the fourth ahead, the bound of three skipped; platform 1 is occupied. -/
theorem test_met_ArriveEndsARun : (onLine.Sound ∧ onLine.QueuesOk ∧ onLine.VehiclesOnce ∧ onLine.NothingOwed ∧
      onLine.PlainHolds) ∧
    onLine.part = .operating ∧ onLine.train? 5 = some runner ∧ runner.state = .running ∧ runner.position = some 0 ∧
    runner.vehicle = 105 ∧
    (0 < onLine.tables.header.platforms ∧ 4 < onLine.tables.header.platforms ∧ onLine.dist (onLine.next 0) 1 = 0 ∧
      onLine.dist (onLine.next 0) 4 = 3) ∧
    (∀ j, j < 3 → (onLine.platformCfg ((onLine.next 0 + j) % onLine.tables.header.platforms)).terminus = false) ∧
    ((onLine.platform 1).occupant ≠ none ∧ (onLine.platform 4).occupant = none) ∧
    (onLine.vals 4).dmin ≤ (onLine.vals 4).dmax ∧ 1000 < 864000 :=
  ⟨⟨onLine_sound, onLine_queues, onLine_vehicles, onLine_nothing_owed, onLine_plain_holds⟩, by decide +kernel⟩

/-- Platforms with and without a last departure; a follower at platform 1, a running one at platform 0 and none at platform 1 of
an empty line; a DELAY over platform 4. -/
theorem test_met_DwellIsComputedInStages : (regulatedLine.platform 10).lastDep = some 298900 ∧ (onLine.platform 1).lastDep = none ∧
    (12, raisedIncident) ∈ onLine.liveIncidents ∧ raisedIncident.state ≠ .cleared ∧
    raisedIncident.restriction = some ⟨.delay 120, 4, 4⟩ ∧ onLine.covers 4 4 4 = true ∧
    ((regulatedLine.follower 0 10).map Prod.fst = some 1 ∧ idleLine.follower 0 1 = none) ∧ runner.state.isRunning = true ∧
    dueTrain.state.atPlatform = true ∧ (onLine.vals 1).dmin ≤ (onLine.vals 1).dmax := by decide +kernel

/-- A released train whose approach deadline lies ahead at time 1000 and has come at time 700, with room for the announcement;
a train that departs towards a platform without a lead; and a queued one. -/
theorem test_met_DepartBeginsARun : (onLine.Sound ∧ onLine.QueuesOk ∧ onLine.VehiclesOnce) ∧ onLine.part = .operating ∧
    (onLine.train? 4 = some releasedTrain ∧ releasedTrain.state = .released ∧ releasedTrain.position = some 3 ∧
      releasedTrain.vehicle = 104 ∧ 3 < onLine.tables.header.platforms ∧ releasedTrain.holds.conflict = false ∧
      (∀ e ∈ onLine.liveTrains, e.1 ≠ 4 → State.waitsAt e.2 3 = false) ∧
      (onLine.platformCfg (onLine.next 3)).approachLead = 600 ∧ (onLine.platformCfg (onLine.next 3)).player = true ∧
      600 < diff onLine.lineTime (later (onLine.effective 1000).1 (onLine.vals 3).run) ∧
      diff onLine.lineTime (later (onLine.effective 700).1 (onLine.vals 3).run) = 600 ∧ 17 ≤ onLine.freeCount ∧
      (onLine.queue (onLine.next 3)).length < 16) ∧
    (onLine.train? 8 = some dueHeld ∧ dueHeld.state.atPlatform = true ∧ dueHeld.position = some 4 ∧ dueHeld.vehicle = 108 ∧
      (onLine.platformCfg (onLine.next 4)).approachLead = 0) ∧
    onLine.train? 3 = some queuedTrain ∧ queuedTrain.state.atPlatform = true ∧ queuedTrain.state ≠ .released ∧
    queuedTrain.position = some 0 ∧ queuedTrain.vehicle = 103 ∧ 1000 < 864000 :=
  ⟨⟨onLine_sound, onLine_queues, onLine_vehicles⟩, by decide +kernel⟩

/-- Among them the ARRIVE of the runner at its own position, and past three platforms. -/
theorem test_met_PassagesNoTrainTakes : onLine.part = .operating ∧ 1000 < 864000 ∧ onLine.tables.header.platforms ≤ 6 ∧
    (onLine.trainByVehicle 105 = some (5, runner) ∧ runner.state.atPlatform = false ∧ runner.state.isRunning = true ∧
      runner.position = some 0 ∧ 3 < onLine.dist (onLine.next 0) 5) ∧
    (onLine.trainByVehicle 101 = some (1, dueTrain) ∧ dueTrain.state.atPlatform = true ∧ dueTrain.position ≠ some 2) ∧
    (onLine.trainByVehicle 100 = some (0, boarding) ∧ boarding.state = .awaiting ∧ boarding.origin ≠ 4) ∧
    5 < onLine.tables.header.platforms ∧ 5 < onLine.platforms.length ∧ onLine.trainByVehicle 16777215 = none := by decide +kernel

theorem test_met_OverdueAndApproachExpiries : onLine.Sound ∧ onLine.part = .operating ∧ onLine.train? 5 = some runner ∧
    runner.position = some 0 ∧ onLine.lineTime = 1000 ∧ runner.state = .running ∧ runner.overdueDl = some 1000 ∧
    runner.approachDl = some 1000 ∧ runner.predicted = some 1800 ∧ 17 ≤ onLine.freeCount ∧
    (onLine.queue (onLine.next 0)).length < 16 := ⟨onLine_sound, by decide +kernel⟩

theorem test_met_RaiseIncidentCreatesTheRecord : onLine.Sound ∧ onLine.part = .operating ∧ (1 ≤ 7 ∧ 7 ≤ 7) ∧
    onLine.raiseLocation 1 5 = some (some (.platform 5)) ∧ onLine.restrictionOf ⟨2, 6000, 4, 1⟩ = some (some ⟨.delay 6000, 4, 1⟩) ∧
    onLine.raiseAnnouncement (some (.platform 5)) ⟨2, 4095, 0, 3, 4, 1, true, false⟩
      = some (some ⟨4095, 0, 3, .range 4 1, true, false⟩) ∧
    onLine.incidentCount < 96 ∧ onLine.pool.free = 27 :: List.range' 28 228 ∧ 16 ≤ (List.range' 28 228).length :=
  ⟨onLine_sound, by decide +kernel⟩

theorem test_met_AmendIncidentSetsTheFieldsGiven : (onLine.Sound ∧ onLine.NothingOwed) ∧ onLine.part = .operating ∧
    (onLine.current ⟨14, 1⟩ = true ∧ onLine.incident? 14 = some clearedIncident ∧ clearedIncident.state = .cleared) ∧
    onLine.current ⟨12, 1⟩ = true ∧ onLine.incident? 12 = some raisedIncident ∧ raisedIncident.state ≠ .cleared ∧
    (1 ≤ 7 ∧ 7 ≤ 7) ∧ checkGiven onLine.restrictionOf (some ⟨1, 0, 5, 5⟩) = some (some (some ⟨.hold, 5, 5⟩)) ∧
    checkGiven onLine.amendedAnnouncement (some ⟨0, 0, 0, 0, 0, 0, false, false⟩) = some (some none) :=
  ⟨⟨onLine_sound, onLine_nothing_owed⟩, by decide +kernel⟩

theorem test_met_AcknowledgeAndClear : onLine.Sound ∧ onLine.part = .operating ∧
    (onLine.current ⟨12, 1⟩ = true ∧ onLine.incident? 12 = some raisedIncident ∧ raisedIncident.state = .raised ∧
      raisedIncident.severity < 7 ∧ raisedIncident.causeEnded = false) ∧
    (onLine.current ⟨18, 1⟩ = true ∧ onLine.incident? 18 = some endedIncident ∧ endedIncident.state = .raised ∧
      7 ≤ endedIncident.severity ∧ endedIncident.causeEnded = true) ∧
    (onLine.current ⟨13, 1⟩ = true ∧ onLine.incident? 13 = some ackedIncident ∧ ackedIncident.state = .acknowledged) ∧
    onLine.current ⟨14, 1⟩ = true ∧ onLine.incident? 14 = some clearedIncident ∧ clearedIncident.state = .cleared :=
  ⟨onLine_sound, by decide +kernel⟩

theorem test_met_EscalationFollowsTheLimits : onLine.Sound ∧ onLine.part = .operating ∧
    onLine.incident? 12 = some raisedIncident ∧ raisedIncident.state = .raised ∧ raisedIncident.escDl = some 1000 ∧
    onLine.lineTime = 1000 := ⟨onLine_sound, by decide +kernel⟩

theorem test_met_PlatformAlarmRaisesAndEnds : (onLine.Sound ∧ onLine.NothingOwed) ∧ onLine.part = .operating ∧ 1000 < 864000 ∧
    (5 < onLine.tables.header.platforms ∧ onLine.activeAt .platformAlarm (.platform 5) = none ∧ onLine.incidentCount < 96 ∧
      onLine.pool.free = 27 :: List.range' 28 228) ∧
    (onLine.activeAt .platformAlarm (.platform 1) = some (15, alarm) ∧ alarm.severity ≠ 7) ∧
    (onLine.activeAt .platformAlarm (.platform 2) = some (16, topAlarm) ∧ topAlarm.state = .raised ∧ topAlarm.severity = 7) ∧
    (onLine.activeAt .platformAlarm (.platform 3) = some (17, ackedAlarm) ∧ ackedAlarm.state = .acknowledged) ∧
    onLine.tables.header.platforms ≤ 6 := ⟨⟨onLine_sound, onLine_nothing_owed⟩, by decide +kernel⟩

theorem test_met_AnnouncementsAreCreatedAndAmended : (onLine.Sound ∧
      ∀ p, (onLine.platform p).player = .idle → onLine.queuedOn p = none) ∧ onLine.part = .operating ∧
    (onLine.playerOk 5 = true ∧ (1 ≤ 4095 ∧ 4095 ≤ 4095) ∧ 3 ≤ 3 ∧ 99 ≤ 99 ∧
      modeOf ⟨1, 6001, 16⟩ = some (.repeated 6000 15) ∧ (onLine.queue 5).length < 16 ∧
      onLine.pool.free = 27 :: List.range' 28 228 ∧ 16 ≤ (List.range' 28 228).length ∧
      onLine.current ⟨1, 1⟩ = true ∧ (onLine.train? 1).isSome = true) ∧
    ((⟨0, 0, 0⟩ : ModeArg).code = 0 ∧ (⟨1, 99, 0⟩ : ModeArg).code = 1 ∧ 2 ≤ (⟨2, 0, 0⟩ : ModeArg).code) ∧
    onLine.current ⟨19, 1⟩ = true ∧ onLine.ann? 19 = some queuedAnn ∧ 4095 ≤ 4095 ∧ (99 ≤ 99 ∨ 99 = 255) ∧
    modeIfGiven (some ⟨0, 0, 0⟩) = some (some .once) := ⟨⟨onLine_sound, onLine_players.idle⟩, by decide +kernel⟩

theorem test_met_RestExpiryRequeuesAsTheNewest : onLine.Sound ∧ onLine.part = .operating ∧ onLine.ann? 22 = some restingAnn ∧
    restingAnn.state = .resting ∧ restingAnn.restDl = some 1000 ∧ onLine.lineTime = 1000 :=
  ⟨onLine_sound, by decide +kernel⟩

theorem test_met_PlayersStartAndComeBack : onLine.Sound ∧ onLine.part = .operating ∧
    (onLine.playerOk 1 = true ∧ (onLine.platform 1).player = .cued ∧ (onLine.platform 1).cue = some ⟨20, 1⟩ ∧
      onLine.ann? 20 = some cuedAnn ∧ cuedAnn.platform = 1) ∧
    (onLine.playerOk 2 = true ∧ (onLine.platform 2).player = .playing ∧ (onLine.platform 2).cue = some ⟨21, 1⟩ ∧
      onLine.ann? 21 = some playingAnn ∧ playingAnn.platform = 2) ∧
    (onLine.playerOk 3 = true ∧ (onLine.platform 3).player = .idle ∧ onLine.queuedOn 3 = none) ∧
    (onLine.playerOk 5 = true ∧ (onLine.platform 5).player = .offline ∧ onLine.queuedOn 5 = none) ∧
    onLine.playerOk 0 = true ∧ (onLine.platform 0).player = .stopping ∧ onLine.queue 0 = [] ++ 19 :: [] ∧
    onLine.ann? 19 = some queuedAnn ∧ queuedAnn.state = .queued := ⟨onLine_sound, by decide +kernel⟩

theorem test_met_PlayersGoOffline : onLine.Sound ∧ onLine.part = .operating ∧
    (onLine.playerOk 1 = true ∧ (onLine.platform 1).player = .cued ∧ (onLine.platform 1).cue = some ⟨20, 1⟩ ∧
      onLine.ann? 20 = some cuedAnn ∧ cuedAnn.platform = 1 ∧ (onLine.platform 1).playerDl = some 1000) ∧
    (onLine.playerOk 0 = true ∧ (onLine.platform 0).player = .stopping ∧ (onLine.platform 0).playerDl = some 1000) ∧
    onLine.lineTime = 1000 ∧ (onLine.playerOk 3 = true ∧ (onLine.platform 3).player = .idle ∧ onLine.queuedOn 3 = none) ∧
    onLine.playerOk 2 = true ∧ (onLine.platform 2).player = .playing ∧ onLine.playerOk 5 = true ∧
    (onLine.platform 5).player = .offline := ⟨onLine_sound, by decide +kernel⟩

/-- A first of three plays, and the only play of a ONCE record. -/
theorem test_met_EndedCompletesAPlay : (onLine.Sound ∧ onLine.NothingOwed) ∧ onLine.part = .operating ∧
    (onLine.playerOk 2 = true ∧ (onLine.platform 2).player = .playing ∧ (onLine.platform 2).cue = some ⟨21, 1⟩ ∧
      onLine.ann? 21 = some playingAnn ∧ playingAnn.platform = 2 ∧ playingAnn.state = .playing ∧
      playingAnn.mode = .repeated 600 3 ∧ playingAnn.plays + 1 < 3) ∧
    (onLine.playerOk 4 = true ∧ (onLine.platform 4).player = .playing ∧ (onLine.platform 4).cue = some ⟨23, 1⟩ ∧
      onLine.ann? 23 = some lastAnn ∧ lastAnn.platform = 4 ∧ lastAnn.state = .playing ∧ lastAnn.mode = .once) ∧
    onLine.playerOk 0 = true ∧ (onLine.platform 0).player = .stopping ∧
    (onLine.playerOk 3 = true ∧ (onLine.platform 3).player = .idle ∧ onLine.queuedOn 3 = none) ∧
    onLine.playerOk 1 = true ∧ (onLine.platform 1).player = .cued ∧ (onLine.platform 5).player = .offline :=
  ⟨⟨onLine_sound, onLine_nothing_owed⟩, by decide +kernel⟩

/-- A cue whose PLAY is still queued, one that plays, and one of priority 3; and the retirement of a SELECTED record with and
without a QUEUED one behind it, and with its PLAY sent. -/
theorem test_met_CuesAreCutAndRetired : (onLine.Sound ∧ onLine.Ordered ∧ onLine.PrioritiesOk ∧ onLine.NothingOwed ∧
      topCueLine.Sound ∧ topCueLine.Ordered ∧ topCueLine.PrioritiesOk ∧ lastCueLine.Sound ∧ lastCueLine.NothingOwed) ∧ onLine.part = .operating ∧
    modeOf ⟨0, 0, 0⟩ = some .once ∧
    (onLine.playerOk 1 = true ∧ (onLine.queue 1).length < 16 ∧ onLine.pool.free = 27 :: List.range' 28 228 ∧
      (onLine.platform 1).player ≠ .idle ∧ (onLine.platform 1).cue = some ⟨20, 1⟩ ∧ onLine.ann? 20 = some cuedAnn ∧
      cuedAnn.platform = 1 ∧ cuedAnn.priority < 3 ∧ cuedAnn.state = .selected ∧
      (48 + 1, Directive.play 60 none none) ∈ onLine.links.queue) ∧
    (onLine.playerOk 2 = true ∧ (onLine.platform 2).player = .playing ∧ (onLine.platform 2).cue = some ⟨21, 1⟩ ∧
      onLine.ann? 21 = some playingAnn ∧ playingAnn.priority < 3 ∧ playingAnn.state ≠ .selected) ∧
    (topCueLine.part = .operating ∧ topCueLine.ann? 20 = some { cuedAnn with priority := 3 }) ∧
    (onLine.current ⟨20, 1⟩ = true ∧ 26 ∈ onLine.queue 1 ∧ onLine.ann? 26 = some nextAnn ∧ nextAnn.state = .queued) ∧
    (lastCueLine.part = .operating ∧ lastCueLine.current ⟨20, 1⟩ = true ∧ lastCueLine.ann? 20 = some cuedAnn ∧
      (∀ j ∈ lastCueLine.queue 1, ∀ b ∈ lastCueLine.ann? j, b.state ≠ .queued)) ∧
    ({ onLine with links := { onLine.links with queue := [] } } : State).links.queue = [] :=
  ⟨⟨onLine_sound, onLine_ordered, onLine_priorities, onLine_nothing_owed,
      topCueLine_front.sound (by unfold State.Sized; decide +kernel) (by decide +kernel), Laws.ordered_of rfl (by decide +kernel),
      topCueLine_front.prioritiesOk (by decide +kernel),
      lastCueLine_front.sound (by unfold State.Sized; decide +kernel) (by decide +kernel),
      lastCueLine_front.nothingOwed (by decide +kernel) (by decide +kernel) (by decide +kernel) (by decide +kernel)⟩,
    by decide +kernel⟩

/-- Section 0 is occupied, section 1 is not, and sections 2 to 4 are ISOLATED, LOCKED OUT and RECOVERING. -/
theorem test_met_SectionRequestsTakeEffect : onLine.Sound ∧ onLine.part = .operating ∧ 15 < onLine.tables.header.sections ∧
    (∀ i ∈ [0, 1, 2, 3, 4], (onLine.sect i).op = none) ∧
    ((onLine.sect 0).state = .energised ∧ (onLine.sect 0).occupants = 1) ∧
    ((onLine.sect 1).state = .energised ∧ (onLine.sect 1).occupants = 0) ∧ (onLine.sect 2).state = .isolated ∧
    (onLine.sect 3).state = .lockedOut ∧ (onLine.sect 4).state = .recovering ∧ (onLine.sect 4).occupants = 0 :=
  ⟨onLine_sound, by decide +kernel⟩

/-- Sections 15 and 11 stand at 247 and 250, one trip within and one past the range. -/
theorem test_met_FeederMovesTheFaultCounter : onLine.Sound ∧ onLine.part = .operating ∧ 15 < onLine.tables.header.sections ∧
    1000 < 864000 ∧ (∀ i ∈ [3, 11, 15], (onLine.sect i).op = none ∧ (onLine.sect i).counter ≤ 255) ∧
    ((onLine.sect 15).counter + 8 = 255 ∧ (onLine.sect 15).breaker = .closed ∧ (onLine.sect 15).state = .energised) ∧
    (255 < (onLine.sect 11).counter + 8 ∧ (onLine.sect 11).breaker = .closed ∧ (onLine.sect 11).state = .energised) ∧
    (onLine.sect 3).state = .lockedOut := ⟨onLine_sound, by decide +kernel⟩

theorem test_met_FeederCompletesAndRecovers : onLine.Sound ∧ onLine.part = .operating ∧ 13 < onLine.tables.header.sections ∧
    1000 < 864000 ∧ ((onLine.sect 5).state = .isolating ∧ (onLine.sect 5).op = some (.opening, 1000)) ∧
    ((onLine.sect 6).state = .energising ∧ (onLine.sect 6).op = some (.closing, 1000)) ∧
    (∀ i ∈ [4, 12, 13], (onLine.sect i).state = .recovering ∧ (onLine.sect i).op = none) ∧
    ((onLine.sect 4).recovery = 14 ∧ onLine.up (onLine.sectCfg 4).primary = true) ∧
    ((onLine.sect 12).recovery = 15 ∧ onLine.up (onLine.sectCfg 12).primary = true) ∧
    onLine.up (onLine.sectCfg 13).primary = false := ⟨onLine_sound, by decide +kernel⟩

theorem test_met_OperationExpiryReturnsTheState : onLine.Sound ∧ onLine.part = .operating ∧ 8 < onLine.sects.length ∧
    onLine.lineTime = 1000 ∧
    ((onLine.sect 5).op = some (.opening, 1000) ∧ (onLine.sect 5).state = .isolating ∧ (onLine.sect 5).counter + 8 ≤ 255) ∧
    ((onLine.sect 7).op = some (.closing, 1000) ∧ (onLine.sect 7).state = .recovering) ∧
    (onLine.sect 8).op = some (.opening, 1000) ∧ (onLine.sect 8).state = .lockedOut := ⟨onLine_sound, by decide +kernel⟩

/-- An operation whose expiry takes the counter past 255, in a section into which a train runs with a lease. -/
theorem test_met_OperationExpiryReturnsTheState_lockout :
    let s : State := { onLine with sects := onLine.sects.set 1 { state := .isolating, op := some (.opening, 1000), counter := 248 } }
    s.Sound ∧ s.QueuesOk ∧ s.part = .operating ∧ 1 < s.sects.length ∧ s.lineTime = 1000 ∧ (s.sect 1).op = some (.opening, 1000) ∧
      (s.sect 1).state = .isolating ∧ 255 < (s.sect 1).counter + 8 ∧ s.train? 6 = some lateRunner ∧
      lateRunner.state.isRunning = true ∧ lateRunner.lease.isSome = true ∧ s.runSectionOf lateRunner = 1 :=
  ⟨Laws.sound_of_pool onLine_sound rfl (by unfold State.Sized; decide +kernel) (by decide +kernel),
    ⟨onLine_queues.waiting, onLine_queues.once⟩, by decide +kernel⟩

/-- Substations 0, 1 and 3 are UP, 2 and 4 DOWN; sections 0, 10, 9 and 14 move at the DOWN of 0 and 3 and the UP of 2 and 4. -/
theorem test_met_SubstationReportMovesItsSections : onLine.Sound ∧ onLine.part = .operating ∧
    4 < onLine.tables.header.substations ∧ 1000 < 864000 ∧ onLine.up 0 = true ∧ onLine.up 3 = true ∧ onLine.up 2 = false ∧
    onLine.up 4 = false ∧
    (onLine.activeAt .supplyTransfer (.substation 0) = none ∧ onLine.owed .supplyTransfer (.substation 0) = none) ∧
    onLine.activeAt .supplyTransfer (.substation 2) = some (25, transferIncident) ∧
    ((onLine.sectCfg 0).primary = 0 ∧ (onLine.sect 0).state = .energised ∧ (onLine.sectCfg 0).fallback = none) ∧
    ((onLine.sectCfg 10).primary ≠ 3 ∧ (onLine.sectCfg 10).fallback = some 3 ∧ (onLine.sect 10).state = .onFallback) ∧
    ((onLine.sectCfg 9).primary = 2 ∧ (onLine.sect 9).state = .dead) ∧
    ((onLine.sectCfg 14).primary ≠ 4 ∧ (onLine.sectCfg 14).fallback = some 4 ∧ (onLine.sect 14).state = .dead ∧
      onLine.up (onLine.sectCfg 14).primary = false) ∧
    (onLine.sect 2).state = .isolated ∧ onLine.sectOk 15 = true := ⟨onLine_sound, by decide +kernel⟩

theorem test_met_WaitAndLeaseExpiries : (onLine.Sound ∧ onLine.QueuesOk) ∧ onLine.part = .operating ∧
    1 < onLine.substations.length ∧ ⟨⟨3, 1⟩, 1, 800, some 1000⟩ ∈ (onLine.substation 0).queue ∧
    ⟨⟨6, 1⟩, 2, 1000⟩ ∈ (onLine.substation 1).leases ∧ (onLine.substation 1).queue = [] ∧ onLine.lineTime = 1000 ∧
    onLine.current ⟨6, 1⟩ = true ∧ onLine.train? 6 = some lateRunner :=
  ⟨⟨onLine_sound, onLine_queues⟩, by decide +kernel⟩

/-- A lease due at a queue, with no POWER DELAY and with one; every queue at a change of pattern; and a primary that goes DOWN. -/
theorem test_met_GateServesItsQueues : (((gateLine transferIncident).Sound ∧ (gateLine transferIncident).QueuesOk) ∧
      ((gateLine delayIncident).Sound ∧ (gateLine delayIncident).QueuesOk) ∧ (onLine.Sound ∧ onLine.QueuesOk) ∧
      movingLine.Sound ∧ movingLine.QueuesOk ∧ movingLine.Configured ∧ ∀ j, onLine.activeAt .powerDelay (.substation j) = none) ∧
    ((gateLine transferIncident).part = .operating ∧ ⟨⟨6, 1⟩, 2, 1000⟩ ∈ ((gateLine transferIncident).substation 0).leases ∧
      (gateLine transferIncident).lineTime = 1000 ∧ ((gateLine transferIncident).substation 0).queue ≠ [] ∧
      (gateLine transferIncident).activeAt .powerDelay (.substation 0) = none) ∧
    ((gateLine delayIncident).part = .operating ∧ ⟨⟨6, 1⟩, 2, 1000⟩ ∈ ((gateLine delayIncident).substation 0).leases ∧
      (gateLine delayIncident).activeAt .powerDelay (.substation 0) = some (25, delayIncident) ∧
      ((gateLine delayIncident).substation 0).queue.length = 1 ∧ 1 + 1 ≤ ((gateLine delayIncident).substation 0).budget) ∧
    (onLine.part = .operating ∧ 1 < 4 ∧ onLine.control.degraded = false ∧ (onLine.patternLine 1).degraded = false ∧
      0 < onLine.tables.header.substations) ∧
    (movingLine.part = .operating ∧ 1000 < 864000 ∧ 1 < movingLine.tables.header.sections ∧ (movingLine.sect 1).state = .energised ∧
      (movingLine.sectCfg 1).primary = 1 ∧ (movingLine.sectCfg 1).fallback = some 3 ∧ movingLine.up 1 = true ∧
      movingLine.up 3 = true ∧ (∀ j, j < movingLine.tables.header.sections → j ≠ 1 →
        (movingLine.sectCfg j).primary ≠ 1 ∧ (movingLine.sectCfg j).fallback ≠ some 1) ∧
      movingLine.activeAt .powerDelay (.substation 1) = none ∧ movingLine.activeAt .powerDelay (.substation 3) = none ∧
      (movingLine.substation 1).queue.filter (fun e => (movingLine.train? e.train.slot).any fun x => movingLine.runSectionOf x == 1)
        ≠ []) := by
  refine ⟨⟨⟨gateLine_sound _ (.inl rfl), gateLine_queues _⟩, ⟨gateLine_sound _ (.inr rfl), gateLine_queues _⟩,
    ⟨onLine_sound, onLine_queues⟩, movingLine_front.sound (by unfold State.Sized; decide +kernel) (by decide +kernel),
    movingLine_queues, movingLine_front.configured (by decide +kernel), fun j => List.find?_eq_none.mpr fun e he => ?_⟩,
    by decide +kernel⟩
  have h := (by decide +kernel : ∀ e ∈ onLine.liveIncidents, (e.2.kind == .powerDelay) = false) e he
  simp [h]

/-- A HOLD that begins at platform 0 and one that ends at platform 2; a section that loses its supply and one that regains it. -/
theorem test_met_HoldsAndSupplyReachTheTrains :
    ((onLine.Sound ∧ onLine.QueuesOk ∧ onLine.NothingOwed ∧ onLine.PlainHolds) ∧
      (heldLine.Sound ∧ heldLine.QueuesOk ∧ heldLine.NothingOwed ∧ heldLine.PlainHolds) ∧
      darkLine.Sound ∧ darkLine.QueuesOk ∧ darkLine.NothingOwed ∧ darkLine.PlainHolds) ∧
    (onLine.part = .operating ∧ onLine.train? 3 = some queuedTrain ∧ queuedTrain.position = some 0 ∧
      queuedTrain.state = .waiting ∧ queuedTrain.lease = none ∧ onLine.train? 7 = some dueBehindQueue ∧
      dueBehindQueue.state = .dwelling ∧ onLine.held 0 = false ∧
      (after (.raiseIncident 1 3 0 0 ⟨1, 0, 0, 0⟩ ⟨1, 0, 0, 0, 0, 0, false, false⟩) onLine).held 0 = true ∧
      onLine.supplied 0 = true ∧ (after (.substation 0 false 1000) onLine).supplied 0 = false) ∧
    (heldLine.part = .operating ∧ heldLine.train? 9 = some restricted ∧ restricted.position = some 2 ∧ restricted.state = .held ∧
      restricted.holds.restriction = true ∧ heldLine.held 2 = true ∧ (after (.clear 1 ⟨12, 1⟩) heldLine).held 2 = false) ∧
    darkLine.part = .operating ∧ darkLine.train? 2 = some darkTrain ∧ darkTrain.position = some 2 ∧ darkTrain.state = .held ∧
    darkTrain.holds.noSupply = true ∧ (darkLine.platformCfg 2).runSection = 1 ∧ darkLine.supplied 1 = false ∧
    (after (.substation 1 true 1000) darkLine).supplied 1 = true := by
  refine ⟨⟨⟨onLine_sound, onLine_queues, onLine_nothing_owed, onLine_plain_holds⟩,
    ⟨heldLine_front.sound (by unfold State.Sized; decide +kernel) (by decide +kernel),
      queuesOk_like (x := queuedTrain) rfl (by decide +kernel) (by decide +kernel) rfl,
      heldLine_front.nothingOwed (by decide +kernel) (by decide +kernel) (by decide +kernel) (by decide +kernel),
      heldLine_front.plainHolds (by decide +kernel)⟩,
    darkLine_front.sound (by unfold State.Sized; decide +kernel) (by decide +kernel), ?_,
    darkLine_front.nothingOwed (by decide +kernel) (by decide +kernel) (by decide +kernel) (by decide +kernel),
    darkLine_front.plainHolds (by decide +kernel)⟩, by decide +kernel⟩
  refine Laws.queuesOk_of (fun b hb e he => ?_) (by decide +kernel)
  have h : b.queue = [] ∨ b.queue = [⟨⟨3, 1⟩, 1, 800, some 1000⟩] :=
    (by decide +kernel : ∀ b ∈ darkLine.substations, b.queue = [] ∨ b.queue = [⟨⟨3, 1⟩, 1, 800, some 1000⟩]) b hb
  rcases h with h | h <;> simp only [h, List.not_mem_nil, List.mem_singleton] at he
  subst he
  exact ⟨by decide +kernel, queuedTrain, by decide +kernel, rfl⟩

theorem test_met_PatternsChangeAndResume : (onLine.Sound ∧ onLine.QueuesOk) ∧
    (degradedLine.Sound ∧ degradedLine.QueuesOk) ∧ onLine.part = .operating ∧ 3 < 4 ∧
    onLine.control.degraded = false ∧ (onLine.patternLine 1).degraded = false ∧ (onLine.patternLine 3).degraded = true ∧
    degradedLine.part = .operating ∧ degradedLine.control.degraded = true ∧ (degradedLine.patternLine 3).degraded = true ∧
    onLine.train? 0 = some boarding ∧ onLine.train? 5 = some runner ∧
    (degradedLine.control.saves.map fun e => e.train.slot).Nodup ∧
    degradedLine.train? 1 = some dueTrain ∧ degradedLine.train? 5 = some runner ∧ degradedLine.train? 6 = some lateRunner ∧
    degradedLine.current ⟨1, 1⟩ = true ∧
    degradedLine.control.saves.find? (fun e => e.train == ⟨1, 1⟩) = some ⟨⟨1, 1⟩, 11, 50⟩ ∧ 1 ≤ 9999 :=
  ⟨⟨onLine_sound, onLine_queues⟩, ⟨degradedLine_sound, degradedLine_queues⟩, by decide +kernel⟩

/-- Witnesses for the invariants: the line with its lines judged and a tick in front steps. -/
def tickingLine : State := { onLine.judgeLines with pending := [.lineTimeTick] }

theorem test_met_LinesTargetsAndCountersAreKept : (tickingLine.LinesJudged ∧ tickingLine.OnePerTarget ∧ tickingLine.ClockOk ∧
      tickingLine.MaskOk ∧ tickingLine.BadCountOk) ∧ tickingLine.CountersOk ∧
    (match step tickingLine with | .next t => t.lineTime | _ => 0) = 1001 :=
  ⟨by unfold State.LinesJudged State.OnePerTarget State.ClockOk State.MaskOk State.BadCountOk; decide +kernel,
    Laws.countersOk_of (by decide +kernel), by decide +kernel⟩

/-- A grant in front: the train of slot 1 takes the last unit of substation 1. -/
def grantingLine : State := { onLine with pending := [.departureExpiry 1] }

theorem test_met_InUseStaysTheSumOfTheLeases : grantingLine.Balanced ∧
    (match step grantingLine with | .next t => (t.substation 1).inUse | _ => 0) = 4 := by unfold State.Balanced; decide +kernel

theorem grantingLine_sound : grantingLine.Sound :=
  Laws.sound_of_pool onLine_sound rfl (by unfold State.Sized; decide +kernel) (by decide +kernel)

/-- And a primary that comes UP again, with a SUPPLY TRANSFER at it. -/
theorem test_met_GateServesItsQueues_return : (returningLine.Sound ∧ returningLine.QueuesOk ∧ returningLine.Configured) ∧
    (returningLine.NothingOwed ∧ returningLine.PlainHolds) ∧ (returningLine.part = .operating ∧ 1000 < 864000 ∧
      1 < returningLine.tables.header.sections ∧ (returningLine.sect 1).state = .onFallback ∧
      (returningLine.sectCfg 1).primary = 1 ∧ (returningLine.sectCfg 1).fallback = some 3 ∧ returningLine.up 1 = false ∧
      returningLine.up 3 = true ∧ (∀ j, j < returningLine.tables.header.sections → j ≠ 1 →
        (returningLine.sectCfg j).primary ≠ 1 ∧ (returningLine.sectCfg j).fallback ≠ some 1) ∧
      returningLine.activeAt .powerDelay (.substation 1) = none ∧ returningLine.activeAt .powerDelay (.substation 3) = none ∧
      (returningLine.activeAt .supplyTransfer (.substation 1)).isSome = true ∧
      (returningLine.substation 3).queue.filter
        (fun e => (returningLine.train? e.train.slot).any fun x => returningLine.runSectionOf x == 1) ≠ []) :=
  ⟨⟨returningLine_front.sound (by unfold State.Sized; decide +kernel) (by decide +kernel), returningLine_queues,
      returningLine_front.configured (by decide +kernel)⟩,
    ⟨returningLine_front.nothingOwed (by decide +kernel) (by decide +kernel) (by decide +kernel) (by decide +kernel),
      returningLine_front.plainHolds (by decide +kernel)⟩, by decide +kernel⟩

theorem test_met_SlotsStayOnTheirLists : (grantingLine.Sound ∧ grantingLine.Ordered ∧ grantingLine.Configured ∧
      grantingLine.PrioritiesOk) ∧ grantingLine.freeCount = 229 ∧
    grantingLine.annCount = 6 ∧
    (match step grantingLine with | .next t => (t.train? 1).map Train.state | _ => none) = some .released :=
  ⟨⟨grantingLine_sound, ⟨onLine_ordered.incidents, onLine_ordered.queues⟩,
      ⟨onLine_configured.checked, onLine_configured.empty, onLine_configured.patterns, onLine_configured.trains⟩,
      onLine_priorities.anns, onLine_priorities.parts⟩, by decide +kernel⟩

/-- A save area with an entry, in a part with nothing put forward, and one that is empty. -/
theorem test_met_WaitingTrainsAndVehiclesAreKept_saves : (savedLine.Sound ∧ savedLine.Configured ∧ savedLine.SavesOk) ∧
    (onLine.Sound ∧ onLine.Configured ∧ onLine.SavesOk) ∧ (∃ t, step savedLine = .next t) ∧ ∃ t, step onLine = .next t :=
  ⟨⟨savedLine_front.sound (by unfold State.Sized; decide +kernel) (by decide +kernel),
      savedLine_front.configured (by decide +kernel),
      savedLine_front.savesOk (by decide +kernel) (by decide +kernel) (by decide +kernel)⟩,
    ⟨onLine_sound, onLine_configured, onLine_saves⟩, ⟨_, rfl⟩, _, rfl⟩

theorem test_met_WaitingTrainsAndVehiclesAreKept : (grantingLine.Sound ∧ grantingLine.QueuesOk ∧ grantingLine.Configured ∧
      grantingLine.WaitersQueued ∧ grantingLine.VehiclesOnce ∧ grantingLine.CapsOk) ∧
    (match step grantingLine with | .next t => (t.substation 0).queue.length | _ => 0) = 1 ∧
    (match step grantingLine with | .next t => t.trainCount | _ => 0) = 12 :=
  ⟨⟨grantingLine_sound, ⟨onLine_queues.waiting, onLine_queues.once⟩,
      ⟨onLine_configured.checked, onLine_configured.empty, onLine_configured.patterns, onLine_configured.trains⟩, onLine_waiters,
      onLine_vehicles, ⟨onLine_caps.trains, onLine_caps.incidents, onLine_caps.queues⟩⟩, by decide +kernel⟩

theorem test_met_PlayersFollowTheirCues : (grantingLine.Sound ∧ grantingLine.Configured ∧ grantingLine.PlayersOk) ∧
    (match step { grantingLine with pending := [.started 1] } with | .next t => (t.platform 1).player | _ => .idle) = .playing :=
  ⟨⟨grantingLine_sound,
      ⟨onLine_configured.checked, onLine_configured.empty, onLine_configured.patterns, onLine_configured.trains⟩,
      ⟨onLine_players.cued, onLine_players.quiet, onLine_players.timed, onLine_players.selected, onLine_players.idle,
        onLine_players.done⟩⟩, by decide +kernel⟩

/-- Commands that move a section and a warning level, and one that moves the train list. -/
theorem test_met_SupplyRingAndLinksHaveTheirCommands :
    (match exec (.feeder 0 .low .closed 1000) onLine with | .next t => (t.sect 0).counter | _ => 0) = 1 ∧
    (match exec (.setWarningLevel 1 0 0) onLine with | .next t => (t.sect 0).warning | _ => 0) = 1 ∧
    (match exec (.retire 1 ⟨0, 1⟩) onLine with | .next t => t.pool.trains | _ => []) = List.range' 1 11 := by decide +kernel

theorem test_met_EachRequestIsAnsweredOnce : requestOf (.lookup 7 ⟨1, 1⟩) = some (1, 7) ∧
    State.reset.part = .unconfigured ∧ requestOf (.unknownRequestCode 99 7 0) = some (99, 7) := by decide

/-- Commands that move a clock, a mask and a shadow. -/
theorem test_met_EachPartOfTheStateHasItsCommands :
    (match exec .lineTimeTick onLine with | .next t => t.lineTime | _ => 0) ≠ onLine.lineTime ∧
    (match exec (.setAttentionMask 0 3) onLine with | .next t => t.attention.mask | _ => 0) ≠ onLine.attention.mask ∧
    (match exec .directiveSent onLine with | .next t => t.shadow 3 | _ => none) ≠ onLine.shadow 3 := by decide +kernel

end Sys2Proof.Tests
end

/-! PROOFS. The clock and the ring, the expiries as one family, and the invariants of lines, targets, clock, mask and counters that
every step keeps. -/

namespace Sys2Proof.Machine
open Sys2Proof

/-! ### Time round the day (R1, R11, R13) -/

theorem diff_eq (a b : Nat) : diff a b = ((b : Int) - a + 432000) % 864000 - 432000 := rfl

theorem later_eq (t : Nat) (d : Int) : later t d = (((t : Int) + d) % 864000).toNat := rfl

theorem diff_range (a b : Nat) : -432000 ≤ diff a b ∧ diff a b ≤ 431999 := by
  rw [diff_eq]; omega

theorem later_diff {a b : Nat} (hb : b < 864000) : later a (diff a b) = b := by
  rw [later_eq, diff_eq]; omega

/-- A deadline `d` moved with the clock from `a` to `b` keeps the interval it had to go (R11). -/
theorem diff_later_diff (a b d : Nat) : diff b (later d (diff a b)) = diff a d := by
  simp only [later_eq, diff_eq]; omega

/-- Settles O4: the range, the sum and the shift by arithmetic modulo a day, the effective time by the two sides of R13's window. -/
theorem timesAreTakenRoundTheDay : Obligations.TimesAreTakenRoundTheDay := by
  unfold Obligations.TimesAreTakenRoundTheDay
  refine ⟨fun a b d _ hb _ => ?_, fun s time => ⟨fun outside => ?_, fun old ahead => ?_⟩⟩
  · obtain ⟨low, high⟩ := diff_range a b
    exact ⟨low, high, later_diff hb, diff_eq a b, diff_later_diff a b d⟩
  · exact if_pos outside
  · exact if_neg (not_or.mpr ⟨not_lt.mpr ahead, not_lt.mpr old⟩)

/-! ### The ring (R2) -/

namespace State

theorem dist_eq (s : State) (a b : Nat) : s.dist a b = (((b : Int) - a) % s.tables.header.platforms).toNat := rfl

theorem dist_self (s : State) (a : Nat) : s.dist a a = 0 := by simp [dist_eq]

/-- Towards a platform that lies at or after the start the distance is the difference. -/
theorem dist_forward {s : State} {n a b : Nat} (hn : s.tables.header.platforms = n) (h : a ≤ b) (hb : b < n) :
    s.dist a b = b - a := by
  rw [dist_eq, hn, Int.emod_eq_of_lt (by omega) (by omega)]; omega

/-- Towards a platform before the start the distance goes round the ring once. -/
theorem dist_round {s : State} {n a b : Nat} (hn : s.tables.header.platforms = n) (h : b < a) (ha : a < n) :
    s.dist a b = b + n - a := by
  rw [dist_eq, hn, ← Int.add_emod_right, Int.emod_eq_of_lt (by omega) (by omega)]; omega

theorem dist_eq_mod {s : State} {n a b : Nat} (hn : s.tables.header.platforms = n) (ha : a < n) (hb : b < n) :
    s.dist a b = (b + n - a) % n := by
  rcases Nat.lt_or_ge b a with h | h
  · rw [dist_round hn h ha, Nat.mod_eq_of_lt (by omega)]
  · rw [dist_forward hn h hb, show b + n - a = b - a + n by omega, Nat.add_mod_right, Nat.mod_eq_of_lt (by omega)]

theorem covers_iff (s : State) (first last p : Nat) : s.covers first last p = true ↔ s.dist first p ≤ s.dist first last :=
  decide_eq_true_iff

/-- A range of one platform covers that platform alone. -/
theorem covers_single {s : State} {n first p : Nat} (hn : s.tables.header.platforms = n) (hf : first < n) (hp : p < n) :
    s.covers first first p = true ↔ p = first := by
  rw [covers_iff, dist_self]
  rcases Nat.lt_or_ge p first with h | h
  · rw [dist_round hn h hf]; omega
  · rw [dist_forward hn h hp]; omega

/-- A range whose last platform lies before its first goes round the end of the ring. -/
theorem covers_round {s : State} {n first last p : Nat} (hn : s.tables.header.platforms = n) (h : last < first) (hf : first < n)
    (hp : p < n) : s.covers first last p = true ↔ first ≤ p ∨ p ≤ last := by
  rw [covers_iff, dist_round hn h hf]
  rcases Nat.lt_or_ge p first with h | h
  · rw [dist_round hn h hf]; omega
  · rw [dist_forward hn h hp]; omega

end State

/-- Settles O5: the distance is the difference forward and goes round once backward, and the ranges follow from it. -/
theorem ringSuccessorDistanceAndRange : Obligations.RingSuccessorDistanceAndRange := by
  unfold Obligations.RingSuccessorDistanceAndRange
  intro s n hn
  refine ⟨fun p => ?_, fun p => ?_, fun a b => State.dist_eq_mod hn, s.dist_self, s.covers_iff,
    fun first p => State.covers_single hn, fun first last p => State.covers_round hn⟩
  · rw [← hn]; exact decide_eq_true_iff
  · rw [← hn]; rfl

end Sys2Proof.Machine

namespace Sys2Proof.Machine
open Sys2Proof

/-! ### Expiries as one family

Every deadline that the passage of line time takes is taken by one of the ten expiries (R10, R12), so that what each of the ten
keeps, `State.takeDue` keeps. -/

namespace State

/-- The expiry that a command names, under the deadlines `due`; a command that is no expiry takes none. -/
def takeExpiry (due : Reach) (s : State) : Instr → State
  | .departureExpiry i => s.takeDeparture due i
  | .overdueExpiry i => s.takeOverdue due i
  | .approachExpiry i => s.takeApproach due i
  | .waitExpiry k h => s.takeWait due k h
  | .leaseExpiry k h => s.takeLease due k h
  | .operationExpiry i => s.takeOperation due i
  | .escalationExpiry i => s.takeEscalation due i
  | .restExpiry i => s.takeRest due i
  | .startExpiry p => s.takeStart due p
  | .stopExpiry p => s.takeStop due p
  | _ => s

theorem exec_of_isExpiry {c : Instr} (h : isExpiry c = true) (s : State) : exec c s = .next (s.takeExpiry s.dueNow c) := by
  cases c with
  | departureExpiry i | overdueExpiry i | approachExpiry i | operationExpiry i | escalationExpiry i | restExpiry i | startExpiry i
  | stopExpiry i => rfl
  | waitExpiry k h | leaseExpiry k h => rfl
  | _ => cases h

/-- A command that is no expiry takes no deadline. -/
theorem takeExpiry_other {c : Instr} (h : isExpiry c = false) (due : Reach) (s : State) : s.takeExpiry due c = s := by
  cases c with
  | departureExpiry i | overdueExpiry i | approachExpiry i | operationExpiry i | escalationExpiry i | restExpiry i | startExpiry i
  | stopExpiry i => cases h
  | waitExpiry k h | leaseExpiry k h => cases h
  | _ => rfl

theorem foldl_keeps {α : Type} {P : State → Prop} {f : State → α → State} (hf : ∀ t x, P t → P (f t x)) (l : List α)
    {s : State} (hs : P s) : P (l.foldl f s) :=
  List.foldlRecOn l f hs fun t ht x _ => hf t x ht

/-- What every expiry keeps, the taking of all due deadlines keeps. -/
theorem takeDue_keeps {P : State → Prop} {due : Reach} (h : ∀ c t, P t → P (t.takeExpiry due c)) {s : State} (hs : P s) :
    P (s.takeDue due) := by
  have trains : ∀ t, P t → P (t.dueTrains due) := fun t => foldl_keeps (fun t i ht =>
    h (.approachExpiry i) _ (h (.overdueExpiry i) _ (h (.departureExpiry i) t ht))) _
  have waits : ∀ t, P t → P (t.dueWaits due) := fun t => foldl_keeps (fun t k =>
    foldl_keeps (fun u (e : Entry) => h (.waitExpiry k e.train) u) _) _
  have leases : ∀ t, P t → P (t.dueLeases due) := fun t => foldl_keeps (fun t k =>
    foldl_keeps (fun u (l : Lease) => h (.leaseExpiry k l.train) u) _) _
  have operations : ∀ t, P t → P (t.dueOperations due) := fun t => foldl_keeps (fun t i => h (.operationExpiry i) t) _
  have escalations : ∀ t, P t → P (t.dueEscalations due) := fun t => foldl_keeps (fun t i => h (.escalationExpiry i) t) _
  have rests : ∀ t, P t → P (t.dueRests due) := fun t => foldl_keeps (fun t i => h (.restExpiry i) t) _
  have players : ∀ t, P t → P (t.duePlayers due) := fun t => foldl_keeps (fun t p ht =>
    h (.stopExpiry p) _ (h (.startExpiry p) t ht)) _
  exact players _ (rests _ (escalations _ (operations _ (leases _ (waits _ (trains s hs))))))

/-- Where no expiry has an effect, the taking of the due deadlines has none. -/
theorem takeDue_eq_self {s : State} {due : Reach} (h : ∀ c, s.takeExpiry due c = s) : s.takeDue due = s :=
  takeDue_keeps (P := (· = s)) (fun c t ht => by rw [ht, h c]) rfl

/-- With every expiry without effect as a command, none of the deadlines at line time is taken. -/
theorem takeDue_quiet {s : State} (h : ∀ c, isExpiry c = true → exec c s = .next s) : s.takeDue s.dueNow = s := by
  refine takeDue_eq_self fun c => ?_
  cases hc : isExpiry c with
  | false => exact takeExpiry_other hc _ s
  | true => exact Host.Outcome.next.inj ((exec_of_isExpiry hc s).symm.trans (h c hc))

/-- An expiry whose deadline no time reaches changes nothing (R10). -/
theorem takeExpiry_never {due : Reach} (h : ∀ d, due d = false) (s : State) (c : Instr) : s.takeExpiry due c = s := by
  have hd : due = fun _ => false := funext h
  subst hd
  have trainNever : ∀ i inState dl, s.trainDue (fun _ => false) i inState dl = false := fun i inState dl => by
    unfold trainDue; split <;> simp
  cases c with
  | departureExpiry i => exact expire_idle (.inr (trainNever i _ _))
  | overdueExpiry i => exact expire_idle (.inr (trainNever i _ _))
  | approachExpiry i => exact expire_idle (.inr (trainNever i _ _))
  | waitExpiry k h => exact expire_idle (.inr (by simp [waitDue]))
  | leaseExpiry k h => exact expire_idle (.inr (by simp [leaseDue]))
  | operationExpiry i => exact expire_idle (.inr (by simp [operationDue]))
  | escalationExpiry i => exact expire_idle (.inr (by unfold escalationDue; split <;> simp))
  | restExpiry i => exact expire_idle (.inr (by unfold restDue; split <;> simp))
  | startExpiry p => exact expire_idle (.inr (by simp [playerDue]))
  | stopExpiry p => exact expire_idle (.inr (by simp [playerDue]))
  | _ => rfl

/-- A step back passes no deadline (R12). -/
theorem takeDue_passed_back (s : State) {old : Nat} {step : Int} (h : step < 0) : s.takeDue (passed old step) = s :=
  takeDue_eq_self (takeExpiry_never (fun d => by simp [passed]; omega) s)

/-! ### Expiries leave Pattern Control alone -/

theorem addFault_control (s : State) (i n : Nat) : (s.addFault i n).control = s.control := by
  unfold addFault
  dsimp only
  split
  · rfl
  · split
    · rfl
    · exact (calm_dropLeasesInto _ i).control

theorem abandonOperation_control (s : State) (i : Nat) : (s.abandonOperation i).control = s.control := by
  unfold abandonOperation
  dsimp only
  split <;> rfl

theorem expireOperation_control (s : State) (i : Nat) : (s.expireOperation i).control = s.control := by
  have work : (s.expireOperation i).control = ((s.abandonOperation i).addFault i 8).control :=
    ((calm_supplyWork s _).trans ((calm_thenIncidents s _ fun t => (calm_judgeLockout t _ i).trans (calm_autoRaise _ _ _ _)).trans
      (calm_latchWarning _ _ i))).control
  rw [work, addFault_control, abandonOperation_control]

theorem expire_control {s e : State} (h : e.control = s.control) (due : Bool) : (s.expire due e).control = s.control := by
  unfold expire
  split
  · exact (calm_endEvent s e).control.trans h
  · rfl

theorem calm_approachNow (s : State) (i : Nat) : Calm s (s.approachNow i) := by
  unfold approachNow
  split
  · exact s.calm_announceApproach _ _
  · exact Calm.refl s

theorem calm_waitExpired (s : State) (k : Nat) (h : Handle) : Calm s (s.waitExpired k h) := by
  unfold waitExpired
  refine Calm.trans ?_ (calm_autoRaise _ _ _ _)
  exact s.calm_modSubstation k _ (fun _ hb => hb) fun _ => rfl

/-- No expiry moves Pattern Control (R163, R169). -/
theorem takeExpiry_control (due : Reach) (s : State) (c : Instr) : (s.takeExpiry due c).control = s.control := by
  cases c with
  | departureExpiry i => exact expire_control (s.calm_scheduleCheck i).control _
  | overdueExpiry i => exact expire_control ((s.calm_modTrain i _).trans (calm_autoRaise _ _ _ _)).control _
  | approachExpiry i => exact expire_control (s.calm_approachNow i).control _
  | waitExpiry k h => exact expire_control (s.calm_waitExpired k h).control _
  | leaseExpiry k h => exact expire_control ((s.calm_dropLease k h).trans (calm_serveChanged _ _)).control _
  | operationExpiry i => exact expire_control (s.expireOperation_control i) _
  | escalationExpiry i => exact expire_control (s.calm_changeSeverity i _).control _
  | restExpiry i => exact expire_control (s.calm_endRest i).control _
  | startExpiry p => exact expire_control (s.calm_playerLost p).control _
  | stopExpiry p => exact expire_control ((s.calm_quietPlayer p _).trans (calm_latch _ _)).control _
  | _ => rfl

theorem takeDue_control (due : Reach) (s : State) : (s.takeDue due).control = s.control :=
  takeDue_keeps (P := fun t => t.control = s.control) (fun c t ht => (takeExpiry_control due t c).trans ht) rfl

/-! ### Records under a shift of the deadlines (R11) -/

theorem shiftDeadlines_slot (s : State) (d : Int) (i : Nat) :
    (s.shiftDeadlines d).slot i = { s.slot i with record := shiftRec d (s.slot i).record } := by
  simp only [slot, shiftDeadlines, List.getD_eq_getElem?_getD, List.getElem?_map]
  cases s.pool.slots[i]? <;> rfl

theorem shiftDeadlines_incident? (s : State) (d : Int) (i : Nat) :
    (s.shiftDeadlines d).incident? i = (s.incident? i).map fun c => { c with escDl := c.escDl.map (later · d) } := by
  simp only [incident?, shiftDeadlines_slot]
  cases (s.slot i).record <;> rfl

theorem shiftDeadlines_ann? (s : State) (d : Int) (i : Nat) :
    (s.shiftDeadlines d).ann? i = (s.ann? i).map fun a => { a with restDl := a.restDl.map (later · d) } := by
  simp only [ann?, shiftDeadlines_slot]
  cases (s.slot i).record <;> rfl

theorem shiftDeadlines_sect (s : State) (d : Int) (i : Nat) : (s.shiftDeadlines d).sect i = shiftSect d (s.sect i) := by
  simp only [sect, shiftDeadlines, List.getD_eq_getElem?_getD, List.getElem?_map]
  cases s.sects[i]? <;> rfl

theorem shiftDeadlines_platform (s : State) (d : Int) (p : Nat) :
    (s.shiftDeadlines d).platform p = shiftPlatform d (s.platform p) := by
  simp only [platform, shiftDeadlines, List.getD_eq_getElem?_getD, List.getElem?_map]
  cases s.platforms[p]? <;> rfl

theorem shiftDeadlines_substation (s : State) (d : Int) (k : Nat) :
    (s.shiftDeadlines d).substation k = shiftSubstation d (s.substation k) := by
  simp only [substation, shiftDeadlines, List.getD_eq_getElem?_getD, List.getElem?_map]
  cases s.substations[k]? <;> rfl

end State

/-! ### The clock commands (R10, R11, R12) -/

/-- What a passage of line time leaves alone, and where line time comes to stand. -/
structure ClockMoved (s t : State) (now : Nat) : Prop where
  lineTime  : t.lineTime = now
  part      : t.part = s.part
  tables    : t.tables = s.tables
  responses : t.responses = s.responses
  control   : t.control = s.control

theorem later_zero {t : Nat} (h : t < 864000) : later t 0 = t := by
  rw [later_eq]; omega

namespace State

/-- The due deadlines are taken at the old line time, and line time is set. -/
theorem clockMoved_takeDue_setTime (s : State) (due : Reach) (now : Nat) : ClockMoved s ((s.takeDue due).setTime now) now :=
  have taken := steady_takeDue due s
  { lineTime := setTime_lineTime _ _
    part := (setTime_part _ _).trans taken.part
    tables := (setTime_tables _ _).trans taken.tables
    responses := (setTime_responses _ _).trans taken.responses
    control := (setTime_control _ _).trans (takeDue_control due s) }

theorem clockMoved_takeDue {s t : State} {now : Nat} (h : ClockMoved s t now) (due : Reach) : ClockMoved s (t.takeDue due) now :=
  have taken := steady_takeDue due t
  { lineTime := taken.lineTime.trans h.lineTime
    part := taken.part.trans h.part
    tables := taken.tables.trans h.tables
    responses := taken.responses.trans h.responses
    control := (takeDue_control due t).trans h.control }

theorem clockMoved_tick (s : State) : ClockMoved s s.tick ((s.lineTime + 1) % Config.day) := clockMoved_takeDue_setTime s _ _

theorem clockMoved_adjustTime {s : State} (h : s.ClockOk) (step : Int) :
    ClockMoved s (s.adjustTime step) (later s.lineTime step) := by
  unfold adjustTime
  split
  · next h0 => exact ⟨by rw [h0, later_zero h], rfl, rfl, rfl, rfl⟩
  · exact clockMoved_takeDue (clockMoved_takeDue_setTime s _ _) _

/-- A tick with nothing due moves line time alone. -/
theorem tick_quiet {s : State} (h : s.takeDue s.dueNow = s) : s.tick = s.setTime ((s.lineTime + 1) % Config.day) := by
  rw [tick, h]

/-- A step back with nothing due moves line time alone. -/
theorem adjustTime_back {s : State} {step : Int} (h : s.takeDue s.dueNow = s) (hs : step < 0) :
    s.adjustTime step = s.setTime (later s.lineTime step) := by
  rw [adjustTime, if_neg (by omega), h, takeDue_passed_back _ hs]

/-- While UNCONFIGURED a step moves line time alone. -/
theorem adjustTime_unconfigured {s : State} (h : s.part = .unconfigured) (hc : s.ClockOk) (step : Int) :
    s.adjustTime step = s.setTime (later s.lineTime step) := by
  unfold adjustTime
  split
  · next h0 => rw [h0, later_zero hc]; rfl
  · rw [takeDue_unconfigured h, takeDue_unconfigured (by exact h)]

end State

/-- The clamp of R12 as the bounds it puts on the step. -/
theorem clampInt_adjustLimit (d : Int) : clampInt (-Config.adjustLimit) Config.adjustLimit d = max (-50) (min 50 d) := by
  unfold clampInt Config.adjustLimit
  split
  · omega
  · split <;> omega

theorem tick_time {n : Nat} (h : n < 864000) : (n + 1) % Config.day = if n = 863999 then 0 else n + 1 := by
  unfold Config.day
  split <;> omega

theorem execAdjustTime_eq (tag : Nat) (d : Int) (s : State) :
    execAdjustTime tag d s = .next ((s.adjustTime (max (-50) (min 50 d))).reply
      ⟨28, tag, .done, .adjusted (max (-50) (min 50 d)) (later s.lineTime (max (-50) (min 50 d)))⟩) := by
  rw [← clampInt_adjustLimit]; rfl

/-- SET TIME with no train live and a time of the day is taken. -/
theorem execSetTime_taken {s : State} {time : Nat} (tag : Nat) (hs : s.pool.trains = []) (ht : time < 864000) :
    execSetTime tag time s = .next ((s.moveTime time).reply ⟨27, tag, .done, .time time⟩) := by
  have noTrain : (s.trainCount == 0) = true := by simp [State.trainCount, hs]
  have inDay : timeOk time = true := decide_eq_true ht
  unfold execSetTime need
  rw [noTrain, inDay]
  rfl

/-- Settles O8: the tick and ADJUST TIME by what the taking of the due deadlines keeps, and by its having no effect where nothing
is due; READ TIME by its definition; SET TIME by the shift of each record. -/
theorem clockCommands : Obligations.ClockCommands := by
  unfold Obligations.ClockCommands
  refine ⟨fun s clock => ?tick, fun s tag d clock => ?adjust, fun s tag => rfl, fun s tag time noTrain inDay => ?set⟩
  case tick =>
    have moved := s.clockMoved_tick
    refine ⟨s.tick, rfl, moved.lineTime.trans (tick_time clock), moved.part, moved.tables, moved.responses, moved.control, ?_⟩
    intro still
    have nothingDue : s.takeDue s.dueNow = s := still.elim (fun h => State.takeDue_unconfigured h _) State.takeDue_quiet
    rw [moved.lineTime, State.tick_quiet nothingDue]; rfl
  case adjust =>
    intro n now
    have moved := State.clockMoved_adjustTime clock n
    refine ⟨_, execAdjustTime_eq tag d s, moved.lineTime, moved.part, moved.tables,
      congrArg (· ++ [_]) moved.responses, moved.control, ?_⟩
    have alone : (s.part = .unconfigured ∨ d = 0 ∨ d < 0 ∧ ∀ c, isExpiry c = true → exec c s = .next s) →
        s.adjustTime n = s.setTime (later s.lineTime n) := by
      rintro (h | rfl | ⟨back, quiet⟩)
      · exact State.adjustTime_unconfigured h clock n
      · exact (if_pos rfl).trans (congrArg s.setTime (later_zero clock).symm)
      · exact State.adjustTime_back (State.takeDue_quiet quiet) (by omega)
    intro still
    rw [alone still]; rfl
  case set =>
    refine ⟨_, execSetTime_taken tag noTrain inDay, rfl, rfl, fun i c hc => ?_, fun i a ha => ?_, fun i => ?_, fun p => ?_,
      fun k => ?_, fun i => ?_, rfl, rfl, rfl, rfl, rfl, rfl, rfl, rfl, rfl⟩
    · exact (s.shiftDeadlines_incident? _ i).trans (by rw [hc]; rfl)
    · exact (s.shiftDeadlines_ann? _ i).trans (by rw [ha]; rfl)
    · exact s.shiftDeadlines_sect _ i
    · exact s.shiftDeadlines_platform _ p
    · exact s.shiftDeadlines_substation _ k
    · change ((s.shiftDeadlines _).slot i).epoch = _; rw [State.shiftDeadlines_slot]

end Sys2Proof.Machine
namespace Sys2Proof.Machine
open Sys2Proof

/-! ### The counters of the sections (R6) -/

/-- The fault counter of a section lies in 0..255 and its recovery count in 0..16 (R6). -/
def Sect.InRange (x : Sect) : Prop := x.counter ≤ Config.counterMax ∧ x.recovery ≤ Config.recoveryLength

namespace State

/-- An update of a section reaches that section, where there is one, and no other. -/
theorem sect_modSect (s : State) (i : Nat) (f : Sect → Sect) (j : Nat) :
    (s.modSect i f).sect j = if i = j ∧ j < s.sects.length then f (s.sect j) else s.sect j := by
  simp only [sect, modSect_sects, List.getD_eq_getElem?_getD, List.getElem?_modify]
  by_cases hj : j < s.sects.length
  · by_cases hi : i = j <;> simp [hi, hj]
  · simp [hj]

/-- The counters stay in their ranges where those of the other sections are, and the update brings the section's own there. -/
theorem countersOk_modSect_of {s : State} {i : Nat} {f : Sect → Sect} (others : ∀ j, j ≠ i → (s.sect j).InRange)
    (here : (f (s.sect i)).InRange) : (s.modSect i f).CountersOk := fun j => by
  rw [sect_modSect]
  split
  · next h => exact h.1 ▸ here
  · next h =>
    by_cases hj : j = i
    · have noSuch : s.sect j = {} := by
        simp only [sect, List.getD_eq_getElem?_getD]
        rw [List.getElem?_eq_none (Nat.le_of_not_lt fun hlt => h ⟨hj.symm, hlt⟩)]; rfl
      rw [noSuch]; exact ⟨Nat.zero_le _, Nat.zero_le _⟩
    · exact others j hj

theorem countersOk_modSect {s : State} (h : s.CountersOk) (i : Nat) {f : Sect → Sect} (hf : ∀ x, x.InRange → (f x).InRange) :
    (s.modSect i f).CountersOk :=
  countersOk_modSect_of (fun j _ => h j) (hf _ (h i))

theorem countersOk_of_sects {s t : State} (h : t.sects = s.sects) (hs : s.CountersOk) : t.CountersOk := fun i => by
  simpa only [sect, h] using hs i

end State

theorem Calm.sect_core {s t : State} (h : Calm s t) (i : Nat) : (t.sect i).core = (s.sect i).core := by
  have core : ∀ l : List Sect, (l.getD i {}).core = (l.map Sect.core).getD i {} := fun l => by
    simp only [List.getD_eq_getElem?_getD, List.getElem?_map]
    cases l[i]? <;> rfl
  simp only [State.sect, core, h.core]

/-- Calm work moves no counter. -/
theorem Calm.countersOk {s t : State} (h : Calm s t) (hs : s.CountersOk) : t.CountersOk := fun i => by
  have inRange : (t.sect i).core.InRange := by rw [h.sect_core i]; exact hs i
  exact inRange

namespace State

/-! ### The Supply Monitor's operations on the counters -/

theorem countersOk_issueOperation {s : State} (h : s.CountersOk) (i : Nat) (op : BreakerOp) : (s.issueOperation i op).CountersOk :=
  (calm_issueBreaker _ _ _).countersOk (countersOk_modSect h i fun _ hx => hx)

theorem countersOk_lockOut {s : State} (h : s.CountersOk) (i : Nat) : (s.lockOut i).CountersOk :=
  (calm_dropLeasesInto _ i).countersOk
    (countersOk_issueOperation (countersOk_modSect h i fun _ _ => ⟨Nat.le_refl _, Nat.zero_le _⟩) i .opening)

theorem countersOk_relapse {s : State} (h : s.CountersOk) (i : Nat) : (s.relapse i).CountersOk :=
  countersOk_issueOperation (countersOk_modSect h i fun _ _ => ⟨Nat.le_refl _, Nat.zero_le _⟩) i .opening

/-- An increment past 255 locks the section out, so the counter does not pass it (R87). -/
theorem countersOk_addFault {s : State} (h : s.CountersOk) (i n : Nat) : (s.addFault i n).CountersOk := by
  unfold addFault
  dsimp only
  split
  · exact h
  · split
    · next room => exact countersOk_modSect_of (fun j _ => h j) ⟨room, (h i).2⟩
    · exact countersOk_lockOut h i

theorem countersOk_easeFault {s : State} (h : s.CountersOk) (i : Nat) : (s.easeFault i).CountersOk :=
  countersOk_modSect h i fun x hx => ⟨(Nat.sub_le x.counter 1).trans hx.1, hx.2⟩

theorem countersOk_breakerPart {s : State} (h : s.CountersOk) (i : Nat) (pos : Position) : (s.breakerPart i pos).CountersOk := by
  unfold breakerPart
  refine countersOk_modSect ?_ i fun _ hx => hx
  split
  · exact countersOk_modSect h i fun _ hx => hx
  · exact h

theorem countersOk_classPart {s : State} (h : s.CountersOk) (i : Nat) (c : SupplyClass) (pos : Position) :
    (s.classPart i c pos).CountersOk := by
  unfold classPart
  split
  · exact h
  · cases c with
    | healthy => exact countersOk_easeFault h i
    | low => exact countersOk_addFault h i 1
    | absent =>
      dsimp only
      split
      · exact countersOk_addFault h i 1
      · exact h

/-- The sixteenth good report ends recovery with the count at 16, so the count does not pass it (R89). -/
theorem countersOk_recoveryPart {s : State} (h : s.CountersOk) (i : Nat) (c : SupplyClass) (pos : Position) (trip : Bool) :
    (s.recoveryPart i c pos trip).CountersOk := by
  have eased := countersOk_easeFault h i
  unfold recoveryPart
  dsimp only
  split
  · exact countersOk_relapse h i
  · split
    · have others : ∀ f j, j ≠ i → (((s.easeFault i).modSect i f).sect j).InRange := fun f j hj => by
        rw [sect_modSect, if_neg fun e => hj e.1.symm]; exact eased j
      split
      · exact countersOk_modSect_of (others _) ⟨Nat.zero_le _, Nat.le_refl _⟩
      · next short =>
        intro j
        by_cases hj : j = i
        · refine ⟨?_, hj ▸ (Nat.lt_of_not_le short).le⟩
          rw [sect_modSect]
          split <;> exact (eased j).1
        · exact others _ j hj
    · exact eased

theorem countersOk_takeFeeder {s : State} (h : s.CountersOk) (i : Nat) (c : SupplyClass) (pos : Position) :
    (s.takeFeeder i c pos).CountersOk := by
  have broken := countersOk_breakerPart h i pos
  unfold takeFeeder
  refine (calm_latchWarning _ _ _).countersOk ((calm_thenIncidents s _ fun v => ?_).countersOk
    ((calm_supplyWork s _).countersOk ?_))
  · split
    · exact (v.calm_endCause _ _).trans (calm_judgeLockout _ _ _)
    · exact v.calm_judgeLockout _ _
  · split
    · exact countersOk_recoveryPart broken i c pos _
    · refine countersOk_classPart ?_ i c pos
      split
      · exact countersOk_addFault broken i 8
      · exact broken

theorem countersOk_abandonOperation {s : State} (h : s.CountersOk) (i : Nat) : (s.abandonOperation i).CountersOk := by
  have removed : (s.modSect i fun x => { x with op := none }).CountersOk := countersOk_modSect h i fun _ hx => hx
  unfold abandonOperation
  dsimp only
  split
  · exact countersOk_modSect removed i fun _ hx => hx
  · exact countersOk_modSect removed i fun _ hx => hx
  · exact countersOk_relapse removed i
  all_goals exact removed

theorem countersOk_expireOperation {s : State} (h : s.CountersOk) (i : Nat) : (s.expireOperation i).CountersOk :=
  (calm_latchWarning _ _ _).countersOk
    ((calm_thenIncidents s _ fun t => (calm_judgeLockout t _ i).trans (calm_autoRaise _ _ _ _)).countersOk
      ((calm_supplyWork s _).countersOk (countersOk_addFault (countersOk_abandonOperation h i) i 8)))

/-- A section that leaves RECOVERING loses its count (R93, R98). -/
theorem inRange_recovery {x : Sect} (h : x.InRange) :
    (if x.state = .recovering then 0 else x.recovery) ≤ Config.recoveryLength := by
  split
  · exact Nat.zero_le _
  · exact h.2

theorem countersOk_isolateSect {s : State} (h : s.CountersOk) (i : Nat) : (s.isolateSect i).CountersOk := by
  unfold isolateSect
  refine (calm_thenIncidents s _ fun u => u.calm_judgeLockout _ i).countersOk ((calm_supplyWork s _).countersOk ?_)
  refine countersOk_issueOperation (countersOk_modSect h i ?_) i .opening
  exact fun _ hx => ⟨hx.1, inRange_recovery hx⟩

theorem countersOk_energiseSect {s : State} (h : s.CountersOk) (i : Nat) : (s.energiseSect i).CountersOk := by
  unfold energiseSect
  refine countersOk_issueOperation (countersOk_modSect h i ?_) i .closing
  exact fun _ hx => hx

theorem countersOk_restoreSect {s : State} (h : s.CountersOk) (i : Nat) : (s.restoreSect i).CountersOk := by
  unfold restoreSect
  refine countersOk_issueOperation (countersOk_modSect h i ?_) i .closing
  exact fun _ hx => ⟨hx.1, Nat.zero_le _⟩

theorem countersOk_setWarning {s : State} (h : s.CountersOk) (i level : Nat) : (s.setWarning i level).CountersOk :=
  (calm_latchWarning _ _ _).countersOk (countersOk_modSect h i fun _ hx => hx)

theorem countersOk_moveSect {s : State} (h : s.CountersOk) (i : Nat) (st : Option SectState) : (s.moveSect i st).CountersOk := by
  unfold moveSect
  split
  · exact countersOk_modSect h i fun _ hx => ⟨hx.1, inRange_recovery hx⟩
  · exact h

theorem countersOk_moveSects {s : State} (h : s.CountersOk) (k : Nat) (up : Bool) : (s.moveSects k up).CountersOk :=
  foldl_keeps (P := CountersOk) (fun _ i ht => countersOk_moveSect ht i _) _ (countersOk_of_sects rfl h)

theorem countersOk_takeSubstation {s : State} (h : s.CountersOk) (k : Nat) (up : Bool) : (s.takeSubstation k up).CountersOk := by
  unfold takeSubstation
  split
  · exact h
  · refine (calm_thenIncidents s _ fun v => ?_).countersOk ((calm_supplyWork s _).countersOk (countersOk_moveSects h k up))
    split
    · exact (calm_judgeLockouts s v).trans (calm_endCause _ _ _)
    · exact (calm_judgeLockouts s v).trans (calm_autoRaise _ _ _ _)

/-! ### Passages, retirement and patterns on the counters -/

/-- The count of the trains in a section (R58) moves no counter. -/
theorem countersOk_arriveRunning {s : State} (h : s.CountersOk) (i : Nat) (t : Train) (p a : Nat) (c : Bool) :
    (s.arriveRunning i t p a c).CountersOk := by
  unfold arriveRunning
  refine (calm_regulate _ _ _ _ _).countersOk ((calm_occupy _ _ _).countersOk ?_)
  refine (calm_endCause _ _ _).countersOk ((calm_endCause _ _ _).countersOk ((calm_modTrain _ _ _).countersOk ?_))
  refine countersOk_modSect ?_ _ fun _ hx => hx
  exact ((s.calm_dropLeaseOf i).trans (calm_serveChanged s _)).countersOk h

theorem calm_leave (s : State) (i p : Nat) : Calm s (if s.isOccupant i p then s.promote i p else (s, false)).1 := by
  split
  · exact s.calm_promote i p
  · exact Calm.refl s

theorem countersOk_departFrom {s : State} (h : s.CountersOk) (i : Nat) (t : Train) (p a : Nat) (c : Bool) :
    (s.departFrom i t p a c).CountersOk := by
  unfold departFrom
  refine (calm_approachCheck _ _ _).countersOk ((calm_judgeConflict _ _ _ _).countersOk ?_)
  refine countersOk_modSect ((calm_modTrain _ _ _).countersOk ?_) _ fun _ hx => hx
  exact ((s.calm_modPlatform p _).trans (calm_leave _ i p)).countersOk h

theorem countersOk_departTrain {s : State} (h : s.CountersOk) (i : Nat) (t : Train) (p a : Nat) (c : Bool) :
    (s.departTrain i t p a c).CountersOk := by
  have withdrawn : (if t.state = .waiting then serveChanged s (s.dropEntries (s.handle i)) else s).CountersOk := by
    split
    · exact ((s.calm_dropEntries _).trans (calm_serveChanged _ _)).countersOk h
    · exact h
  have departed := countersOk_departFrom withdrawn i t p a c
  unfold departTrain
  dsimp only
  split
  · exact departed
  · exact (calm_autoRaise _ _ _ _).countersOk departed

theorem countersOk_retireFromGate {s : State} (h : s.CountersOk) (i : Nat) (t : Train) : (s.retireFromGate i t).CountersOk := by
  have served := (((s.calm_dropEntries (s.handle i)).trans (calm_dropLeaseOf _ i)).trans (calm_serveChanged s _)).countersOk h
  unfold retireFromGate
  generalize serveChanged s ((s.dropEntries (s.handle i)).dropLeaseOf i) = u at served ⊢
  split
  · exact countersOk_modSect served _ fun _ hx => hx
  · split
    · exact (calm_judgeConflict _ _ _ _).countersOk ((u.calm_leave i _).countersOk served)
    · exact served

theorem countersOk_retireFromRecords {s : State} (h : s.CountersOk) (i : Nat) (t : Train) (b : Bool) :
    (s.retireFromRecords i t b).CountersOk := by
  unfold retireFromRecords
  dsimp only
  have ended := (calm_endCause _ .unauthorised (.train (s.handle i))).countersOk
    ((calm_endCause _ .trainOverdue (.train (s.handle i))).countersOk ((calm_mapAnns _ fun a =>
      if a.train = some (s.handle i) then { a with train := none } else a).countersOk ((s.calm_retireAnns fun a =>
        a.origin == .approach && a.train == some (s.handle i)).countersOk h)))
  generalize endCause _ .unauthorised _ = u at ended ⊢
  have forgotten : (if t.saved then u.modControl fun c => { c with saves := c.saves.filter fun e => e.train != s.handle i }
      else u).CountersOk := by
    split
    · exact countersOk_of_sects rfl ended
    · exact ended
  split
  · exact (calm_issueIndicator _ _ _).countersOk forgotten
  · exact forgotten

theorem countersOk_retireTrain {s : State} (h : s.CountersOk) (i : Nat) (t : Train) : (s.retireTrain i t).CountersOk :=
  ((calm_unlist _ i).trans (calm_release _ i)).countersOk
    (countersOk_retireFromRecords (countersOk_retireFromGate h i t) i t _)

theorem countersOk_setPattern {s : State} (h : s.CountersOk) (q : Nat) : (s.setPattern q).CountersOk := by
  unfold setPattern setBudgets
  refine (calm_serveAll _).countersOk (foldl_keeps (P := CountersOk) (fun t k ht => ?_) _ (countersOk_of_sects rfl h))
  exact countersOk_of_sects (modSubstation_sects t k _) ht

theorem countersOk_enterFromClear {s : State} (h : s.CountersOk) (q : Nat) : (s.enterFromClear q).CountersOk := by
  unfold enterFromClear
  refine countersOk_setPattern (countersOk_of_sects (modControl_sects _ _) ?_) q
  refine foldl_keeps (P := CountersOk) (fun t e ht => ?_) _ (countersOk_of_sects (modControl_sects s _) h)
  exact (calm_modTrain _ _ _).countersOk (countersOk_of_sects (modControl_sects t _) ht)

theorem countersOk_leaveDegraded {s : State} (h : s.CountersOk) : s.leaveDegraded.CountersOk := by
  unfold leaveDegraded
  refine countersOk_of_sects (modControl_sects _ _) (foldl_keeps (P := CountersOk) (fun t e ht => ?_) _ (countersOk_setPattern h _))
  exact (t.calm_restoreTrain e).countersOk ht

end State
end Sys2Proof.Machine
namespace Sys2Proof.Machine
open Sys2Proof

/-! ### What every command keeps -/

/-- The invariants of the queue, the clock, the mask and the counters, kept from one state to another. -/
structure Held (s t : State) : Prop where
  targets  : s.OnePerTarget → t.OnePerTarget
  clock    : s.ClockOk → t.ClockOk
  mask     : s.MaskOk → t.MaskOk
  badCount : s.BadCountOk → t.BadCountOk
  counters : s.CountersOk → t.CountersOk

/-- The same with the lines judged: within an event they are not, at its end they are (R183). -/
structure Kept (s t : State) : Prop extends Held s t where
  lines : s.LinesJudged → t.LinesJudged

theorem Held.refl (s : State) : Held s s := ⟨id, id, id, id, id⟩

theorem Kept.refl (s : State) : Kept s s := ⟨Held.refl s, id⟩

theorem Held.trans {s t u : State} (a : Held s t) (b : Held t u) : Held s u where
  targets := b.targets ∘ a.targets
  clock := b.clock ∘ a.clock
  mask := b.mask ∘ a.mask
  badCount := b.badCount ∘ a.badCount
  counters := b.counters ∘ a.counters

theorem Kept.trans {s t u : State} (a : Kept s t) (b : Kept t u) : Kept s u := ⟨a.toHeld.trans b.toHeld, b.lines ∘ a.lines⟩

/-- Steady work that keeps the counters in their ranges. -/
theorem Steady.held {s t : State} (h : Steady s t) (counters : s.CountersOk → t.CountersOk) : Held s t where
  targets := h.targets
  clock := fun hs => h.lineTime.trans_lt hs
  mask := fun hs => h.mask.trans_le hs
  badCount := fun hs => (congrArg (fun l : Links => l.badCount) h.links).trans_lt hs
  counters := counters

theorem Calm.held {s t : State} (h : Calm s t) : Held s t := h.toSteady.held h.countersOk

theorem Held.foldl {α : Type} {f : State → α → State} (hf : ∀ t x, Held t (f t x)) (l : List α) (s : State) :
    Held s (l.foldl f s) :=
  State.foldl_keeps (P := Held s) (fun t x ht => ht.trans (hf t x)) l (Held.refl s)

theorem Held.judgeLines {s t : State} (h : Held s t) : Kept s t.judgeLines :=
  ⟨h.trans (State.calm_judgeLines t).held, fun _ => State.linesJudged_judgeLines t⟩

theorem Held.endEvent {s t : State} (h : Held s t) (before : State) : Kept s (State.endEvent before t) :=
  ⟨h.trans (State.calm_endEvent before t).held, fun _ => State.linesJudged_endEvent before t⟩

/-- Work that does not touch what the lines are judged from, nor the lines (R183). -/
theorem Held.kept {s t : State} (h : Held s t) (pool : t.pool = s.pool) (attention : t.attention = s.attention)
    (routes : t.tables.routes = s.tables.routes) : Kept s t where
  toHeld := h
  lines := fun hs => by
    have judged : t.judgedLines = s.judgedLines :=
      State.judgedLines_congr pool (congrArg Attention.mask attention) (congrArg Attention.latches attention) routes
    rw [State.LinesJudged, attention, judged]; exact hs

namespace State

theorem kept_reply (s : State) (r : Response) : Kept s (s.reply r) :=
  Held.kept ⟨id, id, id, id, id⟩ rfl rfl rfl

theorem kept_setTime (s : State) {now : Nat} (h : now < Config.day) : Kept s (s.setTime now) :=
  Held.kept ⟨id, fun _ => h, id, id, id⟩ rfl rfl rfl

/-- Work on the links but for the queue and the bad-frame count. -/
theorem kept_modLinks (s : State) {f : Links → Links} (queue : (f s.links).queue = s.links.queue)
    (badCount : (f s.links).badCount = s.links.badCount) : Kept s (s.modLinks f) :=
  Held.kept
    { targets := fun h => by rw [OnePerTarget, modLinks_links, queue]; exact h
      clock := id
      mask := id
      badCount := fun h => badCount.trans_lt h
      counters := id } rfl rfl rfl

/-! ### Expiries and the passage of line time -/

theorem kept_expire {s e : State} (h : Held s e) (due : Bool) : Kept s (s.expire due e) := by
  unfold expire
  split
  · exact h.endEvent s
  · exact Kept.refl s

theorem kept_takeExpiry (due : Reach) (s : State) (c : Instr) : Kept s (s.takeExpiry due c) := by
  cases c with
  | departureExpiry i => exact kept_expire (s.calm_scheduleCheck i).held _
  | overdueExpiry i => exact kept_expire ((s.calm_modTrain i _).trans (calm_autoRaise _ _ _ _)).held _
  | approachExpiry i => exact kept_expire (s.calm_approachNow i).held _
  | waitExpiry k h => exact kept_expire (s.calm_waitExpired k h).held _
  | leaseExpiry k h => exact kept_expire ((s.calm_dropLease k h).trans (calm_serveChanged _ _)).held _
  | operationExpiry i => exact kept_expire ((s.steady_expireOperation i).held fun h => countersOk_expireOperation h i) _
  | escalationExpiry i => exact kept_expire (s.calm_changeSeverity i _).held _
  | restExpiry i => exact kept_expire (s.calm_endRest i).held _
  | startExpiry p => exact kept_expire (s.calm_playerLost p).held _
  | stopExpiry p => exact kept_expire ((s.calm_quietPlayer p _).trans (calm_latch _ _)).held _
  | _ => exact Kept.refl s

theorem kept_takeDue (due : Reach) (s : State) : Kept s (s.takeDue due) :=
  takeDue_keeps (P := Kept s) (fun c t ht => ht.trans (kept_takeExpiry due t c)) (Kept.refl s)

theorem kept_tick (s : State) : Kept s s.tick :=
  (kept_takeDue _ s).trans (kept_setTime _ (Nat.mod_lt _ (by decide)))

theorem later_lt (t : Nat) (d : Int) : later t d < Config.day := by
  change (((t : Int) + d) % 864000).toNat < 864000; omega

theorem kept_adjustTime (s : State) (step : Int) : Kept s (s.adjustTime step) := by
  unfold adjustTime
  split
  · exact Kept.refl s
  · exact ((kept_takeDue _ s).trans (kept_setTime _ (later_lt _ _))).trans (kept_takeDue _ _)

/-! ### SET TIME leaves the pending sources alone -/

theorem shiftDeadlines_liveIncidents (s : State) (d : Int) : (s.shiftDeadlines d).liveIncidents =
    s.liveIncidents.map fun e => (e.1, { e.2 with escDl := e.2.escDl.map (later · d) }) := by
  simp only [liveIncidents, shiftDeadlines_incident?, List.map_filterMap, Option.map_map]
  rfl

theorem shiftDeadlines_kindPending (s : State) (d : Int) (k : Kind) : (s.shiftDeadlines d).kindPending k = s.kindPending k := by
  simp only [kindPending, callers, shiftDeadlines_liveIncidents, List.filter_map, List.isEmpty_map]
  rfl

theorem shiftDeadlines_judgedLines (s : State) (d : Int) : (s.shiftDeadlines d).judgedLines = s.judgedLines := by
  have pending : (s.shiftDeadlines d).sourcePending = s.sourcePending := by
    funext n
    simp only [sourcePending, shiftDeadlines_kindPending]
    rfl
  have asserted : (s.shiftDeadlines d).lineAsserted = s.lineAsserted := by
    funext l
    simp only [lineAsserted, pendingSources, pending]
    rfl
  rw [judgedLines, asserted]; rfl

theorem kept_shiftDeadlines (s : State) (d : Int) : Kept s (s.shiftDeadlines d) where
  targets := id
  clock := id
  mask := id
  badCount := id
  counters := fun h i => by rw [shiftDeadlines_sect]; exact h i
  lines := fun h => h.trans (s.shiftDeadlines_judgedLines d).symm

theorem kept_moveTime (s : State) {time : Nat} (h : time < Config.day) : Kept s (s.moveTime time) :=
  (s.kept_shiftDeadlines _).trans (kept_setTime _ h)

/-! ### Configuration -/

theorem linesJudged_reset : State.reset.LinesJudged := by
  unfold LinesJudged
  decide

theorem kept_coldReset (s : State) : Kept s s.coldReset where
  targets := fun _ => List.nodup_nil
  clock := fun _ => by unfold ClockOk; exact Nat.zero_lt_succ _
  mask := fun _ => Nat.zero_le _
  badCount := fun _ => Nat.zero_lt_succ _
  counters := fun _ => Laws.countersOk_of fun x hx => by
    rw [List.eq_of_mem_replicate hx]; exact ⟨Nat.zero_le _, Nat.zero_le _⟩
  lines := fun _ => linesJudged_reset.trans (judgedLines_congr (s := s.coldReset) (t := State.reset) rfl rfl rfl rfl)

theorem countersOk_startLine {s : State} (h : s.CountersOk) : s.startLine.CountersOk := fun i => by
  have started : s.startLine.sect i = s.sect i ∨ s.startLine.sect i = s.startSect i (s.sect i) := by
    simp only [sect, startLine, List.getD_eq_getElem?_getD, List.getElem?_mapIdx]
    cases s.sects[i]? with
    | none => exact .inl rfl
    | some x => exact .inr rfl
  rcases started with e | e
  · rw [e]; exact h i
  · rw [e, startSect]
    split
    · exact ⟨Nat.zero_le _, Nat.zero_le _⟩
    · exact h i

theorem held_startLine (s : State) : Held s s.startLine := ⟨id, id, id, id, countersOk_startLine⟩

theorem held_setTables (s : State) (t : Tables) : Held s (s.setTables t) := ⟨id, id, id, id, id⟩

theorem held_setPart (s : State) (p : PartState) : Held s (s.setPart p) := ⟨id, id, id, id, id⟩

/-! ### The links -/

/-- LINK RESTART empties the queue and the bad-frame count before it replays the shadows (R197). -/
theorem held_restartLinks (s : State) : Held s s.restartLinks :=
  ⟨fun _ => List.nodup_nil, id, id, fun _ => Nat.zero_lt_succ _, id⟩

theorem held_replayShadows (s : State) : Held s s.replayShadows :=
  Held.foldl (fun t n => by
    cases s.shadow n with
    | none => exact Held.refl t
    | some d => exact (t.calm_issue n d).held) _ s

theorem held_restartPlayer (s : State) (p : Nat) : Held s (s.restartPlayer p) := by
  unfold restartPlayer
  split
  · exact (s.calm_playerLost p).held
  · exact (s.calm_playerLost p).held
  · exact (s.calm_playerLost p).held
  all_goals exact Held.refl s

theorem kept_restart (s : State) : Kept s s.restart :=
  ((((held_restartLinks s).trans (held_replayShadows _)).trans (calm_modAttention _ _ rfl id).held).trans
    (Held.foldl held_restartPlayer _ _)).judgeLines

theorem kept_clearReturned (s : State) (x : Option Latch) : Kept s (s.clearReturned x) := by
  cases x with
  | none => exact Kept.refl s
  | some x => exact (s.calm_unlatch x).held.judgeLines

theorem kept_setMask (s : State) (mask : Nat) : Kept s (s.modAttention fun a => { a with mask := min 7 mask }).judgeLines :=
  Held.judgeLines ⟨id, id, fun _ => Nat.min_le_left 7 mask, id, id⟩

/-- The eighth bad frame in a run takes the count back to 0 (R190). -/
theorem kept_badFieldFrame (s : State) : Kept s s.badFieldFrame := by
  unfold badFieldFrame
  split
  · have cleared : Held s (s.modLinks fun l => { l with badCount := 0 }) := ⟨id, id, id, fun _ => Nat.zero_lt_succ _, id⟩
    exact (cleared.trans (calm_latch _ .fieldLink).held).judgeLines
  · next short => exact Held.kept ⟨id, id, id, fun _ => Nat.lt_of_not_le short, id⟩ rfl rfl rfl

theorem kept_sendHead (s : State) : Kept s s.sendHead := by
  unfold sendHead
  split
  · exact Kept.refl s
  · next e rest hq =>
    refine Held.kept ⟨fun h => ?_, id, id, id, id⟩ rfl rfl rfl
    rw [OnePerTarget, hq] at h
    exact (List.nodup_cons.mp h).2

theorem kept_replyBadFrame (s : State) : Kept s s.replyBadFrame := s.kept_reply _

theorem kept_takeStatus (s : State) (p : Nat) {owner : State → State} (h : Held s (owner s)) : Kept s (s.takeStatus p owner) := by
  unfold takeStatus
  split
  · exact Kept.refl s
  · split
    · exact h.endEvent s
    · exact (s.calm_latch _).held.judgeLines

/-! ### Reports -/

theorem calm_dropReport (s : State) : Calm s s.dropReport := s.calm_latch _

theorem kept_takeReport (s : State) (time : Nat) (indexOk : Bool) {owner : State → State} (h : ∀ t, Held t (owner t)) :
    Kept s (s.takeReport time indexOk owner) := by
  have counted : Held s (s.modLinks fun l => { l with badCount := 0 }) := ⟨id, id, id, fun _ => Nat.zero_lt_succ _, id⟩
  unfold takeReport
  dsimp only
  split
  · split
    · exact counted.kept rfl rfl rfl
    · split
      · exact (counted.trans (h _)).endEvent _
      · exact (counted.trans (calm_dropReport _).held).endEvent _
  · exact s.kept_badFieldFrame

theorem held_takePassage (s : State) (vehicle p time : Nat) {owner : State → Nat → Train → Nat → Bool → State}
    (h : ∀ t i x a c, Held t (owner t i x a c)) : Held s (s.takePassage vehicle p time owner) := by
  unfold takePassage
  dsimp only
  split
  · split
    · exact h _ _ _ _ _
    · exact ((s.calm_modPlatform _ _).trans (calm_latch _ _)).held
  · exact s.calm_dropReport.held

theorem held_takeArrive (s : State) (p i : Nat) (t : Train) (a : Nat) (c : Bool) : Held s (s.takeArrive p i t a c) := by
  have dropped := s.calm_dropReport.held
  have running : Held s (if s.mayArrive t p then s.arriveRunning i t p a c else s.dropReport) := by
    split
    · exact (s.steady_arriveRunning i t p a c).held fun h => countersOk_arriveRunning h i t p a c
    · exact dropped
  unfold takeArrive
  split
  · split
    · exact (s.calm_arriveAtOrigin i t a c).held
    · exact dropped
  · exact running
  · exact running
  all_goals exact dropped

theorem held_takeDepart (s : State) (p i : Nat) (t : Train) (a : Nat) (c : Bool) : Held s (s.takeDepart p i t a c) := by
  unfold takeDepart
  split
  · exact (s.steady_departTrain i t p a c).held fun h => countersOk_departTrain h i t p a c
  · exact s.calm_dropReport.held

theorem calm_takeAlarm (s : State) (p : Nat) (on : Bool) (severity : Nat) : Calm s (s.takeAlarm p on severity) := by
  unfold takeAlarm
  split
  · split
    · exact s.calm_autoRaise _ _ _
    · exact s.calm_dropReport
  · exact s.calm_endCause _ _

/-! ### Requests -/

theorem calm_amendAnn (s : State) (i : Nat) (message minutes : Option Nat) (mode : Option Mode) :
    Calm s (s.amendAnn i message minutes mode) := by
  unfold amendAnn
  split
  · exact Calm.refl s
  · exact s.calm_modAnn i _

theorem calm_amendSeverity (s : State) (i : Nat) (severity : Option Nat) : Calm s (s.amendSeverity i severity) := by
  unfold amendSeverity
  split
  · exact Calm.refl s
  · split
    · exact Calm.refl s
    · exact s.calm_changeSeverity i _

theorem calm_amendRestriction (s : State) (i : Nat) (restr : Option (Option Restriction)) :
    Calm s (s.amendRestriction i restr) := by
  unfold amendRestriction
  split
  · exact Calm.refl s
  · exact ((s.calm_modIncident i _).trans (calm_holdsBegin s _)).trans (calm_holdsStop s _)

theorem calm_amendAnnouncement (s : State) (i : Nat) (ann : Option (Option IncidentAnn)) : Calm s (s.amendAnnouncement i ann) := by
  unfold amendAnnouncement
  split
  · exact Calm.refl s
  · exact s.calm_modIncident i _

theorem calm_acknowledgeIncident (s : State) (i : Nat) (c : Incident) : Calm s (s.acknowledgeIncident i c) := by
  unfold acknowledgeIncident
  dsimp only
  split
  · exact (s.calm_modIncident i _).trans (calm_enterCleared _ i)
  · exact (s.calm_modIncident i _).trans (calm_modIncident _ i _)

theorem calm_createTrain (s : State) (t : Train) : Calm s (s.createTrain t) := by
  unfold createTrain
  split
  · exact Calm.refl s
  · next u i h =>
    obtain ⟨-, -, taken, -⟩ := allocate_spec h
    exact taken.trans (calm_modPool u _ rfl rfl)

theorem calm_setManual (s : State) (i : Nat) : Calm s (s.setManual i) := by
  unfold setManual
  split
  · exact Calm.refl s
  · split
    · exact Calm.refl s
    · split
      · exact (s.calm_withdraw i _).trans (calm_serveChanged s _)
      · exact s.calm_modTrain i _

theorem calm_clearManual (s : State) (i : Nat) : Calm s (s.clearManual i) := by
  unfold clearManual
  split
  · exact Calm.refl s
  · split
    · exact s.calm_modTrain i _
    · exact Calm.refl s

theorem calm_amendManual (s : State) (i : Nat) (manual : Option Bool) : Calm s (s.amendManual i manual) := by
  cases manual with
  | none => exact Calm.refl s
  | some b =>
    cases b with
    | true => exact s.calm_setManual i
    | false => exact s.calm_clearManual i

theorem calm_forceDeparture (s : State) (i : Nat) (t : Train) : Calm s (s.forceDeparture i t) := by
  unfold forceDeparture
  dsimp only
  split
  · exact (s.calm_modTrain i _).trans (calm_scheduleCheck _ i)
  · split
    · exact (s.calm_modTrain i _).trans (calm_holdRemovalCheck _ _ i)
    · exact s.calm_modTrain i _

theorem calm_retireIncident (s : State) (i : Nat) : Calm s (s.retireIncident i) :=
  ((s.calm_mapAnns _).trans (calm_unlinkIncident _ i)).trans (calm_release _ i)

end State

/-! ### The checks of a request (R177)

A request that fails a check leaves the state as it was: what is true of it and of the state of a taken request is true of the
reply's. -/

section Checks

variable {P : State → Prop} {s : State}

theorem need_state (hs : P s) {ok : Bool} {st : Status} {r : Reply} (hr : ok = true → P r.state) : P (need s ok st r).state := by
  unfold need
  split
  · next h => exact hr h
  · exact hs

theorem whenOperating_state (hs : P s) {r : Reply} (hr : P r.state) : P (whenOperating s r).state := need_state hs fun _ => hr

theorem withCurrent_state (hs : P s) {h : Handle} {r : Reply} (hr : P r.state) : P (withCurrent s h r).state :=
  need_state hs fun _ => hr

theorem withOptional_state (hs : P s) {h : Handle} {r : Reply} (hr : P r.state) : P (withOptional s h r).state :=
  need_state hs fun _ => hr

theorem withTrain_state (hs : P s) {h : Handle} {r : Train → Reply} (hr : ∀ x, P (r x).state) : P (withTrain s h r).state := by
  refine withCurrent_state hs ?_
  split
  · exact hr _
  · exact hs

theorem withIncident_state (hs : P s) {h : Handle} {r : Incident → Reply} (hr : ∀ c, P (r c).state) :
    P (withIncident s h r).state := by
  refine withCurrent_state hs ?_
  split
  · exact hr _
  · exact hs

theorem withAnn_state (hs : P s) {h : Handle} {r : Ann → Reply} (hr : ∀ a, P (r a).state) : P (withAnn s h r).state := by
  refine withCurrent_state hs ?_
  split
  · exact hr _
  · exact hs

theorem withValue_state {α : Type} (hs : P s) {v : Option α} {r : α → Reply} (hr : ∀ x, P (r x).state) :
    P (withValue s v r).state := by
  cases v with
  | none => exact hs
  | some x => exact hr x

theorem withTrainArg_state (hs : P s) {h : Handle} {r : Option Handle → Reply} (hr : ∀ x, P (r x).state) :
    P (s.withTrainArg h r).state := by
  unfold State.withTrainArg
  split
  · exact hr _
  · exact withTrain_state hs fun _ => hr _

theorem found_state (s : State) (i : Option Nat) : (s.found i).state = s := by
  cases i <;> rfl

end Checks
end Sys2Proof.Machine
namespace Sys2Proof.Machine
open Sys2Proof

/-! ### Every command keeps them -/

theorem kept_next {s u t : State} (e : Host.Outcome.next u = (.next t : Out)) (h : Kept s u) : Kept s t :=
  Host.Outcome.next.inj e ▸ h

theorem kept_answer {s t : State} {code tag : Nat} {r : Reply} (e : answer code tag r = .next t) (h : Kept s r.state) : Kept s t :=
  kept_next e (h.trans (State.kept_reply _ _))

theorem kept_retireRecord (s : State) (i : Nat) : Kept s (s.retireRecord i).state := by
  unfold State.retireRecord
  split
  · exact Kept.refl s
  · next t _ => exact ((s.steady_retireTrain i t).held fun h => State.countersOk_retireTrain h i t).endEvent s
  · exact need_state (Kept.refl s) fun _ => (s.calm_retireIncident i).held.endEvent s
  · exact (s.calm_retireAnn i).held.endEvent s

section Commands
open State

theorem kept_execWalk {s t : State} {tag list platform : Nat} {after : Handle}
    (e : execWalk tag list platform after s = .next t) : Kept s t := by
  have same : Kept s s := Kept.refl s
  refine kept_answer e (whenOperating_state same (withOptional_state same (withValue_state same fun l => ?_)))
  exact need_state same fun _ => by rw [found_state]; exact same

theorem kept_execFindTrain {s t : State} {tag keyKind key : Nat} {after : Handle}
    (e : execFindTrain tag keyKind key after s = .next t) : Kept s t := by
  have same : Kept s s := Kept.refl s
  refine kept_answer e (whenOperating_state same (withOptional_state same (need_state same fun _ => ?_)))
  exact need_state same fun _ => by rw [found_state]; exact same

theorem kept_execFindIncident {s t : State} {tag kind locKind loc : Nat} {after : Handle}
    (e : execFindIncident tag kind locKind loc after s = .next t) : Kept s t := by
  have same : Kept s s := Kept.refl s
  refine kept_answer e (whenOperating_state same (withOptional_state same (withValue_state same fun k => ?_)))
  refine withValue_state same fun l => need_state same fun _ => ?_
  rw [found_state]; exact same

theorem kept_execCreateTrain {s t : State} {tag vehicle service origin tripStart : Nat} {manual : Option Bool}
    (e : execCreateTrain tag vehicle service origin tripStart manual s = .next t) : Kept s t := by
  have same : Kept s s := Kept.refl s
  refine kept_answer e (whenOperating_state same (need_state same fun _ => need_state same fun _ => ?_))
  exact need_state same fun _ => need_state same fun _ => (s.calm_createTrain _).held.endEvent s

theorem kept_execAmendTrain {s t : State} {tag : Nat} {h : Handle} {service origin tripStart : Option Nat} {manual : Option Bool}
    (e : execAmendTrain tag h service origin tripStart manual s = .next t) : Kept s t := by
  have same : Kept s s := Kept.refl s
  refine kept_answer e (whenOperating_state same (withTrain_state same fun x => ?_))
  refine need_state same fun _ => need_state same fun _ => Held.endEvent (Calm.held ?_) s
  exact (s.calm_modTrain h.slot _).trans (calm_amendManual _ _ _)

theorem kept_execForceDepart {s t : State} {tag : Nat} {h : Handle} (e : execForceDepart tag h s = .next t) : Kept s t := by
  have same : Kept s s := Kept.refl s
  refine kept_answer e (whenOperating_state same (withTrain_state same fun x => need_state same fun _ => ?_))
  exact (s.calm_forceDeparture h.slot x).held.endEvent s

theorem kept_execRaiseIncident {s t : State} {tag severity locKind loc : Nat} {restr : RestrictionArg} {ann : AnnouncementArg}
    (e : execRaiseIncident tag severity locKind loc restr ann s = .next t) : Kept s t := by
  have same : Kept s s := Kept.refl s
  refine kept_answer e (whenOperating_state same (need_state same fun _ => withValue_state same fun l => ?_))
  refine withValue_state same fun r => withValue_state same fun a => need_state same fun _ => need_state same fun _ => ?_
  exact (s.calm_createIncident _).held.endEvent s

theorem kept_execAmendIncident {s t : State} {tag : Nat} {h : Handle} {severity : Option Nat} {restr : Option RestrictionArg}
    {ann : Option AnnouncementArg} (e : execAmendIncident tag h severity restr ann s = .next t) : Kept s t := by
  have same : Kept s s := Kept.refl s
  refine kept_answer e (whenOperating_state same (withIncident_state same fun c => need_state same fun _ => ?_))
  refine need_state same fun _ => withValue_state same fun r => withValue_state same fun a => Held.endEvent (Calm.held ?_) s
  exact ((s.calm_amendSeverity _ _).trans (calm_amendRestriction _ _ _)).trans (calm_amendAnnouncement _ _ _)

theorem kept_execAcknowledge {s t : State} {tag : Nat} {h : Handle} (e : execAcknowledge tag h s = .next t) : Kept s t := by
  have same : Kept s s := Kept.refl s
  refine kept_answer e (whenOperating_state same (withIncident_state same fun c => need_state same fun _ => ?_))
  exact (s.calm_acknowledgeIncident h.slot c).held.endEvent s

theorem kept_execClear {s t : State} {tag : Nat} {h : Handle} (e : execClear tag h s = .next t) : Kept s t := by
  have same : Kept s s := Kept.refl s
  refine kept_answer e (whenOperating_state same (withIncident_state same fun c => need_state same fun _ => ?_))
  exact (s.calm_enterCleared h.slot).held.endEvent s

theorem kept_execCreateAnnouncement {s t : State} {tag platform message priority : Nat} {train : Handle} {minutes : Option Nat}
    {mode : ModeArg} (e : execCreateAnnouncement tag platform message priority train minutes mode s = .next t) : Kept s t := by
  have same : Kept s s := Kept.refl s
  refine kept_answer e (whenOperating_state same (withTrainArg_state same fun x => need_state same fun _ => ?_))
  refine withValue_state same fun m => need_state same fun _ => need_state same fun _ => ?_
  exact (s.calm_createAnn _).held.endEvent s

theorem kept_execAmendAnnouncement {s t : State} {tag : Nat} {h : Handle} {message minutes : Option Nat} {mode : Option ModeArg}
    (e : execAmendAnnouncement tag h message minutes mode s = .next t) : Kept s t := by
  have same : Kept s s := Kept.refl s
  refine kept_answer e (whenOperating_state same (withAnn_state same fun a => need_state same fun _ => ?_))
  exact withValue_state same fun m => (s.calm_amendAnn h.slot message minutes m).held.endEvent s

theorem kept_execIsolate {s t : State} {tag sect : Nat} {emergency : Bool}
    (e : execIsolate tag sect emergency s = .next t) : Kept s t := by
  have same : Kept s s := Kept.refl s
  refine kept_answer e (whenOperating_state same (need_state same fun _ => need_state same fun _ => ?_))
  refine need_state same fun _ => need_state same fun _ => Held.endEvent ?_ s
  exact (s.steady_isolateSect sect).held fun h => countersOk_isolateSect h sect

theorem kept_execEnergise {s t : State} {tag sect : Nat} (e : execEnergise tag sect s = .next t) : Kept s t := by
  have same : Kept s s := Kept.refl s
  refine kept_answer e (whenOperating_state same (need_state same fun _ => need_state same fun _ => ?_))
  refine need_state same fun _ => Held.endEvent ?_ s
  exact (s.steady_energiseSect sect).held fun h => countersOk_energiseSect h sect

theorem kept_execRestore {s t : State} {tag sect : Nat} (e : execRestore tag sect s = .next t) : Kept s t := by
  have same : Kept s s := Kept.refl s
  refine kept_answer e (whenOperating_state same (need_state same fun _ => need_state same fun _ => ?_))
  refine need_state same fun _ => Held.endEvent ?_ s
  exact (s.steady_restoreSect sect).held fun h => countersOk_restoreSect h sect

theorem kept_execSetWarningLevel {s t : State} {tag sect level : Nat}
    (e : execSetWarningLevel tag sect level s = .next t) : Kept s t := by
  have same : Kept s s := Kept.refl s
  refine kept_answer e (whenOperating_state same (need_state same fun _ => Held.endEvent ?_ s))
  exact (s.steady_setWarning sect _).held fun h => countersOk_setWarning h sect _

theorem kept_execSelectPattern {s t : State} {tag pattern : Nat} (e : execSelectPattern tag pattern s = .next t) : Kept s t := by
  have same : Kept s s := Kept.refl s
  refine kept_answer e (whenOperating_state same (need_state same fun _ => need_state same fun _ => ?_))
  refine need_state same fun _ => Held.endEvent ?_ s
  exact (s.steady_setPattern pattern).held fun h => countersOk_setPattern h pattern

theorem kept_execEnterDegraded {s t : State} {tag pattern : Nat} (e : execEnterDegraded tag pattern s = .next t) : Kept s t := by
  have same : Kept s s := Kept.refl s
  refine kept_answer e (whenOperating_state same (need_state same fun _ => need_state same fun _ => Held.endEvent ?_ s))
  split
  · exact (s.steady_setPattern pattern).held fun h => countersOk_setPattern h pattern
  · exact (s.steady_enterFromClear pattern).held fun h => countersOk_enterFromClear h pattern

theorem kept_execResume {s t : State} {tag : Nat} (e : execResume tag s = .next t) : Kept s t := by
  have same : Kept s s := Kept.refl s
  refine kept_answer e (whenOperating_state same (need_state same fun _ => Held.endEvent ?_ s))
  exact s.steady_leaveDegraded.held countersOk_leaveDegraded

theorem kept_execReadSaveEntry {s t : State} {tag : Nat} {h : Handle} (e : execReadSaveEntry tag h s = .next t) : Kept s t := by
  have same : Kept s s := Kept.refl s
  refine kept_answer e (whenOperating_state same (withTrain_state same fun x => need_state same fun _ => ?_))
  split <;> exact same

theorem kept_execAmendSaveEntry {s t : State} {tag : Nat} {h : Handle} {lateness : Option Int} {service : Option Nat}
    (e : execAmendSaveEntry tag h lateness service s = .next t) : Kept s t := by
  have same : Kept s s := Kept.refl s
  refine kept_answer e (whenOperating_state same (withTrain_state same fun x => need_state same fun _ => ?_))
  refine need_state same fun _ => need_state same fun _ => ?_
  dsimp only
  split
  · exact Held.kept ⟨id, id, id, id, id⟩ rfl rfl rfl
  · exact same

theorem kept_execSetTime {s t : State} {tag time : Nat} (e : execSetTime tag time s = .next t) : Kept s t := by
  have same : Kept s s := Kept.refl s
  refine kept_answer e (need_state same fun _ => need_state same fun inDay => ?_)
  exact s.kept_moveTime (of_decide_eq_true inDay)

theorem kept_execLoadConfig {s t : State} {tag table first : Nat} {bytes : List Byte}
    (e : execLoadConfig tag table first bytes s = .next t) : Kept s t := by
  have same : Kept s s := Kept.refl s
  refine kept_answer e (need_state same fun _ => ?_)
  split
  · exact same
  · exact need_state same fun _ => (s.held_setTables _).judgeLines

theorem kept_execStart {s t : State} {tag : Nat} (e : execStart tag s = .next t) : Kept s t := by
  have same : Kept s s := Kept.refl s
  refine kept_answer e ?_
  split
  · exact same
  · split
    · exact same
    · exact s.held_startLine.judgeLines

theorem kept_execConfigReload {s t : State} {tag : Nat} (e : execConfigReload tag s = .next t) : Kept s t := by
  have same : Kept s s := Kept.refl s
  refine kept_answer e ?_
  split
  · exact same
  · exact need_state same fun _ => (s.held_setPart _).judgeLines

theorem kept_execReadAttention {s t : State} {tag : Nat} {cls : Option Nat}
    (e : execReadAttention tag cls s = .next t) : Kept s t := by
  have same : Kept s s := Kept.refl s
  refine kept_answer e (withValue_state same fun all => ?_)
  split
  · exact s.kept_clearReturned _
  · exact same

theorem kept_execControlFrameByteGap {s t : State} (e : execControlFrameByteGap s = .next t) : Kept s t := by
  have hunting : Kept s s.huntControl := s.kept_modLinks rfl rfl
  refine kept_next e ?_
  split
  · exact hunting.trans (kept_replyBadFrame _)
  · exact hunting.trans (kept_modLinks _ rfl rfl)

theorem kept_execArrive {s t : State} {vehicle platform time : Nat}
    (e : execArrive vehicle platform time s = .next t) : Kept s t :=
  kept_next e (s.kept_takeReport time _ fun t => t.held_takePassage vehicle platform time fun u i x a c =>
    u.held_takeArrive platform i x a c)

theorem kept_execDepart {s t : State} {vehicle platform time : Nat}
    (e : execDepart vehicle platform time s = .next t) : Kept s t :=
  kept_next e (s.kept_takeReport time _ fun t => t.held_takePassage vehicle platform time fun u i x a c =>
    u.held_takeDepart platform i x a c)

theorem kept_execFeeder {s t : State} {sect : Nat} {cls : SupplyClass} {breaker : Position} {time : Nat}
    (e : execFeeder sect cls breaker time s = .next t) : Kept s t :=
  kept_next e (s.kept_takeReport time _ fun t =>
    (t.steady_takeFeeder sect cls breaker).held fun h => countersOk_takeFeeder h sect cls breaker)

theorem kept_execSubstation {s t : State} {substation : Nat} {up : Bool} {time : Nat}
    (e : execSubstation substation up time s = .next t) : Kept s t :=
  kept_next e (s.kept_takeReport time _ fun t =>
    (t.steady_takeSubstation substation up).held fun h => countersOk_takeSubstation h substation up)

theorem kept_execDirectiveSent {s t : State} (e : execDirectiveSent s = .next t) : Kept s t := by
  have same : Kept s s := Kept.refl s
  refine kept_next e ?_
  split
  · exact s.kept_sendHead
  · exact same

/-- What a command comes to keeps the invariants, by the operation of its arm. -/
theorem kept_exec {c : Instr} {s t : State} (e : exec c s = .next t) : Kept s t := by
  have same : Kept s s := Kept.refl s
  cases c with
  | coldReset => exact kept_next e s.kept_coldReset
  | lineTimeTick => exact kept_next e s.kept_tick
  | lookup _ _ => exact kept_answer e (whenOperating_state same (withCurrent_state same same))
  | walk _ _ _ _ => exact kept_execWalk e
  | findTrain _ _ _ _ => exact kept_execFindTrain e
  | findIncident _ _ _ _ _ => exact kept_execFindIncident e
  | createTrain _ _ _ _ _ _ => exact kept_execCreateTrain e
  | amendTrain _ _ _ _ _ _ => exact kept_execAmendTrain e
  | forceDepart _ _ => exact kept_execForceDepart e
  | retire _ h => exact kept_answer e (whenOperating_state same (withCurrent_state same (kept_retireRecord s h.slot)))
  | raiseIncident _ _ _ _ _ _ => exact kept_execRaiseIncident e
  | amendIncident _ _ _ _ _ => exact kept_execAmendIncident e
  | acknowledge _ _ => exact kept_execAcknowledge e
  | clear _ _ => exact kept_execClear e
  | createAnnouncement _ _ _ _ _ _ _ => exact kept_execCreateAnnouncement e
  | amendAnnouncement _ _ _ _ _ => exact kept_execAmendAnnouncement e
  | readPlatform _ _ => exact kept_answer e (whenOperating_state same (need_state same fun _ => same))
  | readSection _ _ => exact kept_answer e (whenOperating_state same (need_state same fun _ => same))
  | readSubstation _ _ => exact kept_answer e (whenOperating_state same (need_state same fun _ => same))
  | isolate _ _ _ => exact kept_execIsolate e
  | energise _ _ => exact kept_execEnergise e
  | restore _ _ => exact kept_execRestore e
  | setWarningLevel _ _ _ => exact kept_execSetWarningLevel e
  | selectPattern _ _ => exact kept_execSelectPattern e
  | enterDegraded _ _ => exact kept_execEnterDegraded e
  | resume _ => exact kept_execResume e
  | readSaveEntry _ _ => exact kept_execReadSaveEntry e
  | amendSaveEntry _ _ _ _ => exact kept_execAmendSaveEntry e
  | setTime _ _ => exact kept_execSetTime e
  | adjustTime _ _ => exact kept_answer e (s.kept_adjustTime _)
  | readTime _ => exact kept_answer e same
  | loadConfig _ _ _ _ => exact kept_execLoadConfig e
  | start _ => exact kept_execStart e
  | configReload _ => exact kept_execConfigReload e
  | linkRestart _ => exact kept_answer e s.kept_restart
  | readAttention _ _ => exact kept_execReadAttention e
  | setAttentionMask _ mask => exact kept_answer e (s.kept_setMask mask)
  | readStatus _ => exact kept_answer e same
  | readShadow _ _ => exact kept_answer e (need_state same fun _ => same)
  | unknownRequestCode _ _ _ => exact kept_answer e same
  | badFrame => exact kept_next e s.kept_replyBadFrame
  | controlFrameByteGap => exact kept_execControlFrameByteGap e
  | frameNotKept => exact kept_next e s.kept_replyBadFrame
  | arrive _ _ _ => exact kept_execArrive e
  | depart _ _ _ => exact kept_execDepart e
  | feeder _ _ _ _ => exact kept_execFeeder e
  | substation _ _ _ => exact kept_execSubstation e
  | platformAlarm platform on severity _ =>
    exact kept_next e (s.kept_takeReport _ _ fun t => (t.calm_takeAlarm platform on severity).held)
  | fieldBadFrame => exact kept_next e s.kept_badFieldFrame
  | fieldFrameByteGap => exact kept_next e (Kept.trans (s.kept_modLinks rfl rfl) (kept_badFieldFrame s.huntField))
  | directiveSent => exact kept_execDirectiveSent e
  | ready platform => exact kept_next e (s.kept_takeStatus platform (s.calm_playerReady platform).held)
  | started platform => exact kept_next e (s.kept_takeStatus platform (s.calm_playerStarted platform).held)
  | refused platform => exact kept_next e (s.kept_takeStatus platform (s.calm_playerRefused platform).held)
  | ended platform => exact kept_next e (s.kept_takeStatus platform (s.calm_playerEnded platform).held)
  | statusFrameBad => exact kept_next e same
  | statusFrameByteGap => exact kept_next e (s.kept_modLinks rfl rfl)
  | departureExpiry i | overdueExpiry i | approachExpiry i | operationExpiry i | escalationExpiry i | restExpiry i | startExpiry i
  | stopExpiry i => exact kept_next ((exec_of_isExpiry rfl s).symm.trans e) (s.kept_takeExpiry _ _)
  | waitExpiry k h | leaseExpiry k h => exact kept_next ((exec_of_isExpiry rfl s).symm.trans e) (kept_takeExpiry _ s _)

end Commands

/-- A step takes a command from one of two queues that nothing here reads, or idles. -/
theorem kept_step {s t : State} (e : step s = .next t) : Kept s t := by
  unfold step at e
  split at e
  · next c rest _ =>
    have taken : Kept s { s with pending := rest } := Held.kept ⟨id, id, id, id, id⟩ rfl rfl rfl
    exact taken.trans (kept_exec e)
  · next c rest _ _ =>
    have taken : Kept s (s.modLinks fun l => { l with waiting := rest }) := s.kept_modLinks rfl rfl
    exact taken.trans (kept_exec e)
  · exact kept_next e (Kept.refl s)

/-- Settles O53: an event ends with its lines judged and what it does is steady (`Steady`) but for the counters, whose own
updates stay in range; so every command keeps the invariants, and with it the step that takes it. -/
theorem linesTargetsAndCountersAreKept : Obligations.LinesTargetsAndCountersAreKept := by
  unfold Obligations.LinesTargetsAndCountersAreKept
  refine ⟨fun s t lines e => (kept_step e).lines lines, fun s t targets e => (kept_step e).targets targets, ?_,
    fun s t counters e => (kept_step e).counters counters⟩
  rintro s t ⟨clock, mask, badCount⟩ e
  have kept := kept_step e
  exact ⟨kept.clock clock, kept.mask mask, kept.badCount badCount⟩

end Sys2Proof.Machine

/-! The step, cold reset, and the invariants of the reset state. -/

namespace Sys2Proof.Machine
open Sys2Proof

/-! ### The step (R176; log 1, log 16) -/

/-- Settles O1: `step` is the match on the two queues. -/
theorem stepTakesTheFrontCommand : Obligations.StepTakesTheFrontCommand := by
  unfold Obligations.StepTakesTheFrontCommand
  refine ⟨fun s c rest hp => ?_, fun s c rest hp hw => ?_, fun s hp hw => ?_⟩
  · simp only [step, hp]
  · simp only [step, hp, hw]
  · simp only [step, hp, hw]

/-! ### The reset state (R19, R42) -/

/-- A table of copies of one default entry reads as that entry everywhere. -/
theorem getD_replicate_self {α : Type} (n i : Nat) (x : α) : (List.replicate n x).getD i x = x := by
  simp only [List.getD_eq_getElem?_getD, List.getElem?_replicate]
  split <;> rfl

namespace State

theorem reset_slot (i : Nat) : State.reset.slot i = {} := getD_replicate_self _ i _
theorem reset_queue (p : Nat) : State.reset.queue p = [] := getD_replicate_self _ p _
theorem reset_platform (p : Nat) : State.reset.platform p = {} := getD_replicate_self _ p _
theorem reset_sect (i : Nat) : State.reset.sect i = {} := getD_replicate_self _ i _
theorem reset_substation (k : Nat) : State.reset.substation k = {} := getD_replicate_self _ k _
theorem reset_shadow (n : Nat) : State.reset.shadow n = none := getD_replicate_self _ n _

theorem reset_free : State.reset.pool.free = List.range Config.slotEntries := by simp only [State.reset, Pool.reset]

theorem reset_trains : State.reset.pool.trains = [] := rfl
theorem reset_incidents : State.reset.pool.incidents = [] := rfl

theorem reset_train? (i : Nat) : State.reset.train? i = none := by rw [train?, reset_slot]
theorem reset_incident? (i : Nat) : State.reset.incident? i = none := by rw [incident?, reset_slot]
theorem reset_ann? (i : Nat) : State.reset.ann? i = none := by rw [ann?, reset_slot]

end State

/-- Settles O2: the replacement is `coldReset` itself, and the reset state is read table by table. -/
theorem coldResetLeavesTheResetState : Obligations.ColdResetLeavesTheResetState := by
  unfold Obligations.ColdResetLeavesTheResetState
  refine ⟨fun s => rfl, rfl, rfl, rfl, fun i _ => State.reset_slot i, State.reset_free, rfl, rfl, State.reset_queue, fun i => ?_, fun k => ?_,
    State.reset_platform, rfl, rfl, rfl, State.reset_shadow⟩
  · rw [State.reset_sect]; exact ⟨rfl, rfl⟩
  · rw [State.reset_substation]; exact ⟨rfl, rfl⟩

/-! ### The invariants at reset -/

namespace State

theorem reset_sized : State.reset.Sized := by
  simp [Sized, State.reset, Pool.reset]

theorem reset_pooled : State.reset.Pooled where
  free i := by rw [reset_slot, reset_free, List.mem_range]; exact ⟨fun h => ⟨h, rfl⟩, fun h => h.1⟩
  trains i := by simp [reset_train?, reset_trains]
  incidents i := by simp [reset_incident?, reset_incidents]
  queues p i := by simp [reset_queue, reset_ann?]
  freeOnce := reset_free ▸ List.nodup_range
  trainsOnce := List.nodup_nil
  incidentsOnce := List.nodup_nil
  queuesOnce p := by rw [reset_queue]; exact List.nodup_nil
  epochs i := by simp [reset_slot]

theorem reset_placed : State.reset.Placed where
  origins i x h := by simp [reset_train?] at h
  positions i x p h := by simp [reset_train?] at h
  anns i a h := by simp [reset_ann?] at h
  copies i c h := by simp [reset_incident?] at h

theorem reset_sound : State.reset.Sound := ⟨reset_sized, reset_pooled, reset_placed, fun h => nomatch h⟩

theorem reset_queuesOk : State.reset.QueuesOk where
  waiting k e he := by simp [reset_substation] at he
  once := by
    have empty : ∀ n, ((List.replicate n ({} : Substation)).flatMap Substation.queue).map Entry.train = [] := fun n => by
      rw [List.map_eq_nil_iff, List.flatMap_eq_nil_iff]
      intro b hb
      rw [List.eq_of_mem_replicate hb]
    rw [show State.reset.substations = List.replicate 12 {} from rfl, empty]
    exact List.nodup_nil

theorem reset_capsOk : State.reset.CapsOk where
  trains := Nat.zero_le _
  incidents := Nat.zero_le _
  queues p := by rw [reset_queue]; exact Nat.zero_le _

theorem reset_nothingOwed : State.reset.NothingOwed where
  platforms p := by rw [reset_platform]
  sects i := by rw [reset_sect]
  substations k := by rw [reset_substation]
  trains i x h := by simp [reset_train?] at h
  copies i c h := by simp [reset_incident?] at h

theorem reset_configured : State.reset.Configured where
  checked h := nomatch h
  empty _ := ⟨rfl, rfl, reset_queue⟩
  patterns := ⟨Nat.zero_lt_succ _, Nat.zero_lt_succ _⟩
  trains i x h := by simp [reset_train?] at h

theorem reset_playersOk : State.reset.PlayersOk where
  cued p h := by simp [reset_platform] at h
  quiet p _ := by rw [reset_platform]
  timed p := by simp [reset_platform]
  selected i a h := by simp [reset_ann?] at h
  idle p _ := by rw [queuedOn, reset_queue, List.find?_nil]
  done i a h := by simp [reset_ann?] at h

theorem reset_savesOk : State.reset.SavesOk where
  live _ he := nomatch he
  marked i x h := by simp [reset_train?] at h
  once := List.nodup_nil
  order := List.nil_sublist _
  clear _ := rfl
  values _ he := nomatch he
  services i x h := by simp [reset_train?] at h

end State

/-- Settles O3: no record is live, no queue has an entry and every table is as it was built. -/
theorem resetMeetsTheInvariants : Obligations.ResetMeetsTheInvariants := by
  unfold Obligations.ResetMeetsTheInvariants
  have counters : State.reset.CountersOk := fun i => by rw [State.reset_sect]; exact ⟨Nat.zero_le _, Nat.zero_le _⟩
  have balanced : State.reset.Balanced := fun b hb => by rw [List.eq_of_mem_replicate hb]; rfl
  exact ⟨State.reset_sound, State.reset_queuesOk, fun i j x y h => by simp [State.reset_train?] at h, State.reset_capsOk,
    State.reset_nothingOwed, Nat.zero_lt_succ _, Nat.zero_le _, Nat.zero_lt_succ _, State.linesJudged_reset, List.nodup_nil,
    balanced, counters, State.reset_configured, ⟨.nil, fun p => by rw [State.reset_queue]; exact .nil⟩, State.reset_playersOk,
    fun i x h => by simp [State.reset_train?] at h,
    ⟨fun i a h => by simp [State.reset_ann?] at h, fun i c a h => by simp [State.reset_incident?] at h⟩, State.reset_savesOk⟩

end Sys2Proof.Machine

/-! Reads, LOAD CONFIG, START and CONFIG RELOAD, and the frames. -/

namespace Sys2Proof.Machine
open Sys2Proof

/-! ### The checks of a request, passed and failed (R177) -/

@[simp] theorem need_true (s : State) (st : Status) (r : Reply) : need s true st r = r := rfl
@[simp] theorem need_false (s : State) (st : Status) (r : Reply) : need s false st r = refuse s st := rfl

theorem whenOperating_operating {s : State} (h : s.part = .operating) (r : Reply) : whenOperating s r = r := by
  simp [whenOperating, h]

theorem whenOperating_unconfigured {s : State} (h : s.part = .unconfigured) (r : Reply) :
    whenOperating s r = refuse s .notConfigured := by
  rw [whenOperating, h]; rfl

theorem withCurrent_current {s : State} {h : Handle} (hc : s.current h = true) (r : Reply) : withCurrent s h r = r := by
  simp [withCurrent, hc]

theorem withCurrent_stale {s : State} {h : Handle} (hc : s.current h = false) (r : Reply) :
    withCurrent s h r = refuse s .staleHandle := by
  simp [withCurrent, hc]

/-! ### Slots and records (R20, R21) -/

namespace State

theorem train?_eq_some {s : State} {i : Nat} {x : Train} : s.train? i = some x ↔ (s.slot i).record = .train x := by
  unfold train?
  cases (s.slot i).record <;> simp

theorem incident?_eq_some {s : State} {i : Nat} {c : Incident} : s.incident? i = some c ↔ (s.slot i).record = .incident c := by
  unfold incident?
  cases (s.slot i).record <;> simp

theorem ann?_eq_some {s : State} {i : Nat} {a : Ann} : s.ann? i = some a ↔ (s.slot i).record = .ann a := by
  unfold ann?
  cases (s.slot i).record <;> simp

theorem current_iff {s : State} {h : Handle} : s.current h = true ↔
    h ≠ ⟨0, 0⟩ ∧ h.slot < 256 ∧ (s.slot h.slot).record ≠ .free ∧ (s.slot h.slot).epoch = h.epoch := by
  have free : (s.slot h.slot).record.kind = .free ↔ (s.slot h.slot).record = .free := by
    cases (s.slot h.slot).record <;> simp [Rec.kind]
  simp [current, Handle.null, free, and_assoc]

theorem handle_of_current {s : State} {h : Handle} (hc : s.current h = true) : s.handle h.slot = h := by
  obtain ⟨-, -, -, epoch⟩ := current_iff.mp hc
  rw [handle, epoch]

end State

/-! ### Reads (R38, R5, R104, R120) -/

theorem execLookup_current {s : State} {tag : Nat} {h : Handle} (hp : s.part = .operating) (hc : s.current h = true) :
    exec (.lookup tag h) s = .next (s.reply ⟨1, tag, .done, s.recordBody h.slot⟩) := by
  change answer 1 tag (whenOperating s (withCurrent s h _)) = _
  rw [whenOperating_operating hp, withCurrent_current hc]; rfl

theorem State.fallbackUp_iff {s : State} {i : Nat} :
    s.fallbackUp i = true ↔ ∃ f, (s.sectCfg i).fallback = some f ∧ (s.substation f).up = true := by
  unfold State.fallbackUp
  split
  · next f hf => simp [State.up, hf]
  · next hf => simp [hf]

/-- The supplier is the primary where it is UP and the section stands to be fed from it, else the fallback of ON FALLBACK (R83). -/
theorem State.supplier_eq_some {s : State} {i k : Nat} : s.supplier i = some k ↔
    k = (s.sectCfg i).primary ∧ (s.substation k).up = true ∧ ((s.sect i).state = .energised ∨ (s.sect i).state = .recovering) ∨
      (s.sectCfg i).fallback = some k ∧ (s.substation k).up = true ∧ ¬ (s.substation (s.sectCfg i).primary).up = true ∧
        (s.sect i).state = .onFallback := by
  simp only [State.supplier]
  by_cases primary : s.up (s.sectCfg i).primary = true
  · by_cases fed : (s.sect i).state = .energised ∨ (s.sect i).state = .recovering
    · rw [if_pos primary, if_pos (by simpa using fed), Option.some.injEq]
      constructor
      · rintro rfl; exact .inl ⟨rfl, primary, fed⟩
      · rintro (⟨rfl, -, -⟩ | ⟨-, -, down, -⟩)
        · rfl
        · exact absurd primary down
    · rw [if_pos primary, if_neg (by simpa using fed)]
      have up : (s.substation (s.sectCfg i).primary).up = true := primary
      simp [fed, up]
  · rw [if_neg primary]
    by_cases fallback : (s.sect i).state = .onFallback ∧ s.fallbackUp i = true
    · rw [if_pos (by simpa using fallback)]
      obtain ⟨f, hf, up⟩ := State.fallbackUp_iff.mp fallback.2
      constructor
      · intro h
        obtain rfl : f = k := Option.some.inj (hf.symm.trans h)
        exact .inr ⟨h, up, primary, fallback.1⟩
      · rintro (⟨rfl, up, -⟩ | ⟨h, -, -, -⟩)
        · exact absurd up primary
        · exact h
    · rw [if_neg (by simpa using fallback)]
      refine iff_of_false (fun h => nomatch h) ?_
      rintro (⟨rfl, up, -⟩ | ⟨h, up, -, st⟩)
      · exact primary up
      · exact fallback ⟨st, State.fallbackUp_iff.mpr ⟨k, h, up⟩⟩

/-- Settles O18: LOOKUP by the two outcomes of its handle's check, the reads by theirs, and the supplier by its two sources. -/
theorem readsReturnTheRecordsAsTheyStand : Obligations.ReadsReturnTheRecordsAsTheyStand := by
  unfold Obligations.ReadsReturnTheRecordsAsTheyStand
  refine ⟨fun s tag h hp => ⟨State.current_iff, fun hc => ?lookup, fun hc => ?stale⟩, fun s tag n hp => ?reads, fun s i => ?supply⟩
  case lookup =>
    have handle := State.handle_of_current hc
    have read := execLookup_current (tag := tag) hp hc
    refine ⟨fun x hx => ?_, fun c hx => ?_, fun a hx => ?_⟩
    · rw [read, State.recordBody, State.train?_eq_some.mp hx, handle]
    · rw [read, State.recordBody, State.incident?_eq_some.mp hx, handle]
    · rw [read, State.recordBody, State.ann?_eq_some.mp hx, handle]
  case stale =>
    change answer 1 tag (whenOperating s (withCurrent s h _)) = _
    rw [whenOperating_operating hp, withCurrent_stale hc]; rfl
  case reads =>
    have taken : ∀ (code : Nat) (ok : Bool) (b : Body), answer code tag (whenOperating s (need s ok .outOfRange (done s b))) =
        .next (s.reply (if ok then ⟨code, tag, .done, b⟩ else ⟨code, tag, .outOfRange, .empty⟩)) := fun code ok b => by
      rw [whenOperating_operating hp]; cases ok <;> rfl
    refine ⟨fun h => ?_, fun h => ?_, fun h => ?_, fun h => ?_, fun h => ?_, fun h => ?_⟩
    · exact (taken 15 (s.platformOk n) _).trans (by rw [State.platformOk, decide_eq_true h]; rfl)
    · exact (taken 16 (s.sectOk n) _).trans (by rw [State.sectOk, decide_eq_true h]; rfl)
    · exact (taken 17 (s.substationOk n) _).trans (by rw [State.substationOk, decide_eq_true h]; rfl)
    · exact (taken 15 (s.platformOk n) _).trans (by rw [State.platformOk, decide_eq_false (Nat.not_lt.mpr h)]; rfl)
    · exact (taken 16 (s.sectOk n) _).trans (by rw [State.sectOk, decide_eq_false (Nat.not_lt.mpr h)]; rfl)
    · exact (taken 17 (s.substationOk n) _).trans (by rw [State.substationOk, decide_eq_false (Nat.not_lt.mpr h)]; rfl)
  case supply =>
    refine ⟨fun k => State.supplier_eq_some, ?_, rfl⟩
    simp [State.supplied, Option.isSome_iff_ne_none]

/-! ### LOAD CONFIG (R15, R198) -/

/-- Whole entries are cut off one after another. -/
theorem chunks_whole {n : Nat} (hn : 0 < n) (m fuel : Nat) (l : List Nat) (hl : l.length = n * m) (hf : m ≤ fuel) :
    (chunks n fuel l).length = m ∧ ∀ k, k < m → (chunks n fuel l)[k]? = some ((l.drop (n * k)).take n) := by
  induction m generalizing fuel l with
  | zero =>
    have empty : l = [] := List.eq_nil_of_length_eq_zero (by simpa using hl)
    subst empty
    refine ⟨?_, fun k hk => absurd hk (Nat.not_lt_zero k)⟩
    cases fuel <;> rfl
  | succ m ih =>
    obtain ⟨fuel, rfl⟩ : ∃ f, fuel = f + 1 := ⟨fuel - 1, by omega⟩
    have rest : (l.drop n).length = n * m := by rw [List.length_drop, hl, Nat.mul_succ, Nat.add_sub_cancel]
    obtain ⟨length, entry⟩ := ih fuel (l.drop n) rest (by omega)
    have cut : chunks n (fuel + 1) l = l.take n :: chunks n fuel (l.drop n) := by
      cases l with
      | nil => exact absurd hl (Nat.mul_pos hn (Nat.succ_pos m)).ne
      | cons x xs => rfl
    refine ⟨by rw [cut, List.length_cons, length], fun k hk => ?_⟩
    rw [cut]
    cases k with
    | zero => simp
    | succ k => rw [List.getElem?_cons_succ, entry k (by omega), List.drop_drop, Nat.mul_succ, Nat.add_comm]

/-- The k-th of consecutive entries stored from an index on: each goes to its own place and leaves the others. -/
theorem getElem?_set_from {α : Type} {l : List α} {first k : Nat} {x : α} {xs : List α} (h : first < l.length) :
    (if first + 1 ≤ k ∧ k < first + 1 + xs.length then xs[k - (first + 1)]? else (l.set first x)[k]?) =
      if first ≤ k ∧ k < first + (x :: xs).length then (x :: xs)[k - first]? else l[k]? := by
  rw [List.length_cons, List.getElem?_set]
  by_cases here : first = k
  · subst here
    rw [if_neg (by omega), if_pos rfl, if_pos h, if_pos (by omega), Nat.sub_self, List.getElem?_cons_zero]
  · by_cases inside : first + 1 ≤ k ∧ k < first + 1 + xs.length
    · rw [if_pos inside, if_pos (by omega), show k - first = k - (first + 1) + 1 by omega, List.getElem?_cons_succ]
    · rw [if_neg inside, if_neg here, if_neg (by omega)]

theorem loadEntries_platforms (t : Tables) (first : Nat) (es : List (List Nat)) (h : first + es.length ≤ t.platforms.length) :
    loadEntries t 1 first es = { t with platforms := (loadEntries t 1 first es).platforms } ∧
      ∀ k, (loadEntries t 1 first es).platforms[k]? =
        if first ≤ k ∧ k < first + es.length then (es[k - first]?).map platformCfgOf else t.platforms[k]? := by
  induction es generalizing t first with
  | nil => exact ⟨rfl, fun k => by rw [if_neg (by simp only [List.length_nil]; omega)]; rfl⟩
  | cons e es ih =>
    obtain ⟨rest, entry⟩ := ih (loadEntry t 1 first e) (first + 1) (by
      change _ ≤ (t.platforms.set first _).length
      rw [List.length_set]; rw [List.length_cons] at h; omega)
    refine ⟨?_, fun k => ?_⟩
    · change loadEntries (loadEntry t 1 first e) 1 (first + 1) es = _
      rw [rest]; rfl
    · have place := getElem?_set_from (k := k) (x := platformCfgOf e) (xs := es.map platformCfgOf) (l := t.platforms)
        (first := first) (by rw [List.length_cons] at h; omega)
      rw [← List.map_cons, List.length_map, List.length_map, List.getElem?_map, List.getElem?_map] at place
      exact (entry k).trans place

theorem loadEntries_routes (t : Tables) (first : Nat) (es : List (List Nat)) (h : first + es.length ≤ t.routes.length) :
    loadEntries t 9 first es = { t with routes := (loadEntries t 9 first es).routes } ∧
      ∀ k, (loadEntries t 9 first es).routes[k]? =
        if first ≤ k ∧ k < first + es.length then (es[k - first]?).map routeOf else t.routes[k]? := by
  induction es generalizing t first with
  | nil => exact ⟨rfl, fun k => by rw [if_neg (by simp only [List.length_nil]; omega)]; rfl⟩
  | cons e es ih =>
    obtain ⟨rest, entry⟩ := ih (loadEntry t 9 first e) (first + 1) (by
      change _ ≤ (t.routes.set first _).length
      rw [List.length_set]; rw [List.length_cons] at h; omega)
    refine ⟨?_, fun k => ?_⟩
    · change loadEntries (loadEntry t 9 first e) 9 (first + 1) es = _
      rw [rest]; rfl
    · have place := getElem?_set_from (k := k) (x := routeOf e) (xs := es.map routeOf) (l := t.routes)
        (first := first) (by rw [List.length_cons] at h; omega)
      rw [← List.map_cons, List.length_map, List.length_map, List.getElem?_map, List.getElem?_map] at place
      exact (entry k).trans place

theorem entryBytes_pos {table n : Nat} (h : entryBytes table = some n) : 0 < n ∧ table ≤ 9 := by
  unfold entryBytes at h
  split at h
  all_goals first | cases h; decide | cases h

/-- Settles O10: the body is cut into whole entries, which take their places one after another. -/
theorem loadConfigWritesEntries : Obligations.LoadConfigWritesEntries := by
  unfold Obligations.LoadConfigWritesEntries
  refine ⟨fun s tag table first n m bytes hp hb hl hm hfit => ?_, fun t first es => ⟨fun len fit => ?_, fun len fit => ?_⟩⟩
  · obtain ⟨pos, known⟩ := entryBytes_pos hb
    have whole : entriesOf table bytes = chunks n bytes.length (bytes.map BitVec.toNat) := by rw [entriesOf, hb]
    have enough : m ≤ bytes.length := hl ▸ Nat.le_mul_of_pos_left m pos
    obtain ⟨length, entry⟩ := chunks_whole pos m bytes.length (bytes.map BitVec.toNat) (by rw [List.length_map, hl]) enough
    rw [← whole] at length entry
    refine ⟨length, fun k hk => ?_, ?_⟩
    · rw [entry k hk, List.map_take, List.map_drop]
    · have lengthOk : bodyLengthOk table bytes = true := by simp [bodyLengthOk, hb, hl]
      have fits : (decide (table ≤ 9) && !(entriesOf table bytes).isEmpty
          && decide (first + (entriesOf table bytes).length ≤ entryCount table)) = true := by
        have some : (entriesOf table bytes).isEmpty = false := by
          rw [List.isEmpty_eq_false_iff, ← List.length_pos_iff]; omega
        simp [known, some, length, hfit]
      change answer 30 tag _ = _
      rw [lengthOk, need_true, if_neg (by rw [hp]; decide), fits, need_true]; rfl
  · exact loadEntries_platforms t first es (len ▸ fit)
  · exact loadEntries_routes t first es (len ▸ fit)

end Sys2Proof.Machine

/-! START, CONFIG RELOAD and the frames. -/

namespace Sys2Proof.Machine
open Sys2Proof

/-! ### The checks of START in their order (R16) -/

/-- How many entries of a table START checks. -/
def State.checkedEntries (s : State) : Nat → Nat
  | 0 => 1
  | 1 => s.tables.header.platforms
  | 2 => s.tables.header.sections
  | 3 | 4 | 5 | 6 => s.tables.header.platforms
  | 7 => Config.patternEntries
  | 8 => Config.messageEntries
  | 9 => Config.sourceEntries
  | _ => 0

/-- The check of one entry of a table. -/
def State.entryGood (s : State) : Nat → Nat → Bool
  | 0, _ => s.headerGood
  | 1, p => s.platformGood p
  | 2, i => s.sectGood i
  | 3, p => s.valsGood 0 p
  | 4, p => s.valsGood 1 p
  | 5, p => s.valsGood 2 p
  | 6, p => s.valsGood 3 p
  | 7, q => s.lineGood q
  | 8, k => s.messageGood k
  | _, n => s.routeGood n

/-- An entry comes before another where its table does, or in the same table its index. -/
def EntryBefore (a b : Nat × Nat × Bool) : Prop := a.1 < b.1 ∨ a.1 = b.1 ∧ a.2.1 < b.2.1

namespace State

theorem startChecks_eq (s : State) : s.startChecks =
    (List.range 10).flatMap fun u => (List.range (s.checkedEntries u)).map fun n => (u, n, s.entryGood u n) := by
  have tables : List.range 10 = [0, 1, 2, 3, 4, 5, 6, 7, 8, 9] := rfl
  have patterns : List.range Config.patternEntries = [0, 1, 2, 3] := rfl
  have one : List.range 1 = [0] := rfl
  simp [startChecks, tables, patterns, one, checkedEntries, entryGood]

theorem mem_startChecks {s : State} {u n : Nat} {b : Bool} :
    (u, n, b) ∈ s.startChecks ↔ n < s.checkedEntries u ∧ b = s.entryGood u n := by
  have beyond : n < s.checkedEntries u → u < 10 := fun h => by
    rcases Nat.lt_or_ge u 10 with hu | hu
    · exact hu
    · obtain ⟨m, rfl⟩ := Nat.exists_eq_add_of_le hu
      rw [Nat.add_comm] at h
      exact absurd h (Nat.not_lt_zero n)
  rw [startChecks_eq]
  simp only [List.mem_flatMap, List.mem_map, List.mem_range, Prod.mk.injEq]
  constructor
  · rintro ⟨v, -, m, hm, rfl, rfl, rfl⟩; exact ⟨hm, rfl⟩
  · rintro ⟨hn, rfl⟩; exact ⟨u, beyond hn, n, hn, rfl, rfl, rfl⟩

theorem startChecks_sorted (s : State) : s.startChecks.Pairwise EntryBefore := by
  rw [startChecks_eq, List.pairwise_flatMap]
  refine ⟨fun u _ => ?_, List.pairwise_lt_range.imp fun {u v} huv x hx y hy => ?_⟩
  · rw [List.pairwise_map]
    exact List.pairwise_lt_range.imp fun h => .inr ⟨rfl, h⟩
  · obtain ⟨n, -, rfl⟩ := List.mem_map.mp hx
    obtain ⟨m, -, rfl⟩ := List.mem_map.mp hy
    exact .inl huv

/-- A header that fails is the first entry that does, so the check is one search. -/
theorem startFailure_eq (s : State) : s.startFailure = (s.startChecks.find? fun e => !e.2.2).map fun e => (e.1, e.2.1) := by
  unfold startFailure
  split
  · rfl
  · next h =>
    simp only [startChecks, List.cons_append, List.find?_cons]
    simp [h]

theorem startFailure_eq_none {s : State} :
    s.startFailure = none ↔ ∀ u n, n < s.checkedEntries u → s.entryGood u n = true := by
  rw [startFailure_eq, Option.map_eq_none_iff, List.find?_eq_none]
  constructor
  · intro h u n hn
    simpa using h _ (mem_startChecks.mpr ⟨hn, rfl⟩)
  · rintro h ⟨u, n, b⟩ he
    obtain ⟨hn, rfl⟩ := mem_startChecks.mp he
    simpa using h u n hn

end State

/-- In a list put in order by `before`, a search finds the member that fulfils `p` with none before it. -/
theorem find?_eq_some_of_sorted {α : Type} {before : α → α → Prop} {p : α → Bool} {l : List α} (sorted : l.Pairwise before)
    (asymm : ∀ a b, before a b → ¬ before b a) {a : α} :
    l.find? p = some a ↔ a ∈ l ∧ p a = true ∧ ∀ b ∈ l, before b a → p b = false := by
  rw [List.find?_eq_some_iff_append]
  constructor
  · rintro ⟨pa, pre, post, rfl, none⟩
    refine ⟨by simp, pa, fun b hb hba => ?_⟩
    obtain ⟨-, ordered, -⟩ := List.pairwise_append.mp sorted
    rcases List.mem_append.mp hb with hb | hb
    · simpa using none b hb
    · rcases List.mem_cons.mp hb with rfl | hb
      · exact absurd hba (asymm _ _ hba)
      · exact absurd hba (asymm _ _ ((List.pairwise_cons.mp ordered).1 b hb))
  · rintro ⟨ha, pa, first⟩
    obtain ⟨pre, post, rfl⟩ := List.append_of_mem ha
    obtain ⟨-, -, across⟩ := List.pairwise_append.mp sorted
    exact ⟨pa, pre, post, rfl, fun b hb => by
      rw [first b (by simp [hb]) (across b hb a (by simp))]; rfl⟩

namespace State

theorem startFailure_eq_some {s : State} {u n : Nat} : s.startFailure = some (u, n) ↔
    n < s.checkedEntries u ∧ s.entryGood u n = false ∧
      ∀ v m, m < s.checkedEntries v → (v < u ∨ v = u ∧ m < n) → s.entryGood v m = true := by
  have search := fun a => find?_eq_some_of_sorted (p := fun e : Nat × Nat × Bool => !e.2.2) (a := a) s.startChecks_sorted
    (by rintro ⟨a, b, _⟩ ⟨c, d, _⟩ h k; simp only [EntryBefore] at h k; omega)
  rw [startFailure_eq, Option.map_eq_some_iff]
  constructor
  · rintro ⟨⟨u', n', b⟩, found, same⟩
    obtain ⟨rfl, rfl⟩ : u' = u ∧ n' = n := by simpa using same
    obtain ⟨mem, bad, first⟩ := (search _).mp found
    obtain ⟨hn, rfl⟩ := mem_startChecks.mp mem
    refine ⟨hn, by simpa using bad, fun v m hm earlier => ?_⟩
    simpa using first _ (mem_startChecks.mpr ⟨hm, rfl⟩) earlier
  · rintro ⟨hn, bad, first⟩
    refine ⟨(u, n, s.entryGood u n), (search _).mpr ⟨mem_startChecks.mpr ⟨hn, rfl⟩, by simpa using bad, ?_⟩, rfl⟩
    rintro ⟨v, m, b⟩ he earlier
    obtain ⟨hm, rfl⟩ := mem_startChecks.mp he
    simpa using first v m hm earlier

/-! ### The ranges of each entry (R3, R4, R6, R8, R9) -/

theorem within_iff {low high x : Nat} : within low high x = true ↔ low ≤ x ∧ x ≤ high := by simp [within]

theorem headerGood_iff {s : State} : s.headerGood = true ↔
    (4 ≤ s.tables.header.platforms ∧ s.tables.header.platforms ≤ 48) ∧
      (1 ≤ s.tables.header.sections ∧ s.tables.header.sections ≤ 32) ∧
      (1 ≤ s.tables.header.substations ∧ s.tables.header.substations ≤ 12) := by
  simp only [headerGood, within_iff, Bool.and_eq_true, and_assoc]

theorem platformGood_iff {s : State} {p : Nat} : s.platformGood p = true ↔
    (s.platformCfg p).runSection < s.tables.header.sections ∧ ((s.platformCfg p).approachLead = 0 ∨
      (100 ≤ (s.platformCfg p).approachLead ∧ (s.platformCfg p).approachLead ≤ 1800) ∧
      (1 ≤ (s.platformCfg p).approachCode ∧ (s.platformCfg p).approachCode ≤ 4095)) := by
  simp [platformGood, sectOk, within_iff, and_assoc]

theorem sectGood_iff {s : State} {i : Nat} : s.sectGood i = true ↔
    (s.sectCfg i).primary < s.tables.header.substations ∧
      (∀ f, (s.sectCfg i).fallback = some f → f < s.tables.header.substations ∧ f ≠ (s.sectCfg i).primary) ∧
      (1 ≤ (s.sectCfg i).warning ∧ (s.sectCfg i).warning ≤ 255) := by
  simp only [sectGood, Bool.and_eq_true, within_iff, substationOk, decide_eq_true_eq, and_assoc]
  cases (s.sectCfg i).fallback with
  | none => simp [okIfGiven]
  | some f => simp [okIfGiven]

theorem valsGood_iff {s : State} {q p : Nat} : s.valsGood q p = true ↔
    (s.patternVals q p).d0 ≤ 6000 ∧ (s.patternVals q p).dmin ≤ 6000 ∧
      ((s.patternVals q p).dmin ≤ (s.patternVals q p).dmax ∧ (s.patternVals q p).dmax ≤ 6000) ∧
      (50 ≤ (s.patternVals q p).run ∧ (s.patternVals q p).run ≤ 6000) ∧
      (300 ≤ (s.patternVals q p).headway ∧ (s.patternVals q p).headway ≤ 6000) ∧
      (s.patternVals q p).wh ≤ 1023 ∧ (s.patternVals q p).ws ≤ 1023 ∧
      (50 ≤ (s.patternVals q p).accel ∧ (s.patternVals q p).accel ≤ 600) := by
  simp only [valsGood, within_iff, Bool.and_eq_true, and_assoc, Nat.zero_le, true_and]

theorem lineGood_iff {s : State} {q : Nat} : s.lineGood q = true ↔
    (100 ≤ (s.patternLine q).overdueMargin ∧ (s.patternLine q).overdueMargin ≤ 6000) ∧
      (100 ≤ (s.patternLine q).waitLimit ∧ (s.patternLine q).waitLimit ≤ 6000) ∧
      (∀ k, k < s.tables.header.substations →
        1 ≤ (s.patternLine q).budgets.getD k 0 ∧ (s.patternLine q).budgets.getD k 0 ≤ 8) ∧
      (q = 0 → (s.patternLine q).degraded = false) := by
  simp only [lineGood, within_iff, Bool.and_eq_true, and_assoc, List.all_eq_true, List.mem_range, Bool.or_eq_true, bne_iff_ne,
    Bool.not_eq_true', imp_iff_not_or, ne_eq]

theorem messageGood_iff {s : State} {k : Nat} : s.messageGood k = true ↔
    (s.tables.messages.getD k {}).priority ≤ 3 ∧ (s.tables.messages.getD k {}).raiseCode ≤ 4095 ∧
      (s.tables.messages.getD k {}).clearCode ≤ 4095 := by
  simp [messageGood, codeOk, and_assoc]

theorem routeGood_iff {s : State} {n : Nat} : s.routeGood n = true ↔ s.route n ≤ 7 ∨ s.route n = 255 := by
  simp [routeGood]

end State

theorem execStart_failed {s : State} {table n : Nat} (tag : Nat) (hp : s.part = .unconfigured)
    (h : s.startFailure = some (table, n)) :
    exec (.start tag) s = .next (s.reply ⟨31, tag, .outOfRange, .startFailure table n⟩) := by
  change answer 31 tag (if s.part = .operating then _ else _) = _
  rw [if_neg (by rw [hp]; decide), h]; rfl

/-- Settles O11: the entries stand in the order of their tables, so the search finds the first that fails. -/
theorem startChecksInOrder : Obligations.StartChecksInOrder := by
  unfold Obligations.StartChecksInOrder
  refine ⟨fun s => ?_, fun s tag => ⟨fun hp => ?_, fun hp table n => execStart_failed tag hp⟩⟩
  · intro h ranged good checked
    have isChecked : ∀ u n, checked u n ↔ n < s.checkedEntries u := fun u n => by
      show _ ↔ _
      simp only [checked, h]
      rcases Nat.lt_or_ge u 10 with hu | hu
      · interval_cases u <;> simp [State.checkedEntries]
      · obtain ⟨m, rfl⟩ := Nat.exists_eq_add_of_le hu
        rw [Nat.add_comm 10 m]
        have none : s.checkedEntries (m + 10) = 0 := rfl
        rw [none]; omega
    have isGood : ∀ u n, n < s.checkedEntries u → (good u n ↔ s.entryGood u n = true) := fun u n hn => by
      match u, hn with
      | 0, _ => exact State.headerGood_iff.symm
      | 1, _ => exact State.platformGood_iff.symm
      | 2, _ => exact State.sectGood_iff.symm
      | 3, _ | 4, _ | 5, _ | 6, _ => exact State.valsGood_iff.symm
      | 7, _ => exact State.lineGood_iff.symm
      | 8, _ => exact State.messageGood_iff.symm
      | 9, _ => exact State.routeGood_iff.symm
    refine ⟨?_, fun table n => ?_⟩
    · rw [State.startFailure_eq_none]
      exact ⟨fun all u n hc => (isGood u n ((isChecked u n).mp hc)).mpr (all u n ((isChecked u n).mp hc)),
        fun all u n hn => (isGood u n hn).mp (all u n ((isChecked u n).mpr hn))⟩
    · rw [State.startFailure_eq_some]
      constructor
      · rintro ⟨hn, bad, first⟩
        refine ⟨(isChecked _ _).mpr hn, fun hg => ?_, fun u m hc earlier => ?_⟩
        · rw [(isGood _ _ hn).mp hg] at bad; cases bad
        · exact (isGood u m ((isChecked u m).mp hc)).mpr (first u m ((isChecked u m).mp hc) earlier)
      · rintro ⟨hc, bad, first⟩
        have hn := (isChecked _ _).mp hc
        refine ⟨hn, Bool.eq_false_iff.mpr fun hg => bad ((isGood _ _ hn).mpr hg), fun u m hm earlier => ?_⟩
        exact (isGood u m hm).mp (first u m ((isChecked u m).mpr hm) earlier)
  · change answer 31 tag (if s.part = .operating then _ else _) = _
    rw [if_pos hp, refusePart, hp]; rfl

/-! ### START and CONFIG RELOAD (R17, R18) -/

theorem getD_mapIdx {α : Type} {f : Nat → α → α} {l : List α} {i : Nat} {d : α} (h : i < l.length) :
    (l.mapIdx f).getD i d = f i (l.getD i d) := by
  simp [List.getD_eq_getElem?_getD, h]

namespace State

theorem startLine_sect {s : State} {i : Nat} (h : i < s.sects.length) : s.startLine.sect i = s.startSect i (s.sect i) :=
  getD_mapIdx h

theorem startLine_platform {s : State} {p : Nat} (h : p < s.platforms.length) :
    s.startLine.platform p = s.startPlatform p (s.platform p) := getD_mapIdx h

theorem startLine_substation {s : State} {k : Nat} (h : k < s.substations.length) :
    s.startLine.substation k = s.startSubstation k (s.substation k) := getD_mapIdx h

/-- Beyond a table there is the default record. -/
theorem sect_beyond {s : State} {i : Nat} (h : s.sects.length ≤ i) : s.sect i = {} := by
  simp [sect, List.getD_eq_getElem?_getD, h]

theorem platform_beyond {s : State} {p : Nat} (h : s.platforms.length ≤ p) : s.platform p = {} := by
  simp [platform, List.getD_eq_getElem?_getD, h]

theorem substation_beyond {s : State} {k : Nat} (h : s.substations.length ≤ k) : s.substation k = {} := by
  simp [substation, List.getD_eq_getElem?_getD, h]

/-- Every section leaves START with no operation and nothing owed (R17, R34; log 21). -/
theorem startLine_sect_fresh (s : State) (i : Nat) : (s.startLine.sect i).op = none ∧ (s.startLine.sect i).owed = {} := by
  rcases Nat.lt_or_ge i s.sects.length with h | h
  · rw [startLine_sect h, startSect]; split <;> exact ⟨rfl, rfl⟩
  · rw [sect_beyond (h.trans' (List.length_mapIdx ..).le)]; exact ⟨rfl, rfl⟩

/-- Every player leaves START IDLE with no cue (R161; log 21). -/
theorem startLine_platform_idle (s : State) (p : Nat) :
    (s.startLine.platform p).player = .idle ∧ (s.startLine.platform p).cue = none := by
  rcases Nat.lt_or_ge p s.platforms.length with h | h
  · rw [startLine_platform h, startPlatform]; split <;> exact ⟨rfl, rfl⟩
  · rw [platform_beyond (h.trans' (List.length_mapIdx ..).le)]; exact ⟨rfl, rfl⟩

theorem headerGood_of_startFailure {s : State} (h : s.startFailure = none) : s.headerGood = true :=
  startFailure_eq_none.mp h 0 0 Nat.one_pos

end State

theorem execStart_passed {s : State} (tag : Nat) (hp : s.part = .unconfigured) (h : s.startFailure = none) :
    exec (.start tag) s = .next (s.startLine.judgeLines.reply ⟨31, tag, .done, .empty⟩) := by
  change answer 31 tag (if s.part = .operating then _ else _) = _
  rw [if_neg (by rw [hp]; decide), h]; rfl

/-- Settles O12: START record by record, with the configured ones inside the tables by the header's ranges; CONFIG RELOAD by its
two checks. -/
theorem startAndReload : Obligations.StartAndReload := by
  unfold Obligations.StartAndReload
  refine ⟨fun s tag sized hp passed => ?start, fun s tag => ⟨fun hp ht hi ha => ?reload, fun hp live => ?live, fun hp => ?part⟩⟩
  case start =>
    obtain ⟨⟨-, hP⟩, ⟨-, hN⟩, -, hK⟩ := State.headerGood_iff.mp (State.headerGood_of_startFailure passed)
    obtain ⟨-, -, platforms, sects, substations, -⟩ := sized
    refine ⟨_, execStart_passed tag hp passed, rfl, rfl, fun p hok => ?_, fun i hok => ?_, fun k hok => ?_,
      s.startLine_sect_fresh, s.startLine_platform_idle, rfl, rfl, rfl, rfl, rfl, rfl, rfl⟩
    · have inTable : p < s.platforms.length := (of_decide_eq_true hok).trans_le (hP.trans platforms.ge)
      exact (State.startLine_platform inTable).trans (if_pos hok)
    · have inTable : i < s.sects.length := (of_decide_eq_true hok).trans_le (hN.trans sects.ge)
      exact (State.startLine_sect inTable).trans (if_pos hok)
    · have inTable : k < s.substations.length := (of_decide_eq_true hok).trans_le (hK.trans substations.ge)
      exact (State.startLine_substation inTable).trans (if_pos hok)
  case reload =>
    have empty : s.poolEmpty = true := by simp [State.poolEmpty, ht, hi, ha]
    have judged : (s.setPart .unconfigured).judgedLines = s.judgedLines := State.judgedLines_congr rfl rfl rfl rfl
    change answer 32 tag (if s.part = .unconfigured then _ else _) = _
    rw [if_neg (by rw [hp]; decide), empty, need_true, State.judgeLines, judged]; rfl
  case live =>
    have some : s.poolEmpty = false := by
      simp only [State.poolEmpty, Bool.and_eq_false_iff, beq_eq_false_iff_ne, ne_eq]; tauto
    change answer 32 tag (if s.part = .unconfigured then _ else _) = _
    rw [if_neg (by rw [hp]; decide), some]; rfl
  case part =>
    change answer 32 tag (if s.part = .unconfigured then _ else _) = _
    rw [if_pos hp, refusePart, hp]; rfl

end Sys2Proof.Machine

/-! Frames in and out, and the commands that carry no request. -/

namespace Sys2Proof.Machine
open Sys2Proof

/-! ### Frames received (R175, R198) -/

/-- Bytes that are still wanted are collected in order. -/
theorem foldl_receive (bytes got : List Byte) (need : Nat) (h : bytes.length < need) :
    bytes.foldl (fun r b => (receive r b).1) (.collecting need got) = .collecting (need - bytes.length) (got ++ bytes) := by
  induction bytes generalizing need got with
  | nil => simp
  | cons b bytes ih =>
    rw [List.length_cons] at h
    rw [List.foldl_cons, receive, if_neg (by omega), ih _ _ (by omega), List.length_cons, List.append_assoc]
    congr 1; omega

theorem receive_start : receive .hunting (BitVec.ofNat 8 165) = (.length, .nothing) := by decide

theorem receive_length {n : Nat} (low : 2 ≤ n) (high : n ≤ 250) :
    (receive .length (BitVec.ofNat 8 n)).1 = .collecting (n + 1) [BitVec.ofNat 8 n] := by
  have value : (BitVec.ofNat 8 n).toNat = n := by rw [BitVec.toNat_ofNat]; omega
  rw [receive, value, if_neg (by unfold Config.minLength Config.maxLength; omega)]

/-- The check byte brings the sum of the counted bytes to 0 modulo 256. -/
theorem checkGood_frame (counted : List Byte) :
    checkGood (counted ++ [BitVec.ofNat 8 (256 - (counted.map BitVec.toNat).sum % 256)]) = true := by
  simp only [checkGood, List.map_append, List.sum_append, List.map_cons, List.map_nil, List.sum_cons, List.sum_nil,
    BitVec.toNat_ofNat, beq_iff_eq]
  omega

theorem frameBody_frame (length check : Byte) (bytes : List Byte) :
    frameBody (length :: bytes ++ [check]) = bytes.map BitVec.toNat := by
  rw [frameBody, List.cons_append, List.drop_one, List.tail_cons, List.dropLast_concat]

/-- A Control Link frame whose check byte has come waits, or is not kept (R176). -/
theorem State.controlByte_complete {s : State} {got : List Byte} (b : Byte) (h : s.links.controlRx = .collecting 1 got) :
    s.controlByte b = { s with links := { s.links with
      controlRx := .hunting
      waiting := s.links.waiting ++ [if fromControl (decodeControl (got ++ [b])) = true
          ∧ 2 ≤ (s.links.waiting.filter fromControl).length then .frameNotKept else decodeControl (got ++ [b])] } } := by
  have received : receive s.links.controlRx b = (.hunting, .frame (got ++ [b])) := by rw [h]; rfl
  unfold State.controlByte
  rw [received]
  dsimp only
  unfold State.keepFrame State.waitingFrames
  simp only [Bool.and_eq_true, decide_eq_true_eq]
  rfl

/-! ### Frames sent (R175, R198, R199) -/

/-- A response with an empty body leaves as start mark, length 3, code, tag, status and check. -/
theorem responseFrame_empty {r : Response} (hb : r.body = .empty) (hc : r.code < 256) (ht : r.tag < 256) :
    ∃ k, k < 256 ∧ (3 + r.code + r.tag + statusCode r.status + k) % 256 = 0 ∧
      (responseFrame r).map BitVec.toNat = [165, 3, r.code, r.tag, statusCode r.status, k] := by
  have status : statusCode r.status < 256 := by cases r.status <;> decide
  refine ⟨(256 - (3 + r.code + r.tag + statusCode r.status) % 256) % 256, Nat.mod_lt _ (by decide), by omega, ?_⟩
  have sum : [3, r.code, r.tag, statusCode r.status].sum = 3 + r.code + r.tag + statusCode r.status := by
    simp [Nat.add_assoc]
  have bytes : responseFrame r = ([165, 3, r.code, r.tag, statusCode r.status,
      (256 - (3 + r.code + r.tag + statusCode r.status) % 256) % 256]).map (BitVec.ofNat 8) := by
    rw [← sum, responseFrame, hb]; rfl
  rw [bytes]
  simp only [List.map_cons, List.map_nil, BitVec.toNat_ofNat]
  refine congrArg₂ _ rfl (congrArg₂ _ rfl (congrArg₂ _ (Nat.mod_eq_of_lt hc) (congrArg₂ _ (Nat.mod_eq_of_lt ht)
    (congrArg₂ _ (Nat.mod_eq_of_lt status) (congrArg₂ _ (by omega) rfl)))))

/-! ### The bad-frame count (R190) -/

theorem State.badFieldFrame_counted {s : State} (h : s.links.badCount < 7) :
    s.badFieldFrame = { s with links := { s.links with badCount := s.links.badCount + 1 } } := by
  rw [State.badFieldFrame, if_neg (by unfold Config.badRun; omega)]; rfl

theorem State.badFieldFrame_eighth {s : State} (h : s.links.badCount = 7) :
    s.badFieldFrame = ((s.modLinks fun l => { l with badCount := 0 }).latch .fieldLink).judgeLines := by
  rw [State.badFieldFrame, if_pos (by rw [h])]

/-- What the eighth bad frame in a run does (R190). -/
theorem State.badFieldFrame_latches {s : State} (h : s.links.badCount = 7) :
    s.badFieldFrame.links = { s.links with badCount := 0 } ∧
      s.badFieldFrame.attention = { s.attention with
        latches := { s.attention.latches with fieldLink := true }, lines := s.badFieldFrame.judgedLines } ∧
      s.badFieldFrame.pool = s.pool ∧ FixedKept s s.badFieldFrame := by
  have judged := State.linesJudged_judgeLines ((s.modLinks fun l => { l with badCount := 0 }).latch .fieldLink)
  rw [State.badFieldFrame_eighth h]
  refine ⟨rfl, ?_, rfl, ⟨rfl, rfl, rfl⟩⟩
  rw [← judged]; rfl

/-- A good report frame while UNCONFIGURED is dropped with the bad-frame count at 0 (R14, R190). -/
theorem State.takeReport_unconfigured {s : State} {time : Nat} (hp : s.part = .unconfigured) (ht : time < 864000) (ok : Bool)
    (owner : State → State) : s.takeReport time ok owner = { s with links := { s.links with badCount := 0 } } := by
  unfold State.takeReport
  dsimp only
  rw [if_pos (show timeOk time = true from decide_eq_true ht), if_pos (by exact hp)]; rfl

/-- Settles O13: byte by byte for the frames received, by the status byte for those sent, and by cases on the count, the part state
and the form of the command for the rest. -/
theorem framesAreReceivedAndAnswered : Obligations.FramesAreReceivedAndAnswered := by
  unfold Obligations.FramesAreReceivedAndAnswered
  refine ⟨fun code tag body hlen => ?frame, fun s got b h => State.controlByte_complete b h, fun r => responseFrame_empty,
    fun s code tag n => ⟨rfl, rfl, rfl, fun hw => ?_, fun hw => ?_, rfl, rfl⟩,
    fun s => ⟨fun low => ⟨?_, ?_⟩, fun seven => ?eighth⟩, fun s p c hc => ⟨fun hp => ?drop, fun hp noPlayer => ?latch⟩,
    fun s n i time cls pos on c hp ht hc => ?report⟩
  case frame =>
    intro counted check
    refine ⟨?_, rfl, checkGood_frame counted, frameBody_frame _ _ _⟩
    rw [List.foldl_cons, receive_start, List.foldl_cons, receive_length (by omega) (by omega),
      foldl_receive _ _ _ (by simp only [List.length_cons]; omega)]
    congr 1
    simp only [List.length_cons]; omega
  case eighth =>
    obtain ⟨links, attention, pool, fixed⟩ := State.badFieldFrame_latches seven
    obtain ⟨links', attention', pool', fixed'⟩ := State.badFieldFrame_latches (s := s.huntField) seven
    refine ⟨_, _, rfl, rfl, links, links', attention, ?_, pool, pool', fixed, ⟨fixed'.sects, fixed'.substations, fixed'.control⟩⟩
    have judged : s.huntField.badFieldFrame.judgedLines = s.badFieldFrame.judgedLines :=
      State.judgedLines_congr (pool'.trans pool.symm) (by rw [attention, attention']; rfl) (by rw [attention, attention']; rfl)
        (by rw [State.badFieldFrame_eighth seven, State.badFieldFrame_eighth (s := s.huntField) seven]; rfl)
    rw [attention', attention, judged]; rfl
  case drop =>
    have dropped : ∀ owner, s.takeStatus p owner = s := fun owner => if_pos hp
    rcases hc with rfl | rfl | rfl | rfl <;> exact congrArg Host.Outcome.next (dropped _)
  case latch =>
    have latched : ∀ owner, s.takeStatus p owner = (s.latch .directiveLink).judgeLines := fun owner => by
      rw [State.takeStatus, if_neg (by rw [hp]; decide), noPlayer]; rfl
    rcases hc with rfl | rfl | rfl | rfl <;> exact congrArg Host.Outcome.next (latched _)
  case report =>
    have dropped := fun ok owner => State.takeReport_unconfigured hp ht ok owner
    rcases hc with rfl | rfl | rfl | rfl | rfl <;> exact congrArg Host.Outcome.next (dropped _ _)
  · change Host.Outcome.next (match s.links.waiting with | [] => _ | _ :: _ => _) = _
    rw [hw]; rfl
  · obtain ⟨w, rest, hw⟩ := List.exists_cons_of_ne_nil hw
    change Host.Outcome.next (match s.links.waiting with | [] => _ | _ :: _ => _) = _
    rw [hw, State.await, State.huntControl]
    simp only [State.modLinks, hw]
  · exact congrArg Host.Outcome.next (State.badFieldFrame_counted low)
  · exact congrArg Host.Outcome.next (State.badFieldFrame_counted (s := s.huntField) low)

end Sys2Proof.Machine

/-! Every request is answered once, and each piece of state moves by its own commands only. -/

namespace Sys2Proof.Machine
open Sys2Proof

/-! ### What a request comes to (R177, R178) -/

/-- The reply of a request: it leaves the responses to the answer, and changes nothing where it refuses (R178). -/
structure Reply.Fair (s : State) (r : Reply) : Prop where
  responses : r.state.responses = s.responses
  refused   : r.status ≠ .done → r.status ≠ .accepted → r.state = s

theorem fair_refuse (s : State) (st : Status) : (refuse s st).Fair s := ⟨rfl, fun _ _ => rfl⟩

theorem fair_refusePart (s : State) : (refusePart s).Fair s := ⟨rfl, fun _ _ => rfl⟩

theorem fair_done {s u : State} (h : u.responses = s.responses) (b : Body) : (done u b).Fair s := ⟨h, fun h _ => absurd rfl h⟩

theorem fair_accepted {s u : State} (h : u.responses = s.responses) : (accepted u).Fair s := ⟨h, fun _ h => absurd rfl h⟩

/-- A request whose work is one event is taken at its end. -/
theorem fair_event {s u : State} (h : Steady s u) (b : Body) : (done (State.endEvent s u) b).Fair s :=
  fair_done (h.trans (State.calm_endEvent s u).toSteady).responses b

theorem fair_breaker {s u : State} (h : Steady s u) : (accepted (State.endEvent s u)).Fair s :=
  fair_accepted (h.trans (State.calm_endEvent s u).toSteady).responses

section Fair

variable {s : State}

theorem need_fair {ok : Bool} {st : Status} {r : Reply} (h : r.Fair s) : (need s ok st r).Fair s := by
  cases ok
  · exact fair_refuse s st
  · exact h

theorem withTrain_fair {h : Handle} {r : Train → Reply} (hr : ∀ x, (r x).Fair s) : (withTrain s h r).Fair s := by
  refine need_fair ?_
  split
  · exact hr _
  · exact fair_refuse s _

theorem withIncident_fair {h : Handle} {r : Incident → Reply} (hr : ∀ c, (r c).Fair s) : (withIncident s h r).Fair s := by
  refine need_fair ?_
  split
  · exact hr _
  · exact fair_refuse s _

theorem withAnn_fair {h : Handle} {r : Ann → Reply} (hr : ∀ a, (r a).Fair s) : (withAnn s h r).Fair s := by
  refine need_fair ?_
  split
  · exact hr _
  · exact fair_refuse s _

theorem withValue_fair {α : Type} {v : Option α} {r : α → Reply} (hr : ∀ x, (r x).Fair s) : (withValue s v r).Fair s := by
  cases v with
  | none => exact fair_refuse s _
  | some x => exact hr x

theorem withTrainArg_fair {h : Handle} {r : Option Handle → Reply} (hr : ∀ x, (r x).Fair s) : (s.withTrainArg h r).Fair s := by
  unfold State.withTrainArg
  split
  · exact hr _
  · exact withTrain_fair fun _ => hr _

theorem found_fair (i : Option Nat) : (s.found i).Fair s := by
  cases i with
  | none => exact fair_refuse s _
  | some i => exact fair_done (by rfl) _

end Fair

theorem retireRecord_fair (s : State) (i : Nat) : (s.retireRecord i).Fair s := by
  unfold State.retireRecord
  split
  · exact fair_refuse s _
  · exact fair_event (s.steady_retireTrain i _) _
  · exact need_fair (fair_event (s.calm_retireIncident i).toSteady _)
  · exact fair_event (s.calm_retireAnn i).toSteady _

/-! ### Every request is answered once -/

/-- A command answers as the request it is: fairly, and with NOT CONFIGURED where R14 does not list it. -/
def Answers (c : Instr) (s : State) (code tag : Nat) : Prop :=
  ∃ r : Reply, exec c s = answer code tag r ∧ r.Fair s ∧
    (s.part = .unconfigured → code ≤ 26 → (∀ n, c ≠ .unknownRequestCode code tag n) → r = refuse s .notConfigured)

/-- A request that R14 does not list. -/
theorem answers_gated {c : Instr} {s : State} {code tag : Nat} {r : Reply} (e : exec c s = answer code tag (whenOperating s r))
    (h : r.Fair s) : Answers c s code tag :=
  ⟨_, e, need_fair h, fun hp _ _ => whenOperating_unconfigured hp r⟩

/-- A request that either part state takes. -/
theorem answers_listed {c : Instr} {s : State} {code tag : Nat} {r : Reply} (e : exec c s = answer code tag r) (hc : 26 < code)
    (h : r.Fair s) : Answers c s code tag :=
  ⟨r, e, h, fun _ low => absurd hc (Nat.not_lt.mpr low)⟩

theorem answers_adjustTime (s : State) (tag : Nat) (d : Int) : Answers (.adjustTime tag d) s 28 tag := by
  refine answers_listed rfl (by decide) (fair_done ?_ _)
  unfold State.adjustTime
  split
  · rfl
  · exact (State.clockMoved_takeDue (State.clockMoved_takeDue_setTime s _ _) _).responses

theorem answers_loadConfig (s : State) (tag table first : Nat) (bytes : List Byte) :
    Answers (.loadConfig tag table first bytes) s 30 tag := by
  refine answers_listed rfl (by decide) (need_fair ?_)
  split
  · exact fair_refusePart s
  · exact need_fair (fair_done (by rfl) _)

theorem answers_start (s : State) (tag : Nat) : Answers (.start tag) s 31 tag := by
  refine answers_listed rfl (by decide) ?_
  split
  · exact fair_refusePart s
  · split
    · exact ⟨rfl, fun _ _ => rfl⟩
    · exact fair_done (by rfl) _

theorem answers_configReload (s : State) (tag : Nat) : Answers (.configReload tag) s 32 tag := by
  refine answers_listed rfl (by decide) ?_
  split
  · exact fair_refusePart s
  · exact need_fair (fair_done (by rfl) _)

theorem replayShadows_responses (s : State) : s.replayShadows.responses = s.responses := by
  unfold State.replayShadows
  refine State.foldl_keeps (P := fun t => t.responses = s.responses) (fun t n ht => ?_) _ rfl
  cases s.shadow n <;> exact ht

theorem restartPlayer_responses (s : State) (p : Nat) : (s.restartPlayer p).responses = s.responses := by
  unfold State.restartPlayer
  split <;> first | exact (s.calm_playerLost p).responses | rfl

theorem restart_responses (s : State) : s.restart.responses = s.responses := by
  have players : ∀ (l : List Nat) (t : State), (l.foldl State.restartPlayer t).responses = t.responses := fun l t =>
    State.foldl_keeps (P := fun u => u.responses = t.responses) (fun u p hu => (restartPlayer_responses u p).trans hu) l rfl
  unfold State.restart
  exact (State.calm_judgeLines _).responses.trans ((players _ _).trans (replayShadows_responses s.restartLinks))

theorem answers_readAttention (s : State) (tag : Nat) (cls : Option Nat) : Answers (.readAttention tag cls) s 34 tag := by
  refine answers_listed rfl (by decide) (withValue_fair fun all => ?_)
  split
  · refine fair_done ?_ _
    unfold State.clearReturned
    split <;> rfl
  · exact fair_refuse s _

theorem answers_amendIncident (s : State) (tag : Nat) (h : Handle) (severity : Option Nat) (restr : Option RestrictionArg)
    (ann : Option AnnouncementArg) : Answers (.amendIncident tag h severity restr ann) s 10 tag := by
  refine answers_gated rfl (withIncident_fair fun c => need_fair (need_fair (withValue_fair fun r => withValue_fair fun a => ?_)))
  exact fair_event (((s.calm_amendSeverity _ _).trans (State.calm_amendRestriction _ _ _)).trans
    (State.calm_amendAnnouncement _ _ _)).toSteady _

theorem answers_enterDegraded (s : State) (tag pattern : Nat) : Answers (.enterDegraded tag pattern) s 23 tag := by
  refine answers_gated rfl (need_fair (need_fair (fair_event ?_ _)))
  split
  · exact s.steady_setPattern pattern
  · exact s.steady_enterFromClear pattern

theorem calm_amendTrain (s : State) (i : Nat) (service origin tripStart : Option Nat) (manual : Option Bool) :
    Calm s ((s.amendFields i service origin tripStart).amendManual i manual) :=
  (s.calm_modTrain i _).trans (State.calm_amendManual _ i manual)

theorem answers_readSaveEntry (s : State) (tag : Nat) (h : Handle) : Answers (.readSaveEntry tag h) s 25 tag := by
  refine answers_gated rfl (withTrain_fair fun x => need_fair ?_)
  split
  · exact fair_done (by rfl) _
  · exact fair_refuse s _

theorem answers_amendSaveEntry (s : State) (tag : Nat) (h : Handle) (lateness : Option Int) (service : Option Nat) :
    Answers (.amendSaveEntry tag h lateness service) s 26 tag := by
  refine answers_gated rfl (withTrain_fair fun x => need_fair (need_fair (need_fair ?_)))
  dsimp only
  split
  · exact fair_done (by rfl) _
  · exact fair_refuse s _

/-- Each request answers through the checks of its own arm. -/
theorem answers_request {c : Instr} {code tag : Nat} (s : State) (h : requestOf c = some (code, tag)) : Answers c s code tag := by
  cases c with
  | lookup => cases h; exact answers_gated rfl (need_fair (fair_done (by rfl) _))
  | walk => cases h; exact answers_gated rfl (need_fair (withValue_fair fun _ => need_fair (found_fair _)))
  | findTrain => cases h; exact answers_gated rfl (need_fair (need_fair (need_fair (found_fair _))))
  | findIncident =>
    cases h
    exact answers_gated rfl (need_fair (withValue_fair fun _ => withValue_fair fun _ => need_fair (found_fair _)))
  | createTrain =>
    cases h
    exact answers_gated rfl (need_fair (need_fair (need_fair (need_fair (fair_event (s.calm_createTrain _).toSteady _)))))
  | amendTrain _ h' =>
    cases h
    exact answers_gated rfl (withTrain_fair fun _ => need_fair (need_fair (fair_event (calm_amendTrain s _ _ _ _ _).toSteady _)))
  | forceDepart =>
    cases h; exact answers_gated rfl (withTrain_fair fun x => need_fair (fair_event (s.calm_forceDeparture _ x).toSteady _))
  | retire _ h' => cases h; exact answers_gated rfl (need_fair (retireRecord_fair s h'.slot))
  | raiseIncident =>
    cases h
    exact answers_gated rfl (need_fair (withValue_fair fun _ => withValue_fair fun _ => withValue_fair fun _ => need_fair (need_fair
      (fair_event (s.calm_createIncident _).toSteady _))))
  | amendIncident tag h' severity restr ann => cases h; exact answers_amendIncident s tag h' severity restr ann
  | acknowledge =>
    cases h; exact answers_gated rfl (withIncident_fair fun c => need_fair (fair_event (s.calm_acknowledgeIncident _ c).toSteady _))
  | clear => cases h; exact answers_gated rfl (withIncident_fair fun _ => need_fair (fair_event (s.calm_enterCleared _).toSteady _))
  | createAnnouncement =>
    cases h
    exact answers_gated rfl (withTrainArg_fair fun _ => need_fair (withValue_fair fun _ => need_fair (need_fair
      (fair_event (s.calm_createAnn _).toSteady _))))
  | amendAnnouncement =>
    cases h
    exact answers_gated rfl (withAnn_fair fun _ => need_fair (withValue_fair fun m =>
      fair_event (s.calm_amendAnn _ _ _ m).toSteady _))
  | readPlatform | readSection | readSubstation => cases h; exact answers_gated rfl (need_fair (fair_done (by rfl) _))
  | isolate =>
    cases h
    exact answers_gated rfl (need_fair (need_fair (need_fair (need_fair (fair_breaker (s.steady_isolateSect _))))))
  | energise => cases h; exact answers_gated rfl (need_fair (need_fair (need_fair (fair_breaker (s.steady_energiseSect _)))))
  | restore => cases h; exact answers_gated rfl (need_fair (need_fair (need_fair (fair_breaker (s.steady_restoreSect _)))))
  | setWarningLevel => cases h; exact answers_gated rfl (need_fair (fair_event (s.steady_setWarning _ _) _))
  | selectPattern => cases h; exact answers_gated rfl (need_fair (need_fair (need_fair (fair_event (s.steady_setPattern _) _))))
  | enterDegraded tag pattern => cases h; exact answers_enterDegraded s tag pattern
  | resume => cases h; exact answers_gated rfl (need_fair (fair_event s.steady_leaveDegraded _))
  | readSaveEntry tag h' => cases h; exact answers_readSaveEntry s tag h'
  | amendSaveEntry tag h' lateness service => cases h; exact answers_amendSaveEntry s tag h' lateness service
  | setTime => cases h; exact answers_listed rfl (by decide) (need_fair (need_fair (fair_done (by rfl) _)))
  | adjustTime tag d => cases h; exact answers_adjustTime s tag d
  | readTime | readStatus | setAttentionMask => cases h; exact answers_listed rfl (by decide) (fair_done (by rfl) _)
  | loadConfig tag table first bytes => cases h; exact answers_loadConfig s tag table first bytes
  | start tag => cases h; exact answers_start s tag
  | configReload tag => cases h; exact answers_configReload s tag
  | linkRestart => cases h; exact answers_listed rfl (by decide) (fair_done (restart_responses s) _)
  | readAttention tag cls => cases h; exact answers_readAttention s tag cls
  | readShadow => cases h; exact answers_listed rfl (by decide) (need_fair (fair_done (by rfl) _))
  | unknownRequestCode _ _ n => cases h; exact ⟨_, rfl, fair_refuse s _, fun _ _ known => absurd rfl (known n)⟩
  | _ => cases h

/-- Settles O59: one response is formed from the reply, which is fair. -/
theorem eachRequestIsAnsweredOnce : Obligations.EachRequestIsAnsweredOnce := by
  unfold Obligations.EachRequestIsAnsweredOnce
  intro c s code tag h
  obtain ⟨r, e, fair, gated⟩ := answers_request s h
  refine ⟨_, ⟨code, tag, r.status, r.body⟩, e, ?_, rfl, rfl, fun hd ha => ?_, fun hp low known => ?_⟩
  · rw [State.reply_responses, fair.responses]
  · rw [fair.refused hd ha]
  · rw [gated hp low known]; rfl

end Sys2Proof.Machine

/-! Each piece of state moves by its own commands only. -/

namespace Sys2Proof.Machine
open Sys2Proof

/-! ### Pattern Control under the operations that move sections -/

namespace State

theorem arriveRunning_control (s : State) (i : Nat) (t : Train) (p a : Nat) (c : Bool) :
    (s.arriveRunning i t p a c).control = s.control := by
  unfold arriveRunning
  refine (calm_regulate _ _ _ _ _).control.trans ((calm_occupy _ _ _).control.trans ((calm_endCause _ _ _).control.trans
    ((calm_endCause _ _ _).control.trans ((modTrain_control _ _ _).trans ((modSect_control _ _ _).trans ?_)))))
  exact ((s.calm_dropLeaseOf i).trans (calm_serveChanged s _)).control

theorem departFrom_control (s : State) (i : Nat) (t : Train) (p a : Nat) (c : Bool) :
    (s.departFrom i t p a c).control = s.control := by
  unfold departFrom
  refine (calm_approachCheck _ _ _).control.trans ((calm_judgeConflict _ _ _ _).control.trans
    ((modSect_control _ _ _).trans ((modTrain_control _ _ _).trans ?_)))
  exact ((s.calm_modPlatform p _).trans (calm_leave _ i p)).control

theorem departTrain_control (s : State) (i : Nat) (t : Train) (p a : Nat) (c : Bool) :
    (s.departTrain i t p a c).control = s.control := by
  have withdrawn : (if t.state = .waiting then serveChanged s (s.dropEntries (s.handle i)) else s).control = s.control := by
    split
    · exact ((s.calm_dropEntries _).trans (calm_serveChanged _ _)).control
    · rfl
  have departed := (departFrom_control _ i t p a c).trans withdrawn
  unfold departTrain
  dsimp only
  split
  · exact departed
  · exact (calm_autoRaise _ _ _ _).control.trans departed

theorem breakerPart_control (s : State) (i : Nat) (pos : Position) : (s.breakerPart i pos).control = s.control := by
  unfold breakerPart
  dsimp only
  rw [modSect_control]
  split <;> rfl

theorem classPart_control (s : State) (i : Nat) (c : SupplyClass) (pos : Position) : (s.classPart i c pos).control = s.control := by
  unfold classPart
  split
  · rfl
  · cases c with
    | healthy => rfl
    | low => exact addFault_control s i 1
    | absent =>
      dsimp only
      split
      · exact addFault_control s i 1
      · rfl

theorem recoveryPart_control (s : State) (i : Nat) (c : SupplyClass) (pos : Position) (b : Bool) :
    (s.recoveryPart i c pos b).control = s.control := by
  unfold recoveryPart
  dsimp only
  split
  · rfl
  · split
    · split <;> rfl
    · rfl

theorem takeFeeder_control (s : State) (i : Nat) (c : SupplyClass) (pos : Position) :
    (s.takeFeeder i c pos).control = s.control := by
  unfold takeFeeder
  refine (calm_latchWarning _ _ _).control.trans ((calm_thenIncidents s _ fun v => ?_).control.trans
    ((calm_supplyWork s _).control.trans ?_))
  · split
    · exact (v.calm_endCause _ _).trans (calm_judgeLockout _ _ _)
    · exact v.calm_judgeLockout _ _
  · split
    · exact (recoveryPart_control _ _ _ _ _).trans (s.breakerPart_control i pos)
    · refine (classPart_control _ _ _ _).trans ?_
      split
      · exact (addFault_control _ _ _).trans (s.breakerPart_control i pos)
      · exact s.breakerPart_control i pos

theorem isolateSect_control (s : State) (i : Nat) : (s.isolateSect i).control = s.control := by
  unfold isolateSect
  exact (calm_thenIncidents s _ fun u => u.calm_judgeLockout _ i).control.trans (calm_supplyWork s _).control

theorem setWarning_control (s : State) (i level : Nat) : (s.setWarning i level).control = s.control :=
  (calm_latchWarning _ _ _).control

theorem moveSects_control (s : State) (k : Nat) (up : Bool) : (s.moveSects k up).control = s.control := by
  refine foldl_keeps (P := fun t => t.control = s.control) (fun t i ht => ?_) _ rfl
  unfold moveSect
  split <;> exact ht

theorem takeSubstation_control (s : State) (k : Nat) (up : Bool) : (s.takeSubstation k up).control = s.control := by
  unfold takeSubstation
  split
  · rfl
  · refine (calm_thenIncidents s _ fun v => ?_).control.trans ((calm_supplyWork s _).control.trans (s.moveSects_control k up))
    split
    · exact (calm_judgeLockouts s v).trans (calm_endCause _ _ _)
    · exact (calm_judgeLockouts s v).trans (calm_autoRaise _ _ _ _)

end State

/-! ### What most commands leave alone -/

/-- The pieces of state that have commands of their own stand as they were. -/
structure Still (s t : State) : Prop where
  pending  : t.pending = s.pending
  straps   : t.straps = s.straps
  lineTime : t.lineTime = s.lineTime
  tables   : t.tables = s.tables
  part     : t.part = s.part
  mask     : t.attention.mask = s.attention.mask
  shadows  : t.links.shadows = s.links.shadows
  control  : t.control = s.control

theorem Still.refl (s : State) : Still s s := ⟨rfl, rfl, rfl, rfl, rfl, rfl, rfl, rfl⟩

theorem Still.trans {s t u : State} (a : Still s t) (b : Still t u) : Still s u where
  pending := b.pending.trans a.pending
  straps := b.straps.trans a.straps
  lineTime := b.lineTime.trans a.lineTime
  tables := b.tables.trans a.tables
  part := b.part.trans a.part
  mask := b.mask.trans a.mask
  shadows := b.shadows.trans a.shadows
  control := b.control.trans a.control

theorem Steady.shadows {s t : State} (h : Steady s t) : t.links.shadows = s.links.shadows := by
  have shadows := congrArg Links.shadows h.links
  exact shadows

theorem Steady.still {s t : State} (h : Steady s t) (control : t.control = s.control) : Still s t :=
  ⟨h.pending, h.straps, h.lineTime, h.tables, h.part, h.mask, h.shadows, control⟩

theorem Calm.still {s t : State} (h : Calm s t) : Still s t := h.toSteady.still h.control

/-- Work on the links but for the shadows. -/
theorem still_modLinks (s : State) {f : Links → Links} (h : (f s.links).shadows = s.links.shadows) : Still s (s.modLinks f) :=
  ⟨rfl, rfl, rfl, rfl, rfl, rfl, h, rfl⟩

theorem Still.endEvent {s t : State} (h : Still s t) (before : State) : Still s (State.endEvent before t) :=
  h.trans (State.calm_endEvent before t).still

namespace State

theorem still_takeExpiry (due : Reach) (s : State) (c : Instr) : Still s (s.takeExpiry due c) := by
  refine Steady.still ?_ (takeExpiry_control due s c)
  cases c with
  | departureExpiry i => exact s.steady_takeDeparture due i
  | overdueExpiry i => exact s.steady_takeOverdue due i
  | approachExpiry i => exact s.steady_takeApproach due i
  | waitExpiry k h => exact s.steady_takeWait due k h
  | leaseExpiry k h => exact s.steady_takeLease due k h
  | operationExpiry i => exact s.steady_takeOperation due i
  | escalationExpiry i => exact s.steady_takeEscalation due i
  | restExpiry i => exact s.steady_takeRest due i
  | startExpiry p => exact s.steady_takeStart due p
  | stopExpiry p => exact s.steady_takeStop due p
  | _ => exact Steady.refl s

theorem still_badFieldFrame (s : State) : Still s s.badFieldFrame := by
  unfold badFieldFrame
  split
  · exact (still_modLinks s rfl).trans ((calm_latch _ _).trans (calm_judgeLines _)).still
  · exact still_modLinks s rfl

theorem still_takeReport (s : State) (time : Nat) (indexOk : Bool) {owner : State → State} (h : ∀ t, Still t (owner t)) :
    Still s (s.takeReport time indexOk owner) := by
  have counted : Still s (s.modLinks fun l => { l with badCount := 0 }) := still_modLinks s rfl
  unfold takeReport
  dsimp only
  split
  · split
    · exact counted
    · split
      · exact (counted.trans (h _)).endEvent _
      · exact (counted.trans (calm_dropReport _).still).endEvent _
  · exact s.still_badFieldFrame

theorem still_takePassage (s : State) (vehicle p time : Nat) {owner : State → Nat → Train → Nat → Bool → State}
    (h : ∀ t i x a c, Still t (owner t i x a c)) : Still s (s.takePassage vehicle p time owner) := by
  unfold takePassage
  dsimp only
  split
  · split
    · exact h _ _ _ _ _
    · exact ((s.calm_modPlatform _ _).trans (calm_latch _ _)).still
  · exact s.calm_dropReport.still

theorem still_takeArrive (s : State) (p i : Nat) (t : Train) (a : Nat) (c : Bool) : Still s (s.takeArrive p i t a c) := by
  have running : Still s (if s.mayArrive t p then s.arriveRunning i t p a c else s.dropReport) := by
    split
    · exact (s.steady_arriveRunning i t p a c).still (s.arriveRunning_control i t p a c)
    · exact s.calm_dropReport.still
  unfold takeArrive
  split
  · split
    · exact (s.calm_arriveAtOrigin i t a c).still
    · exact s.calm_dropReport.still
  · exact running
  · exact running
  all_goals exact s.calm_dropReport.still

theorem still_takeDepart (s : State) (p i : Nat) (t : Train) (a : Nat) (c : Bool) : Still s (s.takeDepart p i t a c) := by
  unfold takeDepart
  split
  · exact (s.steady_departTrain i t p a c).still (s.departTrain_control i t p a c)
  · exact s.calm_dropReport.still

theorem still_takeStatus (s : State) (p : Nat) {owner : State → State} (h : Still s (owner s)) : Still s (s.takeStatus p owner) := by
  unfold takeStatus
  split
  · exact Still.refl s
  · split
    · exact h.endEvent s
    · exact ((s.calm_latch _).trans (calm_judgeLines _)).still

theorem still_clearReturned (s : State) (x : Option Latch) : Still s (s.clearReturned x) := by
  cases x with
  | none => exact Still.refl s
  | some x => exact ((s.calm_unlatch x).trans (calm_judgeLines _)).still

theorem still_foldl {α : Type} {f : State → α → State} (hf : ∀ t x, Still t (f t x)) (l : List α) (s : State) :
    Still s (l.foldl f s) :=
  foldl_keeps (P := Still s) (fun t x ht => ht.trans (hf t x)) l (Still.refl s)

theorem still_restartPlayer (s : State) (p : Nat) : Still s (s.restartPlayer p) := by
  unfold restartPlayer
  split <;> first | exact (s.calm_playerLost p).still | exact Still.refl s

theorem still_restart (s : State) : Still s s.restart := by
  have replayed : Still s s.restartLinks.replayShadows := (still_modLinks s rfl).trans (still_foldl (fun t n => by
    cases s.restartLinks.shadow n with
    | none => exact Still.refl t
    | some d => exact (t.calm_issue n d).still) _ _)
  unfold restart
  exact ((replayed.trans (calm_modAttention _ _ rfl id).still).trans (still_foldl still_restartPlayer _ _)).trans
    (calm_judgeLines _).still

theorem still_controlFrameByteGap (s : State) : Still s
    (match s.links.waiting with | [] => s.huntControl.replyBadFrame | _ :: _ => s.huntControl.await .badFrame) := by
  split <;> exact ⟨rfl, rfl, rfl, rfl, rfl, rfl, rfl, rfl⟩

end State

/-! ### Which command moves what -/

/-- The commands that move Pattern Control (R163, R169). -/
def MovesControl (c : Instr) : Prop :=
  c = .coldReset ∨ ∃ tag, c = .start tag ∨ c = .resume tag ∨ (∃ q, c = .selectPattern tag q) ∨
    (∃ q, c = .enterDegraded tag q) ∨ (∃ h, c = .retire tag h) ∨ ∃ h l n, c = .amendSaveEntry tag h l n

/-- A piece of state that has moved from `s` to `t` was moved by a command of its own. -/
def MovedBy (c : Instr) (s t : State) : Prop :=
  t.pending = s.pending ∧ t.straps = s.straps ∧
    (t.lineTime ≠ s.lineTime →
      c = .coldReset ∨ c = .lineTimeTick ∨ (∃ tag n, c = .setTime tag n) ∨ ∃ tag d, c = .adjustTime tag d) ∧
    (t.tables ≠ s.tables → c = .coldReset ∨ ∃ tag n first bytes, c = .loadConfig tag n first bytes) ∧
    (t.part ≠ s.part → c = .coldReset ∨ ∃ tag, c = .start tag ∨ c = .configReload tag) ∧
    (t.attention.mask ≠ s.attention.mask → c = .coldReset ∨ ∃ tag m, c = .setAttentionMask tag m) ∧
    (t.links.shadows ≠ s.links.shadows → c = .coldReset ∨ c = .directiveSent) ∧
    (t.control ≠ s.control → MovesControl c)

section MovedBy

variable {c : Instr} {s t : State}

theorem Still.movedBy (h : Still s t) : MovedBy c s t :=
  ⟨h.pending, h.straps, fun n => absurd h.lineTime n, fun n => absurd h.tables n, fun n => absurd h.part n,
    fun n => absurd h.mask n, fun n => absurd h.shadows n, fun n => absurd h.control n⟩

/-- A command of Pattern Control. -/
theorem Steady.movedBy (h : Steady s t) (hc : MovesControl c) : MovedBy c s t :=
  ⟨h.pending, h.straps, fun n => absurd h.lineTime n, fun n => absurd h.tables n, fun n => absurd h.part n,
    fun n => absurd h.mask n, fun n => absurd h.shadows n, fun _ => hc⟩

/-- A command of the clock. -/
theorem movedBy_clock {now : Nat} (h : Still { s with lineTime := now } t)
    (hc : c = .coldReset ∨ c = .lineTimeTick ∨ (∃ tag n, c = .setTime tag n) ∨ ∃ tag d, c = .adjustTime tag d) : MovedBy c s t :=
  ⟨h.pending, h.straps, fun _ => hc, fun n => absurd h.tables n, fun n => absurd h.part n,
    fun n => absurd h.mask n, fun n => absurd h.shadows n, fun n => absurd h.control n⟩

/-- The command has an outcome, and what it moves is its own. -/
def Moves (c : Instr) (s : State) : Prop := ∃ t, exec c s = .next t ∧ MovedBy c s t

theorem moves_next (e : exec c s = .next t) (h : MovedBy c s t) : Moves c s := ⟨t, e, h⟩

/-- A request moves what its reply's state has moved. -/
theorem moves_answer {code tag : Nat} {r : Reply} (e : exec c s = answer code tag r) (h : MovedBy c s r.state) : Moves c s :=
  ⟨_, e, h⟩

theorem moves_still {code tag : Nat} {r : Reply} (e : exec c s = answer code tag r) (h : Still s r.state) : Moves c s :=
  moves_answer e h.movedBy

end MovedBy

/-- Taking the deadlines that are due leaves everything but the records alone. -/
theorem still_takeDue (due : Reach) (s : State) : Still s (s.takeDue due) :=
  State.takeDue_keeps (P := Still s) (fun c t ht => ht.trans (State.still_takeExpiry due t c)) (Still.refl s)

theorem still_takeDue_setTime (due : Reach) (s : State) (now : Nat) :
    Still { s with lineTime := now } ((s.takeDue due).setTime now) :=
  have h := still_takeDue due s
  { pending := (State.setTime_pending _ _).trans h.pending
    straps := (State.setTime_straps _ _).trans h.straps
    lineTime := State.setTime_lineTime _ _
    tables := (State.setTime_tables _ _).trans h.tables
    part := (State.setTime_part _ _).trans h.part
    mask := (congrArg Attention.mask (State.setTime_attention _ _)).trans h.mask
    shadows := (congrArg Links.shadows (State.setTime_links _ _)).trans h.shadows
    control := (State.setTime_control _ _).trans h.control }

theorem moves_adjustTime (s : State) (tag : Nat) (d : Int) : Moves (.adjustTime tag d) s := by
  have adjusted : ∀ step, Still { s with lineTime := (s.adjustTime step).lineTime } (s.adjustTime step) := fun step => by
    unfold State.adjustTime
    split
    · exact Still.refl s
    · have after := (still_takeDue_setTime s.dueNow s (later s.lineTime step)).trans (still_takeDue (passed s.lineTime step) _)
      rw [after.lineTime]; exact after
  exact moves_answer rfl (movedBy_clock (adjusted _) (.inr (.inr (.inr ⟨tag, d, rfl⟩))))

theorem retireRecord_steady (s : State) (i : Nat) : Steady s (s.retireRecord i).state := by
  unfold State.retireRecord
  split
  · exact Steady.refl s
  · exact (s.steady_retireTrain i _).trans (State.calm_endEvent _ _).toSteady
  · exact need_state (Steady.refl s) fun _ => ((s.calm_retireIncident i).trans (State.calm_endEvent _ _)).toSteady
  · exact ((s.calm_retireAnn i).trans (State.calm_endEvent _ _)).toSteady

/-- The requests on records, whose work is calm. -/
theorem moves_recordRequest {c : Instr} {code tag : Nat} (s : State) (h : requestOf c = some (code, tag)) (low : code ≤ 17) :
    Moves c s := by
  have same : Still s s := Still.refl s
  have event : ∀ {u}, Calm s u → Still s (State.endEvent s u) := fun h => h.still.endEvent s
  cases c with
  | lookup => exact moves_still rfl (whenOperating_state same (withCurrent_state same same))
  | walk =>
    refine moves_still rfl (whenOperating_state same (withOptional_state same (withValue_state same fun _ =>
      need_state same fun _ => ?_)))
    rw [found_state]; exact same
  | findTrain =>
    refine moves_still rfl (whenOperating_state same (withOptional_state same (need_state same fun _ =>
      need_state same fun _ => ?_)))
    rw [found_state]; exact same
  | findIncident =>
    refine moves_still rfl (whenOperating_state same (withOptional_state same (withValue_state same fun _ =>
      withValue_state same fun _ => need_state same fun _ => ?_)))
    rw [found_state]; exact same
  | createTrain =>
    exact moves_still rfl (whenOperating_state same (need_state same fun _ => need_state same fun _ => need_state same fun _ =>
      need_state same fun _ => event (s.calm_createTrain _)))
  | amendTrain =>
    exact moves_still rfl (whenOperating_state same (withTrain_state same fun _ => need_state same fun _ =>
      need_state same fun _ => event (calm_amendTrain s _ _ _ _ _)))
  | forceDepart =>
    exact moves_still rfl (whenOperating_state same (withTrain_state same fun x => need_state same fun _ =>
      event (s.calm_forceDeparture _ x)))
  | retire tag h' =>
    exact moves_answer rfl (Steady.movedBy (whenOperating_state (Steady.refl s) (withCurrent_state (Steady.refl s)
      (retireRecord_steady s h'.slot))) (.inr ⟨tag, .inr (.inr (.inr (.inr (.inl ⟨h', rfl⟩))))⟩))
  | raiseIncident =>
    exact moves_still rfl (whenOperating_state same (need_state same fun _ => withValue_state same fun _ =>
      withValue_state same fun _ => withValue_state same fun _ => need_state same fun _ => need_state same fun _ =>
      event (s.calm_createIncident _)))
  | amendIncident =>
    refine moves_still rfl (whenOperating_state same (withIncident_state same fun _ => need_state same fun _ =>
      need_state same fun _ => withValue_state same fun _ => withValue_state same fun _ => event ?_))
    exact ((s.calm_amendSeverity _ _).trans (State.calm_amendRestriction _ _ _)).trans (State.calm_amendAnnouncement _ _ _)
  | acknowledge =>
    exact moves_still rfl (whenOperating_state same (withIncident_state same fun c => need_state same fun _ =>
      event (s.calm_acknowledgeIncident _ c)))
  | clear =>
    exact moves_still rfl (whenOperating_state same (withIncident_state same fun _ => need_state same fun _ =>
      event (s.calm_enterCleared _)))
  | createAnnouncement =>
    exact moves_still rfl (whenOperating_state same (withTrainArg_state same fun _ => need_state same fun _ =>
      withValue_state same fun _ => need_state same fun _ => need_state same fun _ => event (s.calm_createAnn _)))
  | amendAnnouncement =>
    exact moves_still rfl (whenOperating_state same (withAnn_state same fun _ => need_state same fun _ =>
      withValue_state same fun m => event (s.calm_amendAnn _ _ _ m)))
  | readPlatform | readSection | readSubstation =>
    exact moves_still rfl (whenOperating_state same (need_state same fun _ => same))
  | unknownRequestCode => exact moves_still rfl same
  | _ => cases h <;> omega

/-- The requests on sections and patterns. -/
theorem moves_lineRequest {c : Instr} {code tag : Nat} (s : State) (h : requestOf c = some (code, tag)) (high : 17 < code)
    (low : code ≤ 26) : Moves c s := by
  have same : Still s s := Still.refl s
  have steady : Steady s s := Steady.refl s
  have event : ∀ {u}, Still s u → Still s (State.endEvent s u) := fun h => h.endEvent s
  have patternEvent : ∀ {u}, Steady s u → Steady s (State.endEvent s u) := fun h => h.trans (State.calm_endEvent s _).toSteady
  cases c with
  | isolate =>
    exact moves_still rfl (whenOperating_state same (need_state same fun _ => need_state same fun _ => need_state same fun _ =>
      need_state same fun _ => event ((s.steady_isolateSect _).still (s.isolateSect_control _))))
  | energise =>
    exact moves_still rfl (whenOperating_state same (need_state same fun _ => need_state same fun _ => need_state same fun _ =>
      event ((s.steady_energiseSect _).still rfl)))
  | restore =>
    exact moves_still rfl (whenOperating_state same (need_state same fun _ => need_state same fun _ => need_state same fun _ =>
      event ((s.steady_restoreSect _).still rfl)))
  | setWarningLevel =>
    exact moves_still rfl (whenOperating_state same (need_state same fun _ =>
      event ((s.steady_setWarning _ _).still (s.setWarning_control _ _))))
  | selectPattern tag q =>
    exact moves_answer rfl (Steady.movedBy (whenOperating_state steady (need_state steady fun _ => need_state steady fun _ =>
      need_state steady fun _ => patternEvent (s.steady_setPattern q))) (.inr ⟨tag, .inr (.inr (.inl ⟨q, rfl⟩))⟩))
  | enterDegraded tag q =>
    refine moves_answer rfl (Steady.movedBy (whenOperating_state steady (need_state steady fun _ => need_state steady fun _ =>
      patternEvent ?_)) (.inr ⟨tag, .inr (.inr (.inr (.inl ⟨q, rfl⟩)))⟩))
    split
    · exact s.steady_setPattern q
    · exact s.steady_enterFromClear q
  | resume tag =>
    exact moves_answer rfl (Steady.movedBy (whenOperating_state steady (need_state steady fun _ =>
      patternEvent s.steady_leaveDegraded)) (.inr ⟨tag, .inr (.inl rfl)⟩))
  | readSaveEntry =>
    refine moves_still rfl (whenOperating_state same (withTrain_state same fun _ => need_state same fun _ => ?_))
    split <;> exact same
  | amendSaveEntry tag h' l n =>
    refine moves_answer rfl (Steady.movedBy (whenOperating_state steady (withTrain_state steady fun _ =>
      need_state steady fun _ => need_state steady fun _ => need_state steady fun _ => ?_))
      (.inr ⟨tag, .inr (.inr (.inr (.inr (.inr ⟨h', l, n, rfl⟩))))⟩))
    dsimp only
    split
    · exact s.steady_amendSave h' l n
    · exact steady
  | unknownRequestCode => exact moves_still rfl same
  | _ => cases h <;> omega

/-- The requests that either part state takes. -/
theorem moves_partRequest {c : Instr} {code tag : Nat} (s : State) (h : requestOf c = some (code, tag)) (high : 26 < code) :
    Moves c s := by
  have same : Still s s := Still.refl s
  cases c with
  | setTime tag n =>
    refine moves_answer rfl (need_state same.movedBy fun _ => need_state same.movedBy fun _ => ?_)
    exact movedBy_clock (now := n) ⟨rfl, rfl, rfl, rfl, rfl, rfl, rfl, rfl⟩ (.inr (.inr (.inl ⟨tag, n, rfl⟩)))
  | adjustTime tag d => exact moves_adjustTime s tag d
  | readTime | readStatus => exact moves_still rfl same
  | loadConfig tag n first bytes =>
    refine moves_answer rfl (need_state same.movedBy fun _ => ?_)
    split
    · exact same.movedBy
    · refine need_state same.movedBy fun _ => ?_
      exact ⟨rfl, rfl, fun n => absurd rfl n, fun _ => .inr ⟨tag, _, first, bytes, rfl⟩, fun n => absurd rfl n,
        fun n => absurd rfl n, fun n => absurd rfl n, fun n => absurd rfl n⟩
  | start tag =>
    refine moves_answer rfl ?_
    split
    · exact same.movedBy
    · split
      · exact same.movedBy
      · exact ⟨rfl, rfl, fun n => absurd rfl n, fun n => absurd rfl n, fun _ => .inr ⟨tag, .inl rfl⟩, fun n => absurd rfl n,
          fun n => absurd rfl n, fun _ => .inr ⟨tag, .inl rfl⟩⟩
  | configReload tag =>
    refine moves_answer rfl ?_
    split
    · exact same.movedBy
    · refine need_state same.movedBy fun _ => ?_
      exact ⟨rfl, rfl, fun n => absurd rfl n, fun n => absurd rfl n, fun _ => .inr ⟨tag, .inr rfl⟩, fun n => absurd rfl n,
        fun n => absurd rfl n, fun n => absurd rfl n⟩
  | linkRestart => exact moves_still rfl s.still_restart
  | readAttention =>
    refine moves_still rfl (withValue_state same fun _ => ?_)
    split
    · exact s.still_clearReturned _
    · exact same
  | setAttentionMask tag m =>
    refine moves_answer rfl ?_
    exact ⟨rfl, rfl, fun n => absurd rfl n, fun n => absurd rfl n, fun n => absurd rfl n, fun _ => .inr ⟨tag, m, rfl⟩,
      fun n => absurd rfl n, fun n => absurd rfl n⟩
  | readShadow => exact moves_still rfl (need_state same fun _ => same)
  | unknownRequestCode => exact moves_still rfl same
  | _ => cases h <;> omega

/-- The commands that are no request: resets, time, reports, frames and expiries. -/
theorem moves_other {c : Instr} (s : State) (h : requestOf c = none) : Moves c s := by
  cases c with
  | coldReset =>
    exact moves_next rfl ⟨rfl, rfl, fun _ => .inl rfl, fun _ => .inl rfl, fun _ => .inl rfl, fun _ => .inl rfl, fun _ => .inl rfl,
      fun _ => .inl rfl⟩
  | lineTimeTick => exact moves_next rfl (movedBy_clock (still_takeDue_setTime _ s _) (.inr (.inl rfl)))
  | badFrame | frameNotKept => exact moves_next rfl (Still.movedBy ⟨rfl, rfl, rfl, rfl, rfl, rfl, rfl, rfl⟩)
  | controlFrameByteGap => exact moves_next rfl s.still_controlFrameByteGap.movedBy
  | arrive vehicle platform time =>
    exact moves_next rfl (s.still_takeReport time _ fun t => t.still_takePassage vehicle platform time fun u i x a c =>
      u.still_takeArrive platform i x a c).movedBy
  | depart vehicle platform time =>
    exact moves_next rfl (s.still_takeReport time _ fun t => t.still_takePassage vehicle platform time fun u i x a c =>
      u.still_takeDepart platform i x a c).movedBy
  | feeder i cls pos time =>
    exact moves_next rfl (s.still_takeReport time _ fun t =>
      (t.steady_takeFeeder i cls pos).still (t.takeFeeder_control i cls pos)).movedBy
  | substation k up time =>
    exact moves_next rfl (s.still_takeReport time _ fun t =>
      (t.steady_takeSubstation k up).still (t.takeSubstation_control k up)).movedBy
  | platformAlarm p on n time =>
    exact moves_next rfl (s.still_takeReport time _ fun t => (t.calm_takeAlarm p on n).still).movedBy
  | fieldBadFrame => exact moves_next rfl s.still_badFieldFrame.movedBy
  | fieldFrameByteGap => exact moves_next rfl ((still_modLinks s rfl).trans (State.still_badFieldFrame s.huntField)).movedBy
  | directiveSent =>
    refine moves_next rfl ?_
    have sent : MovedBy .directiveSent s s.sendHead := by
      unfold State.sendHead
      split
      · exact (Still.refl s).movedBy
      · exact ⟨rfl, rfl, fun n => absurd rfl n, fun n => absurd rfl n, fun n => absurd rfl n, fun n => absurd rfl n,
          fun _ => .inr rfl, fun n => absurd rfl n⟩
    split
    · exact sent
    · exact (Still.refl s).movedBy
  | ready p => exact moves_next rfl (s.still_takeStatus p (s.calm_playerReady p).still).movedBy
  | started p => exact moves_next rfl (s.still_takeStatus p (s.calm_playerStarted p).still).movedBy
  | refused p => exact moves_next rfl (s.still_takeStatus p (s.calm_playerRefused p).still).movedBy
  | ended p => exact moves_next rfl (s.still_takeStatus p (s.calm_playerEnded p).still).movedBy
  | statusFrameBad => exact moves_next rfl (Still.refl s).movedBy
  | statusFrameByteGap => exact moves_next rfl (still_modLinks s rfl).movedBy
  | departureExpiry i | overdueExpiry i | approachExpiry i | operationExpiry i | escalationExpiry i | restExpiry i | startExpiry i
  | stopExpiry i => exact moves_next (State.exec_of_isExpiry rfl s) (State.still_takeExpiry _ s _).movedBy
  | waitExpiry k h | leaseExpiry k h => exact moves_next (State.exec_of_isExpiry rfl s) (State.still_takeExpiry _ s _).movedBy
  | _ => cases h

/-- Settles O60: events are steady, so that a piece of state moves only in the arm of a command of its own. -/
theorem eachPartOfTheStateHasItsCommands : Obligations.EachPartOfTheStateHasItsCommands := by
  unfold Obligations.EachPartOfTheStateHasItsCommands
  intro c s
  have moves : Moves c s := by
    cases h : requestOf c with
    | none => exact moves_other s h
    | some r =>
      obtain ⟨code, tag⟩ := r
      rcases Nat.lt_or_ge 26 code with high | low
      · exact moves_partRequest s h high
      · rcases Nat.lt_or_ge 17 code with high' | low'
        · exact moves_lineRequest s h high' low
        · exact moves_recordRequest s h low'
  obtain ⟨t, e, moved⟩ := moves
  exact ⟨t, e, moved⟩

end Sys2Proof.Machine

/-! Records after an update: what a slot, a train, an incident, an announcement and a list read as. -/

namespace Sys2Proof.Machine
open Sys2Proof

/-! ### Tables -/

theorem getD_modify {α : Type} (l : List α) (i j : Nat) (f : α → α) (d : α) :
    (l.modify i f).getD j d = if i = j ∧ j < l.length then f (l.getD j d) else l.getD j d := by
  simp only [List.getD_eq_getElem?_getD, List.getElem?_modify]
  by_cases hj : j < l.length
  · by_cases hi : i = j <;> simp [hi, hj]
  · simp [hj]

/-- An update that leaves the default entry as it is needs no bound. -/
theorem getD_modify_of_fixed {α : Type} (l : List α) (i j : Nat) {f : α → α} {d : α} (h : f d = d) :
    (l.modify i f).getD j d = if i = j then f (l.getD j d) else l.getD j d := by
  rw [getD_modify]
  by_cases hj : j < l.length
  · simp [hj]
  · have beyond : l.getD j d = d := by simp [List.getD_eq_getElem?_getD, hj]
    rw [beyond]
    split
    · next both => exact absurd both.2 hj
    · split
      · exact h.symm
      · rfl

namespace State

/-! ### Slots -/

theorem slot_modTrain (s : State) (i : Nat) (f : Train → Train) (j : Nat) : (s.modTrain i f).slot j =
    if i = j then { s.slot j with record := match (s.slot j).record with | .train t => .train (f t) | r => r } else s.slot j :=
  getD_modify_of_fixed s.pool.slots i j rfl

theorem slot_modIncident (s : State) (i : Nat) (f : Incident → Incident) (j : Nat) : (s.modIncident i f).slot j =
    if i = j then { s.slot j with record := match (s.slot j).record with | .incident c => .incident (f c) | r => r }
    else s.slot j :=
  getD_modify_of_fixed s.pool.slots i j rfl

theorem slot_modAnn (s : State) (i : Nat) (f : Ann → Ann) (j : Nat) : (s.modAnn i f).slot j =
    if i = j then { s.slot j with record := match (s.slot j).record with | .ann a => .ann (f a) | r => r } else s.slot j :=
  getD_modify_of_fixed s.pool.slots i j rfl

theorem slot_release (s : State) (i j : Nat) :
    (s.release i).slot j = if i = j then { s.slot j with record := .free } else s.slot j :=
  getD_modify_of_fixed s.pool.slots i j rfl

/-! ### Records of one kind under an update of their own kind and of another -/

theorem train?_modTrain (s : State) (i : Nat) (f : Train → Train) (j : Nat) :
    (s.modTrain i f).train? j = if i = j then (s.train? j).map f else s.train? j := by
  by_cases h : i = j
  · simp only [train?, slot_modTrain, h, if_true]
    cases (s.slot j).record <;> rfl
  · simp only [train?, slot_modTrain, h, if_false]

theorem train?_modTrain_self (s : State) (i : Nat) (f : Train → Train) : (s.modTrain i f).train? i = (s.train? i).map f := by
  rw [train?_modTrain, if_pos rfl]

theorem train?_modTrain_ne (s : State) {i j : Nat} (f : Train → Train) (h : i ≠ j) : (s.modTrain i f).train? j = s.train? j := by
  rw [train?_modTrain, if_neg h]

theorem train?_modTrain_of {s : State} {i : Nat} {x : Train} (h : s.train? i = some x) (f : Train → Train) :
    (s.modTrain i f).train? i = some (f x) := by
  rw [train?_modTrain_self, h]; rfl

theorem incident?_modIncident (s : State) (i : Nat) (f : Incident → Incident) (j : Nat) :
    (s.modIncident i f).incident? j = if i = j then (s.incident? j).map f else s.incident? j := by
  by_cases h : i = j
  · simp only [incident?, slot_modIncident, h, if_true]
    cases (s.slot j).record <;> rfl
  · simp only [incident?, slot_modIncident, h, if_false]

theorem incident?_modIncident_of {s : State} {i : Nat} {c : Incident} (h : s.incident? i = some c) (f : Incident → Incident) :
    (s.modIncident i f).incident? i = some (f c) := by
  rw [incident?_modIncident, if_pos rfl, h]; rfl

theorem ann?_modAnn (s : State) (i : Nat) (f : Ann → Ann) (j : Nat) :
    (s.modAnn i f).ann? j = if i = j then (s.ann? j).map f else s.ann? j := by
  by_cases h : i = j
  · simp only [ann?, slot_modAnn, h, if_true]
    cases (s.slot j).record <;> rfl
  · simp only [ann?, slot_modAnn, h, if_false]

theorem ann?_modAnn_of {s : State} {i : Nat} {a : Ann} (h : s.ann? i = some a) (f : Ann → Ann) :
    (s.modAnn i f).ann? i = some (f a) := by
  rw [ann?_modAnn, if_pos rfl, h]; rfl

@[simp] theorem incident?_modTrain (s : State) (i : Nat) (f : Train → Train) (j : Nat) :
    (s.modTrain i f).incident? j = s.incident? j := by
  by_cases h : i = j
  · simp only [incident?, slot_modTrain, h, if_true]
    cases (s.slot j).record <;> rfl
  · simp only [incident?, slot_modTrain, h, if_false]

@[simp] theorem ann?_modTrain (s : State) (i : Nat) (f : Train → Train) (j : Nat) : (s.modTrain i f).ann? j = s.ann? j := by
  by_cases h : i = j
  · simp only [ann?, slot_modTrain, h, if_true]
    cases (s.slot j).record <;> rfl
  · simp only [ann?, slot_modTrain, h, if_false]

@[simp] theorem train?_modIncident (s : State) (i : Nat) (f : Incident → Incident) (j : Nat) :
    (s.modIncident i f).train? j = s.train? j := by
  by_cases h : i = j
  · simp only [train?, slot_modIncident, h, if_true]
    cases (s.slot j).record <;> rfl
  · simp only [train?, slot_modIncident, h, if_false]

@[simp] theorem ann?_modIncident (s : State) (i : Nat) (f : Incident → Incident) (j : Nat) :
    (s.modIncident i f).ann? j = s.ann? j := by
  by_cases h : i = j
  · simp only [ann?, slot_modIncident, h, if_true]
    cases (s.slot j).record <;> rfl
  · simp only [ann?, slot_modIncident, h, if_false]

@[simp] theorem train?_modAnn (s : State) (i : Nat) (f : Ann → Ann) (j : Nat) : (s.modAnn i f).train? j = s.train? j := by
  by_cases h : i = j
  · simp only [train?, slot_modAnn, h, if_true]
    cases (s.slot j).record <;> rfl
  · simp only [train?, slot_modAnn, h, if_false]

@[simp] theorem incident?_modAnn (s : State) (i : Nat) (f : Ann → Ann) (j : Nat) :
    (s.modAnn i f).incident? j = s.incident? j := by
  by_cases h : i = j
  · simp only [incident?, slot_modAnn, h, if_true]
    cases (s.slot j).record <;> rfl
  · simp only [incident?, slot_modAnn, h, if_false]

/-! ### Epochs and free slots -/

@[simp] theorem handle_modTrain (s : State) (i : Nat) (f : Train → Train) (j : Nat) : (s.modTrain i f).handle j = s.handle j := by
  simp only [handle, slot_modTrain]; split <;> rfl

@[simp] theorem handle_modIncident (s : State) (i : Nat) (f : Incident → Incident) (j : Nat) :
    (s.modIncident i f).handle j = s.handle j := by
  simp only [handle, slot_modIncident]; split <;> rfl

@[simp] theorem handle_modAnn (s : State) (i : Nat) (f : Ann → Ann) (j : Nat) : (s.modAnn i f).handle j = s.handle j := by
  simp only [handle, slot_modAnn]; split <;> rfl

@[simp] theorem handle_release (s : State) (i j : Nat) : (s.release i).handle j = s.handle j := by
  simp only [handle, slot_release]; split <;> rfl

/-- A record reads through the slot alone. -/
theorem train?_of_slot {s t : State} {i : Nat} (h : t.slot i = s.slot i) : t.train? i = s.train? i := by simp only [train?, h]
theorem incident?_of_slot {s t : State} {i : Nat} (h : t.slot i = s.slot i) : t.incident? i = s.incident? i := by
  simp only [incident?, h]
theorem ann?_of_slot {s t : State} {i : Nat} (h : t.slot i = s.slot i) : t.ann? i = s.ann? i := by simp only [ann?, h]
theorem handle_of_slot {s t : State} {i : Nat} (h : t.slot i = s.slot i) : t.handle i = s.handle i := by simp only [handle, h]

/-- The three kinds of record exclude each other, and a free slot holds none. -/
theorem incident?_of_train {s : State} {i : Nat} {x : Train} (h : s.train? i = some x) : s.incident? i = none := by
  rw [incident?, train?_eq_some.mp h]
theorem ann?_of_train {s : State} {i : Nat} {x : Train} (h : s.train? i = some x) : s.ann? i = none := by
  rw [ann?, train?_eq_some.mp h]
theorem ann?_of_incident {s : State} {i : Nat} {c : Incident} (h : s.incident? i = some c) : s.ann? i = none := by
  rw [ann?, incident?_eq_some.mp h]
theorem train?_of_ann {s : State} {i : Nat} {a : Ann} (h : s.ann? i = some a) : s.train? i = none := by
  rw [train?, ann?_eq_some.mp h]
theorem incident?_of_ann {s : State} {i : Nat} {a : Ann} (h : s.ann? i = some a) : s.incident? i = none := by
  rw [incident?, ann?_eq_some.mp h]
theorem train?_of_free {s : State} {i : Nat} (h : (s.slot i).record = .free) : s.train? i = none := by rw [train?, h]
theorem incident?_of_free {s : State} {i : Nat} (h : (s.slot i).record = .free) : s.incident? i = none := by rw [incident?, h]
theorem ann?_of_free {s : State} {i : Nat} (h : (s.slot i).record = .free) : s.ann? i = none := by rw [ann?, h]

theorem train?_release (s : State) (i j : Nat) : (s.release i).train? j = if i = j then none else s.train? j := by
  by_cases h : i = j
  · simp only [train?, slot_release, h, if_true]
  · simp only [train?, slot_release, h, if_false]

theorem incident?_release (s : State) (i j : Nat) : (s.release i).incident? j = if i = j then none else s.incident? j := by
  by_cases h : i = j
  · simp only [incident?, slot_release, h, if_true]
  · simp only [incident?, slot_release, h, if_false]

theorem ann?_release (s : State) (i j : Nat) : (s.release i).ann? j = if i = j then none else s.ann? j := by
  by_cases h : i = j
  · simp only [ann?, slot_release, h, if_true]
  · simp only [ann?, slot_release, h, if_false]

/-! ### Lists and fixed records -/

theorem queue_modQueue (s : State) (p : Nat) (f : List Nat → List Nat) (q : Nat) :
    (s.modQueue p f).queue q = if p = q ∧ q < s.pool.queues.length then f (s.queue q) else s.queue q :=
  getD_modify s.pool.queues p q f []

theorem platform_modPlatform (s : State) (p : Nat) (f : Platform → Platform) (q : Nat) :
    (s.modPlatform p f).platform q = if p = q ∧ q < s.platforms.length then f (s.platform q) else s.platform q :=
  getD_modify s.platforms p q f {}

theorem substation_modSubstation (s : State) (k : Nat) (f : Substation → Substation) (j : Nat) :
    (s.modSubstation k f).substation j = if k = j ∧ j < s.substations.length then f (s.substation j) else s.substation j :=
  getD_modify s.substations k j f {}

/-- An update of every substation's own kind, seen through a part of the record that it keeps. -/
theorem substation_modSubstation_part {β : Type} (g : Substation → β) (s : State) (k : Nat) {f : Substation → Substation}
    (h : ∀ b, g (f b) = g b) (j : Nat) : g ((s.modSubstation k f).substation j) = g (s.substation j) := by
  rw [substation_modSubstation]; split
  · exact h _
  · rfl

theorem platform_modPlatform_part {β : Type} (g : Platform → β) (s : State) (p : Nat) {f : Platform → Platform}
    (h : ∀ x, g (f x) = g x) (q : Nat) : g ((s.modPlatform p f).platform q) = g (s.platform q) := by
  rw [platform_modPlatform]; split
  · exact h _
  · rfl

theorem sect_modSect_part {β : Type} (g : Sect → β) (s : State) (i : Nat) {f : Sect → Sect}
    (h : ∀ x, g (f x) = g x) (j : Nat) : g ((s.modSect i f).sect j) = g (s.sect j) := by
  rw [sect_modSect]; split
  · exact h _
  · rfl

/-! ### Allocation (R23) -/

/-- What an allocation makes of the slots, the lists and the rest. -/
theorem allocate_slot {s t : State} {r : Rec} {i : Nat} (h : s.allocate r = some (t, i)) (j : Nat) :
    t.slot j = if i = j ∧ j < s.pool.slots.length then { epoch := nextEpoch (s.slot j).epoch, record := r } else s.slot j := by
  obtain ⟨rest, -, -, pool⟩ := allocate_spec h
  have slots : t.pool.slots = s.pool.slots.modify i fun sl => { epoch := nextEpoch sl.epoch, record := r } := by rw [pool]
  rw [slot, slots]
  exact getD_modify s.pool.slots i j _ {}

/-- An allocation succeeds while a slot is free. -/
theorem allocate_isSome {s : State} (h : s.pool.free ≠ []) (r : Rec) : ∃ t i, s.allocate r = some (t, i) := by
  obtain ⟨i, rest, hf⟩ := List.exists_cons_of_ne_nil h
  exact ⟨_, i, by rw [allocate, hf]⟩

/-- An allocation touches the pool and the latches alone. -/
theorem allocate_rest {s t : State} {r : Rec} {i : Nat} (h : s.allocate r = some (t, i)) :
    t.platforms = s.platforms ∧ t.sects = s.sects ∧ t.substations = s.substations ∧ t.links = s.links := by
  unfold allocate at h
  split at h
  · cases h
  · injection h with h
    injection h with h1 h2
    rw [← h1]
    split <;> exact ⟨rfl, rfl, rfl, rfl⟩

end State

/-! ### Members of a list in order -/

theorem mem_insertBefore {lower : Nat → Bool} {x y : Nat} {l : List Nat} : y ∈ insertBefore lower x l ↔ y = x ∨ y ∈ l := by
  induction l with
  | nil => simp [insertBefore]
  | cons z zs ih =>
    unfold insertBefore
    split
    · simp
    · simp only [List.mem_cons, ih]; tauto

theorem length_insertBefore (lower : Nat → Bool) (x : Nat) (l : List Nat) : (insertBefore lower x l).length = l.length + 1 := by
  induction l with
  | nil => rfl
  | cons z zs ih =>
    unfold insertBefore
    split
    · rfl
    · rw [List.length_cons, ih, List.length_cons]

theorem nodup_insertBefore {lower : Nat → Bool} {x : Nat} {l : List Nat} (h : l.Nodup) (hx : x ∉ l) :
    (insertBefore lower x l).Nodup := by
  induction l with
  | nil => exact List.nodup_singleton x
  | cons z zs ih =>
    unfold insertBefore
    split
    · exact List.nodup_cons.mpr ⟨hx, h⟩
    · rw [List.nodup_cons, mem_insertBefore, not_or]
      rw [List.mem_cons, not_or] at hx
      obtain ⟨hz, hzs⟩ := List.nodup_cons.mp h
      exact ⟨⟨fun e => hx.1 e.symm, hz⟩, ih hzs hx.2⟩

theorem mem_insertAscending {x y : Nat} {l : List Nat} (h : y ∈ insertAscending x l) : y = x ∨ y ∈ l := by
  induction l with
  | nil => simpa [insertAscending] using h
  | cons z zs ih =>
    unfold insertAscending at h
    split at h
    · simpa using h
    · split at h
      · exact .inr h
      · rcases List.mem_cons.mp h with rfl | h
        · simp
        · rcases ih h with rfl | h
          · exact .inl rfl
          · exact .inr (List.mem_cons_of_mem _ h)

end Sys2Proof.Machine

/-! The work of the events, cut into edits: each edit moves one record or one list with what goes with it, so that the pool, the wait
queues and the trains agree after each one. `Run on s t`: `t` follows from `s` by edits of the kinds that `on` allows. -/

namespace Sys2Proof.Machine
open Sys2Proof

/-- The parts of a section that commands of their own move, but for its occupants. -/
inductive SectPart where
  | counter | breaker | warning | state | op | recovery
  deriving DecidableEq

/-- Two sections agree in a part. -/
def SectPart.agree : SectPart → Sect → Sect → Prop
  | .counter, x, y => y.counter = x.counter
  | .breaker, x, y => y.breaker = x.breaker
  | .warning, x, y => y.warning = x.warning
  | .state, x, y => y.state = x.state
  | .op, x, y => y.op = x.op
  | .recovery, x, y => y.recovery = x.recovery

/-- The parts of the links that commands of their own move. -/
inductive LinkPart where
  | badCount | controlRx | fieldRx | statusRx | waiting
  deriving DecidableEq

/-- The links of two states agree in a part. -/
def LinkPart.agree : LinkPart → Links → Links → Prop
  | .badCount, x, y => y.badCount = x.badCount
  | .controlRx, x, y => y.controlRx = x.controlRx
  | .fieldRx, x, y => y.fieldRx = x.fieldRx
  | .statusRx, x, y => y.statusRx = x.statusRx
  | .waiting, x, y => y.waiting = x.waiting

/-- The kinds of work that only some events do. -/
inductive Work where
  /-- The wait queues are served (R111). -/
  | serve
  /-- Permit requests are withdrawn (R113), or made again by the hold-removal checks (R80). -/
  | withdraw
  /-- Sections and substations move, and requests move with them (R84, R115). -/
  | supply
  /-- A part of the sections moves. -/
  | part (p : SectPart)
  /-- A substation goes UP or DOWN. -/
  | up
  /-- The budgets move. -/
  | budgets
  /-- A part of the links moves: the work of receivers, not of events. -/
  | link (p : LinkPart)
  /-- A train arrives, departs or retires. -/
  | passage
  /-- A departure is recorded at its platform. -/
  | departs
  /-- A foreign passage is recorded at its platform. -/
  | foreign
  /-- A request or a status frame amends a record. -/
  | command
  /-- Trains change that are not HELD. -/
  | trains
  /-- A cause ends that is none of POWER DELAY, or an owed kind is served. -/
  | ends
  /-- The incident of a slot rises by one (R128). -/
  | escalate (i : Nat)
  /-- The train of a slot stops WAITING PERMIT without a grant or a withdrawal. -/
  | leave (i : Nat)
  /-- No soundness is asked of the part the work begins at. -/
  | rough
  /-- Nothing is known of the wait queues the work begins at. -/
  | loose

/-- A property of the platforms a train names. -/
def Train.Within (x : Train) (ok : Nat → Prop) : Prop := ok x.origin ∧ ∀ p, x.position = some p → ok p

/-- The part is OPERATING and its tables and lists fit together. -/
def State.Ready (s : State) : Prop := s.Sound ∧ s.part = .operating

/-- What the hold-removal check does to a HELD train (R80): what the regulation reads of the train is kept, and it is released only
when its departure time has come. -/
structure Recheck (s : State) (x y : Train) : Prop where
  held      : x.state = .held
  state     : y.state = .held ∨ y.state = .dwelling
  position  : y.position = x.position
  lastArr   : y.lastArr = x.lastArr
  lastDep   : y.lastDep = x.lastDep
  predicted : y.predicted = x.predicted
  depTime   : y.depTime = x.depTime

/-- A change of a train that neither begins nor ends WAITING PERMIT. -/
structure TrainChange (on : Work → Prop) (s : State) (x y : Train) : Prop where
  by_       : on .trains ∨ Recheck s x y
  vehicle   : y.vehicle = x.vehicle
  saved     : y.saved = x.saved
  service   : 1 ≤ x.service ∧ x.service ≤ 9999 → 1 ≤ y.service ∧ y.service ≤ 9999
  places    : on .rough ∨ ∀ ok : Nat → Prop, (∀ p, s.platformOk p = true → ok p) → x.Within ok → y.Within ok
  departure : ∀ d, y.state = .dwelling → y.depDl = some d →
    (x.state = .dwelling ∧ x.depDl = some d) ∨ 0 < diff s.lineTime d ∨ on .passage
  overdue   : ∀ d, y.state = .running → y.overdueDl = some d → (x.state = .running ∧ x.overdueDl = some d) ∨ on .passage
  approach  : ∀ d, y.state.isRunning = true → y.approachDl = some d →
    (x.state.isRunning = true ∧ x.approachDl = some d) ∨ on .passage
  owed      : y.owed = x.owed

/-- A change of an incident. -/
structure IncidentChange (on : Work → Prop) (s : State) (c d : Incident) : Prop where
  copies     : on .rough ∨ ((∀ p ∈ c.owedCopies, p < Config.platformEntries) → ∀ p ∈ d.owedCopies, p < Config.platformEntries)
  escalation : ∀ e, d.state = .raised → d.escDl = some e → (c.state = .raised ∧ c.escDl = some e) ∨ 0 < diff s.lineTime e
  operator   : c.kind = .operator → on .command ∨
    (d.kind = c.kind ∧ d.state = c.state ∧ d.severity = c.severity ∧ d.escDl = c.escDl)
  same       : on .command ∨ (d.kind = c.kind ∧ d.location = c.location)
  cause      : c.active = true → on .ends ∨ on .command ∨ c.kind = .powerDelay ∨ d.active = true

/-- A change of an announcement. -/
structure AnnChange (on : Work → Prop) (a b : Ann) : Prop where
  platform : b.platform = a.platform
  rest     : ∀ d, b.state = .resting → b.restDl = some d → (a.state = .resting ∧ a.restDl = some d) ∨ on .command

/-- A change of a platform's player alone. -/
structure PlayerChange (s : State) (x y : Platform) : Prop where
  occupant    : y.occupant = x.occupant
  lastDep     : y.lastDep = x.lastDep
  lastForeign : y.lastForeign = x.lastForeign
  owed        : y.owed = x.owed
  deadline    : ∀ d, y.player = .cued ∨ y.player = .stopping → y.playerDl = some d →
    ((x.player = .cued ∨ x.player = .stopping) ∧ x.playerDl = some d) ∨ 0 < diff s.lineTime d

/-- Work that may write `v` into the owed set of a locating record: a kind becomes owed where automatic incidents are raised, which is
work that may serve the queues and withdraw requests; it is no longer owed where its cause ends or it is served (R32 to R36). -/
def Owing (on : Work → Prop) (loc : Location) (v : Option Nat) : Prop :=
  (v.isSome = true ∧ on .serve ∧ on .withdraw) ∨ (v = none ∧ ((∃ j, loc = .substation j) ∨ on .ends))

/-- Edits that leave the trains, but for their owed sets, and the wait queues as they stand. -/
inductive RecordEdit (on : Work → Prop) (s : State) : State → Prop
  | attention (f : Attention → Attention) (mask : (f s.attention).mask = s.attention.mask)
      (lines : s.attention.lines.length = Config.lineEntries → (f s.attention).lines.length = Config.lineEntries) :
      RecordEdit on s (s.modAttention f)
  | issue (n : Nat) (d : Directive) (h : on (.part .op) ∨ on .rough ∨ n < Config.breakerBase) : RecordEdit on s (s.issue n d)
  | player (p : Nat) (f : Platform → Platform) (h : ∀ x, PlayerChange s x (f x)) : RecordEdit on s (s.modPlatform p f)
  | ring (p : Nat) (f : Platform → Platform) (h : on .passage)
      (kept : ∀ x, (f x).owed = x.owed ∧ (f x).player = x.player ∧ (f x).cue = x.cue ∧ (f x).playerDl = x.playerDl)
      (dep : on .departs ∨ ∀ x, (f x).lastDep = x.lastDep) (foreign : on .foreign ∨ ∀ x, (f x).lastForeign = x.lastForeign) :
      RecordEdit on s (s.modPlatform p f)
  | putOwed (k : Kind) (loc : Location) (v : Option Nat) (h : Owing on loc v) : RecordEdit on s (s.putOwed k loc v)
  | sect (i : Nat) (f : Sect → Sect) (parts : ∀ x p, on (.part p) ∨ p.agree x (f x))
      (occupants : on .passage ∨ ∀ x, (f x).occupants = x.occupants)
      (op : ∀ x o d, (f x).op = some (o, d) → x.op = some (o, d) ∨ 0 < diff s.lineTime d) : RecordEdit on s (s.modSect i f)
  | substation (k : Nat) (f : Substation → Substation)
      (kept : ∀ b, (f b).leases = b.leases ∧ (f b).queue = b.queue ∧ (f b).inUse = b.inUse)
      (up : on .up ∨ ∀ b, (f b).up = b.up) (budget : on .budgets ∨ ∀ b, (f b).budget = b.budget) : RecordEdit on s (s.modSubstation k f)
  | incident (i : Nat) (f : Incident → Incident) (h : ∀ c, s.incident? i = some c → IncidentChange on s c (f c)) :
      RecordEdit on s (s.modIncident i f)
  | severity (i v : Nat) (live : on .rough ∨ (s.incident? i).isSome = true)
      (h : on (.escalate i) ∨ on .command ∨ ∀ c, s.incident? i = some c → c.kind ≠ .operator) :
      RecordEdit on s (s.changeSeverity i v)
  | newIncident (c : Incident) (t : State) (i : Nat) (h : s.allocate (.incident c) = some (t, i))
      (room : s.incidentCount < Config.incidentCap) (copies : c.owedCopies = [])
      (escalation : ∀ e, c.escDl = some e → 0 < diff s.lineTime e) : RecordEdit on s (t.linkIncident i)
  | dropIncident (i : Nat) (h : on .command) (live : (s.incident? i).isSome = true) :
      RecordEdit on s ((s.unlinkIncident i).release i)
  | ann (i : Nat) (f : Ann → Ann) (h : ∀ a, s.ann? i = some a → AnnChange on a (f a)) : RecordEdit on s (s.modAnn i f)
  | newAnn (a : Ann) (t : State) (i : Nat) (h : s.allocate (.ann a) = some (t, i)) (room : s.queueRoom a.platform = true)
      (place : on .rough ∨ a.platform < Config.platformEntries) (queued : a.state = .queued) :
      RecordEdit on s (t.linkAnn a.platform i)
  | dropAnn (i : Nat) (a : Ann) (live : s.ann? i = some a) : RecordEdit on s ((s.unlinkAnn a.platform i).release i)
  | requeueAnn (i : Nat) (a : Ann) (live : s.ann? i = some a) :
      RecordEdit on s (((s.modAnn i fun b => { b with state := .queued, restDl := none }).unlinkAnn a.platform i).linkAnn a.platform i)

/-- Who may be granted a permit at a substation, or be given a place in its queue: a HELD train whose departure time has come, or
another that is not WAITING PERMIT. -/
def MayAsk (on : Work → Prop) (s : State) (x : Train) : Prop :=
  x.state ≠ .waiting ∧ (on .trains ∨ (on .withdraw ∧ x.state = .held ∧ diff s.lineTime (x.depTime.getD s.lineTime) ≤ 0))

/-- The state with the permit request of the train in slot `i` at the tail of the queue of `k` (R107). -/
def State.queueUp (s : State) (k i w : Nat) : State :=
  (s.modSubstation k fun b =>
    { b with queue := b.queue ++ [⟨s.handle i, w, s.lineTime, some (later s.lineTime s.line.waitLimit)⟩] }).modTrain i fun x =>
    { x with state := .waiting }

/-- The wait deadline of an entry removed (R118). -/
def State.waitGone (s : State) (k : Nat) (h : Handle) : State :=
  s.modSubstation k fun b => { b with queue := b.queue.map fun e => if e.train = h then { e with waitDl := none } else e }

/-- The permit request of the train in slot `i` withdrawn (R113), but for its directive. -/
def State.withdrawn (s : State) (i : Nat) (reason : HoldSet → HoldSet) : State :=
  (s.dropEntries (s.handle i)).modTrain i fun x => { x with state := .held, holds := reason x.holds, permitReq := none }

/-- The train in slot `i` has no entry in a wait queue. -/
def State.NoEntry (s : State) (i : Nat) : Prop := ∀ k, ∀ e ∈ (s.substation k).queue, e.train.slot ≠ i

/-- Edits of the trains, the leases and the wait queues. -/
inductive GateEdit (on : Work → Prop) (s : State) : State → Prop
  | train (i : Nat) (f : Train → Train)
      (h : on .rough ∨ ∀ x, s.train? i = some x → TrainChange on s x (f x) ∧ ((f x).state = .waiting ↔ x.state = .waiting)) :
      GateEdit on s (s.modTrain i f)
  | leave (i : Nat) (f : Train → Train) (tag : on (.leave i))
      (h : on .rough ∨ ∀ x, s.train? i = some x → TrainChange on s x (f x) ∧ (f x).state ≠ .waiting)
      (gone : on .rough ∨ on .loose ∨ s.NoEntry i) : GateEdit on s (s.modTrain i f)
  | grantEntry (k : Nat) (e : Entry) (h : on .serve) (mem : e ∈ (s.substation k).queue) : GateEdit on s (s.grant k e.train e.weight)
  | grantAsked (k i w : Nat) (h : on .rough ∨ ∃ x, s.train? i = some x ∧ MayAsk on s x) : GateEdit on s (s.grant k (s.handle i) w)
  | enqueue (k i w : Nat) (h : on .rough ∨ ∃ x, s.train? i = some x ∧ MayAsk on s x)
      (inRange : on .rough ∨ (s.Configured → k < Config.substationEntries)) : GateEdit on s (s.queueUp k i w)
  | withdraw (i : Nat) (reason : HoldSet → HoldSet) (h : on .withdraw)
      (waits : on .rough ∨ ∃ x, s.train? i = some x ∧ x.state = .waiting) : GateEdit on s (s.withdrawn i reason)
  | dropEntries (h : Handle) (tag : on (.leave h.slot)) : GateEdit on s (s.dropEntries h)
  | dropLease (k : Nat) (h : Handle) (tag : on .trains) : GateEdit on s (s.dropLease k h)
  | waitGone (k : Nat) (h : Handle) : GateEdit on s (s.waitGone k h)
  | moveRequests (i g r : Nat) (h : on .supply) (other : g ≠ r)
      (inRange : on .rough ∨ (s.Configured → r < Config.substationEntries)) : GateEdit on s (s.moveRequests i g r)

/-- One edit. -/
inductive Edit (on : Work → Prop) (s t : State) : Prop
  | record (h : RecordEdit on s t)
  | gate (h : GateEdit on s t)

/-- Work of an event, edit by edit. -/
def Run (on : Work → Prop) : State → State → Prop := Relation.ReflTransGen (Edit on)

namespace Run
variable {on : Work → Prop}

theorem refl (s : State) : Run on s s := Relation.ReflTransGen.refl

theorem trans {s t u : State} (a : Run on s t) (b : Run on t u) : Run on s u := Relation.ReflTransGen.trans a b

theorem of_record {s t : State} (h : RecordEdit on s t) : Run on s t := Relation.ReflTransGen.single (.record h)

theorem of_gate {s t : State} (h : GateEdit on s t) : Run on s t := Relation.ReflTransGen.single (.gate h)

/-- What every edit keeps, a run keeps. -/
theorem keeps {P : State → Prop} (step : ∀ s t, Edit on s t → P s → P t) {s t : State} (r : Run on s t) (h : P s) : P t := by
  induction r with
  | refl => exact h
  | tail _ e ih => exact step _ _ e ih

end Run

end Sys2Proof.Machine

/-! The pool in order (R20) through the edits: where each slot stands, and what a relinked, an allocated and a freed slot make of
the lists. -/

namespace Sys2Proof.Machine
open Sys2Proof

/-! ### Where a slot stands -/

/-- The lists of the pool (R20, R26). -/
inductive Home where
  | free | trains | incidents | queue (p : Nat)
  deriving DecidableEq

/-- The list a record stands on. -/
def Rec.home : Rec → Home
  | .free => .free
  | .train _ => .trains
  | .incident _ => .incidents
  | .ann a => .queue a.platform

namespace State

def listOf (s : State) : Home → List Nat
  | .free => s.pool.free
  | .trains => s.pool.trains
  | .incidents => s.pool.incidents
  | .queue p => s.queue p

def homeOf (s : State) (i : Nat) : Home := (s.slot i).record.home

theorem homeOf_eq_free {s : State} {i : Nat} : s.homeOf i = .free ↔ (s.slot i).record = .free := by
  unfold homeOf; cases (s.slot i).record <;> simp [Rec.home]

theorem homeOf_eq_trains {s : State} {i : Nat} : s.homeOf i = .trains ↔ (s.train? i).isSome = true := by
  unfold homeOf train?; cases (s.slot i).record <;> simp [Rec.home]

theorem homeOf_eq_incidents {s : State} {i : Nat} : s.homeOf i = .incidents ↔ (s.incident? i).isSome = true := by
  unfold homeOf incident?; cases (s.slot i).record <;> simp [Rec.home]

theorem homeOf_eq_queue {s : State} {i p : Nat} : s.homeOf i = .queue p ↔ ∃ a, s.ann? i = some a ∧ a.platform = p := by
  unfold homeOf ann?; cases (s.slot i).record <;> simp [Rec.home]

theorem slot_beyond {s : State} {i : Nat} (h : s.pool.slots.length ≤ i) : s.slot i = {} := by
  simp [slot, List.getD_eq_getElem?_getD, h]

/-- A slot that holds a record is one of the 256. -/
theorem lt_of_live {s : State} (hs : s.Sized) {i : Nat} (h : (s.slot i).record ≠ .free) : i < Config.slotEntries := by
  by_contra hi
  have beyond : s.slot i = {} := slot_beyond (hs.1.symm ▸ Nat.le_of_not_lt hi)
  exact h (by rw [beyond])

/-- The pool is in order when every slot stands on the list of its record, once, and the epochs are in range (R20, R21). -/
structure Shelved (s : State) : Prop where
  mem    : ∀ l i, i ∈ s.listOf l ↔ i < Config.slotEntries ∧ s.homeOf i = l
  once   : ∀ l, (s.listOf l).Nodup
  epochs : ∀ i, (s.slot i).epoch ≤ 15 ∧ ((s.slot i).record ≠ .free → 1 ≤ (s.slot i).epoch)

theorem shelved_of_pooled {s : State} (hs : s.Sized) (h : s.Pooled) : s.Shelved := by
  have live : ∀ l i, l ≠ .free → (s.homeOf i = l ↔ i < Config.slotEntries ∧ s.homeOf i = l) := fun l i hl =>
    ⟨fun hi => ⟨lt_of_live hs fun hf => hl (hi ▸ homeOf_eq_free.mpr hf), hi⟩, And.right⟩
  constructor
  · intro l i
    cases l with
    | free => rw [homeOf_eq_free]; exact h.free i
    | trains => rw [← live _ _ Home.noConfusion, homeOf_eq_trains]; exact h.trains i
    | incidents => rw [← live _ _ Home.noConfusion, homeOf_eq_incidents]; exact h.incidents i
    | queue p => rw [← live _ _ Home.noConfusion, homeOf_eq_queue]; exact h.queues p i
  · intro l
    cases l with
    | free => exact h.freeOnce
    | trains => exact h.trainsOnce
    | incidents => exact h.incidentsOnce
    | queue p => exact h.queuesOnce p
  · exact h.epochs

theorem pooled_of_shelved {s : State} (hs : s.Sized) (h : s.Shelved) : s.Pooled := by
  have live : ∀ l i, l ≠ .free → (i ∈ s.listOf l ↔ s.homeOf i = l) := fun l i hl =>
    (h.mem l i).trans ⟨And.right, fun hi => ⟨lt_of_live hs fun hf => hl (hi ▸ homeOf_eq_free.mpr hf), hi⟩⟩
  exact
    { free := fun i => (h.mem .free i).trans (and_congr_right fun _ => homeOf_eq_free)
      trains := fun i => (live .trains i Home.noConfusion).trans homeOf_eq_trains
      incidents := fun i => (live .incidents i Home.noConfusion).trans homeOf_eq_incidents
      queues := fun p i => (live (.queue p) i Home.noConfusion).trans homeOf_eq_queue
      freeOnce := h.once .free
      trainsOnce := h.once .trains
      incidentsOnce := h.once .incidents
      queuesOnce := fun p => h.once (.queue p)
      epochs := h.epochs }

/-- Records that keep their places, on lists that keep their members. -/
theorem Shelved.same {s t : State} (h : s.Shelved) (homes : ∀ i, t.homeOf i = s.homeOf i)
    (epochs : ∀ i, (t.slot i).epoch = (s.slot i).epoch) (members : ∀ l i, i ∈ t.listOf l ↔ i ∈ s.listOf l)
    (once : ∀ l, (s.listOf l).Nodup → (t.listOf l).Nodup) : t.Shelved where
  mem l i := by rw [members, homes]; exact h.mem l i
  once l := once l (h.once l)
  epochs i := by
    rw [epochs]
    refine ⟨(h.epochs i).1, fun live => (h.epochs i).2 fun free => live ?_⟩
    exact homeOf_eq_free.mp ((homes i).trans (homeOf_eq_free.mpr free))

/-- One slot that goes from one list to another. -/
theorem Shelved.moved {s t : State} (h : s.Shelved) {i : Nat} {l m : Home} (hi : i < Config.slotEntries) (ne : l ≠ m)
    (here : s.homeOf i = l) (there : t.homeOf i = m) (others : ∀ j, j ≠ i → t.slot j = s.slot j)
    (left : t.listOf l = (s.listOf l).erase i) (came : ∀ j, j ∈ t.listOf m ↔ j = i ∨ j ∈ s.listOf m)
    (once : i ∉ s.listOf m → (s.listOf m).Nodup → (t.listOf m).Nodup) (rest : ∀ n, n ≠ l → n ≠ m → t.listOf n = s.listOf n)
    (epoch : (t.slot i).epoch ≤ 15 ∧ ((t.slot i).record ≠ .free → 1 ≤ (t.slot i).epoch)) : t.Shelved := by
  have homes : ∀ j, j ≠ i → t.homeOf j = s.homeOf j := fun j hj => by rw [homeOf, homeOf, others j hj]
  have absent : i ∉ s.listOf m := fun hm => ne (here.symm.trans ((h.mem m i).mp hm).2)
  constructor
  · intro n j
    by_cases hl : n = l
    · subst hl
      rw [left, (h.once n).mem_erase_iff]
      by_cases hj : j = i
      · subst hj; simp [there, ne.symm]
      · rw [h.mem, homes j hj]; simp [hj]
    · by_cases hm : n = m
      · subst hm
        rw [came]
        by_cases hj : j = i
        · subst hj; simp [there, hi]
        · rw [h.mem, homes j hj]; simp [hj]
      · rw [rest n hl hm, h.mem]
        by_cases hj : j = i
        · subst hj; rw [here, there]; exact and_congr_right fun _ => ⟨fun e => absurd e.symm hl, fun e => absurd e.symm hm⟩
        · rw [homes j hj]
  · intro n
    by_cases hl : n = l
    · subst hl; rw [left]; exact (h.once n).erase i
    · by_cases hm : n = m
      · subst hm; exact once absent (h.once n)
      · rw [rest n hl hm]; exact h.once n
  · intro j
    by_cases hj : j = i
    · subst hj; exact epoch
    · rw [others j hj]; exact h.epochs j

/-! ### The relation under an edit -/

theorem sized_of_steady {s t : State} (c : Steady s t) (h : s.Sized) : t.Sized := by
  obtain ⟨slots, queues, platforms, sects, subs, shadows, lines⟩ := h
  have links := congrArg Links.shadows c.links
  exact ⟨c.slots.trans slots, c.queues.trans queues, c.platforms.trans platforms, c.sects.trans sects, c.subs.trans subs,
    (congrArg List.length links).trans shadows, c.lines lines⟩

theorem header_of_steady {s t : State} (c : Steady s t) (h : s.part = .operating → s.headerGood = true) :
    t.part = .operating → t.headerGood = true := by
  intro ht
  have := h (c.part ▸ ht)
  rwa [headerGood, c.tables, ← headerGood]

/-- Two parts with one pool are sound together, where sizes and header allow it. -/
theorem sound_of_pool_of_sized {s t : State} (sized : t.Sized) (header : t.part = .operating → t.headerGood = true)
    (pool : t.pool = s.pool) (h : s.Sound) : t.Sound := by
  have slots : ∀ i, t.slot i = s.slot i := fun i => by rw [slot, slot, pool]
  refine ⟨sized, pooled_of_shelved sized ?_, ⟨?_, ?_, ?_, ?_⟩, header⟩
  · have lists : t.listOf = s.listOf := by funext l; cases l <;> simp [listOf, queue, pool]
    refine (shelved_of_pooled h.sized h.pooled).same (fun i => by rw [homeOf, homeOf, slots]) (fun i => by rw [slots]) ?_ ?_ <;>
      intros <;> simp_all
  · exact fun i x hx => h.placed.origins i x (train?_of_slot (slots i) ▸ hx)
  · exact fun i x p hx => h.placed.positions i x p (train?_of_slot (slots i) ▸ hx)
  · exact fun i a ha => h.placed.anns i a (ann?_of_slot (slots i) ▸ ha)
  · exact fun i c hc => h.placed.copies i c (incident?_of_slot (slots i) ▸ hc)

/-- A sound part of which the pool has not moved. -/
theorem sound_of_pool {s t : State} (c : Steady s t) (pool : t.pool = s.pool) (h : s.Sound) : t.Sound :=
  sound_of_pool_of_sized (sized_of_steady c h.sized) (header_of_steady c h.header) pool h

end State

end Sys2Proof.Machine

/-! What every edit leaves alone, and that every edit keeps the part sound: sizes, lists, platforms named and header. -/

namespace Sys2Proof.Machine
open Sys2Proof

namespace State

/-! ### What every edit leaves alone -/

theorem calm_queueUp (s : State) (k i w : Nat) : Calm s (s.queueUp k i w) :=
  (s.calm_modSubstation k
    (fun b => { b with queue := b.queue ++ [⟨s.handle i, w, s.lineTime, some (later s.lineTime s.line.waitLimit)⟩] })
    (fun _ hb => hb) fun _ => rfl).trans (calm_modTrain _ i _)

theorem calm_withdrawn (s : State) (i : Nat) (r : HoldSet → HoldSet) : Calm s (s.withdrawn i r) :=
  (s.calm_dropEntries _).trans (calm_modTrain _ i _)

theorem calm_waitGone (s : State) (k : Nat) (h : Handle) : Calm s (s.waitGone k h) :=
  s.calm_modSubstation k _ (fun _ hb => hb) fun _ => rfl

theorem steady_recordEdit {on : Work → Prop} {s t : State} (h : RecordEdit on s t) : Steady s t := by
  cases h with
  | attention f mask lines => exact (s.calm_modAttention f mask lines).toSteady
  | issue n d => exact (s.calm_issue n d).toSteady
  | player p f | ring p f => exact (s.calm_modPlatform p f).toSteady
  | putOwed k loc v => exact (s.calm_putOwed k loc v).toSteady
  | sect i f => exact s.steady_modSect i f
  | substation k f kept =>
    refine s.steady_modSubstation k f fun b hb => ?_
    obtain ⟨leases, -, units⟩ := kept b
    rwa [Substation.Even, leases, units]
  | incident i f => exact (s.calm_modIncident i f).toSteady
  | severity i v => exact (s.calm_changeSeverity i v).toSteady
  | newIncident c t i h =>
    obtain ⟨_, _, calm, _⟩ := allocate_spec h
    exact (calm.trans (calm_linkIncident t i)).toSteady
  | dropIncident i => exact ((s.calm_unlinkIncident i).trans (calm_release _ i)).toSteady
  | ann i f => exact (s.calm_modAnn i f).toSteady
  | newAnn a t i h =>
    obtain ⟨_, _, calm, _⟩ := allocate_spec h
    exact (calm.trans (calm_linkAnn t a.platform i)).toSteady
  | dropAnn i a => exact ((s.calm_unlinkAnn a.platform i).trans (calm_release _ i)).toSteady
  | requeueAnn i a =>
    exact (((s.calm_modAnn i _).trans (calm_unlinkAnn _ a.platform i)).trans (calm_linkAnn _ a.platform i)).toSteady

theorem steady_gateEdit {on : Work → Prop} {s t : State} (h : GateEdit on s t) : Steady s t := by
  cases h with
  | train i f | leave i f => exact (s.calm_modTrain i f).toSteady
  | grantEntry k e => exact (s.calm_grant k e.train e.weight).toSteady
  | grantAsked k i w => exact (s.calm_grant k (s.handle i) w).toSteady
  | enqueue k i w => exact (s.calm_queueUp k i w).toSteady
  | withdraw i r => exact (s.calm_withdrawn i r).toSteady
  | dropEntries h => exact (s.calm_dropEntries h).toSteady
  | dropLease k h => exact (s.calm_dropLease k h).toSteady
  | waitGone k h => exact (s.calm_waitGone k h).toSteady
  | moveRequests i g r => exact (s.calm_moveRequests i g r).toSteady

theorem steady_edit {on : Work → Prop} {s t : State} (h : Edit on s t) : Steady s t := by
  cases h with
  | record h => exact steady_recordEdit h
  | gate h => exact steady_gateEdit h

/-! ### The pool after the gate's operations -/

@[simp] theorem pool_dropEntries (s : State) (h : Handle) : (s.dropEntries h).pool = s.pool := by
  unfold dropEntries
  refine foldl_keeps (P := fun t : State => t.pool = s.pool) (fun t k ht => ?_) substationIndices rfl
  split <;> exact ht

@[simp] theorem platforms_dropEntries (s : State) (h : Handle) : (s.dropEntries h).platforms = s.platforms := by
  unfold dropEntries
  refine foldl_keeps (P := fun t : State => t.platforms = s.platforms) (fun t k ht => ?_) substationIndices rfl
  split <;> exact ht

/-- An update of the train of a slot that holds none changes nothing. -/
theorem modTrain_of_none {s : State} {i : Nat} (h : s.train? i = none) (f : Train → Train) : s.modTrain i f = s := by
  have same : (s.modTrain i f).pool.slots = s.pool.slots := by
    refine List.ext_getElem? fun j => ?_
    rw [modTrain, modSlot_pool_slots, List.getElem?_modify]
    cases hj : s.pool.slots[j]? with
    | none => rfl
    | some sl =>
      by_cases hi : i = j
      · subst hi
        have here : s.slot i = sl := by simp [slot, List.getD_eq_getElem?_getD, hj]
        rw [train?, here] at h
        obtain ⟨epoch, record⟩ := sl
        cases record with
        | train x => cases h
        | _ => exact congrArg some (if_pos rfl)
      · exact congrArg some (if_neg hi)
  exact congrArg (fun l => { s with pool := { s.pool with slots := l } }) same

/-- A grant releases the train with its lease, and touches no other slot. -/
theorem pool_grant (s : State) (k : Nat) (h : Handle) (w : Nat) : (s.grant k h w).pool =
    (s.modTrain h.slot fun x => { x with lease := some (k, s.serviceWeight k w), state := .released }).pool := by
  unfold grant
  dsimp only
  cases hx : s.train? h.slot with
  | some x => rfl
  | none => rw [modTrain_of_none hx]; rfl

theorem pool_withdrawn (s : State) (i : Nat) (reason : HoldSet → HoldSet) : (s.withdrawn i reason).pool =
    (s.modTrain i fun x => { x with state := .held, holds := reason x.holds, permitReq := none }).pool := by
  simp only [withdrawn, modTrain, modSlot, modPool_pool, pool_dropEntries]

/-- The end of a lease touches the lease of one train at most. -/
theorem pool_dropLease (s : State) (k : Nat) (h : Handle) : (s.dropLease k h).pool =
    if s.current h then (s.modTrain h.slot fun x => { x with lease := none }).pool else s.pool := by
  have current : ∀ f, (s.modSubstation k f).current h = s.current h := fun _ => rfl
  simp only [dropLease, current]
  cases s.current h <;> rfl

/-! ### Trains, list and Pattern Control -/

theorem trains_edit {on : Work → Prop} {s t : State} (h : Edit on s t) : t.pool.trains = s.pool.trains := by
  have alloc : ∀ {u r j}, s.allocate r = some (u, j) → u.pool.trains = s.pool.trains := fun h => by
    obtain ⟨_, _, _, pool⟩ := allocate_spec h; rw [pool]
  cases h with
  | record h =>
    cases h with
    | putOwed k loc v =>
      unfold putOwed
      split
      · rfl
      · rfl
      · rfl
      · split <;> rfl
    | newIncident c t i h => show t.pool.trains = _; exact alloc h
    | newAnn a t i h => show t.pool.trains = _; exact alloc h
    | _ => rfl
  | gate h =>
    cases h with
    | grantEntry | grantAsked => rw [pool_grant]; rfl
    | withdraw i r => simp only [withdrawn, modTrain_pool_trains, pool_dropEntries]
    | dropEntries h => simp only [pool_dropEntries]
    | dropLease k h => simp only [pool_dropLease]; split <;> simp only [modTrain_pool_trains]
    | _ => rfl

theorem control_edit {on : Work → Prop} {s t : State} (h : Edit on s t) : t.control = s.control := by
  cases h with
  | record h =>
    cases h with
    | putOwed k loc v => exact (s.calm_putOwed k loc v).control
    | newIncident c t i h =>
      obtain ⟨_, _, calm, _⟩ := allocate_spec h
      exact (calm.trans (calm_linkIncident t i)).control
    | newAnn a t i h =>
      obtain ⟨_, _, calm, _⟩ := allocate_spec h
      exact (calm.trans (calm_linkAnn t a.platform i)).control
    | _ => rfl
  | gate h =>
    cases h with
    | grantEntry k e => exact (s.calm_grant k e.train e.weight).control
    | grantAsked k i w => exact (s.calm_grant k (s.handle i) w).control
    | withdraw i r => exact (s.calm_withdrawn i r).control
    | dropEntries h => exact (s.calm_dropEntries h).control
    | dropLease k h => exact (s.calm_dropLease k h).control
    | _ => rfl

end State

end Sys2Proof.Machine

/-! Every edit of a part that is OPERATING and sound leaves it so. -/

namespace Sys2Proof.Machine
open Sys2Proof

namespace State

/-! ### Records changed in their places -/

/-- A sound part whose records have kept their places, and whose lists their members. -/
theorem sound_of_homes {s t : State} (c : Steady s t) (h : s.Sound) (homes : ∀ i, t.homeOf i = s.homeOf i)
    (epochs : ∀ i, (t.slot i).epoch = (s.slot i).epoch) (members : ∀ l i, i ∈ t.listOf l ↔ i ∈ s.listOf l)
    (once : ∀ l, (s.listOf l).Nodup → (t.listOf l).Nodup)
    (trains : ∀ i x, t.train? i = some x → x.Within (· < Config.platformEntries))
    (copies : ∀ i d, t.incident? i = some d → ∀ p ∈ d.owedCopies, p < Config.platformEntries) : t.Sound := by
  have sized := sized_of_steady c h.sized
  refine ⟨sized, pooled_of_shelved sized ((shelved_of_pooled h.sized h.pooled).same homes epochs members once),
    ⟨fun i x hx => (trains i x hx).1, fun i x p hx => (trains i x hx).2 p, fun i a ha => ?_, copies⟩, header_of_steady c h.header⟩
  have home : t.homeOf i = .queue a.platform := homeOf_eq_queue.mpr ⟨a, ha, rfl⟩
  obtain ⟨b, hb, place⟩ := homeOf_eq_queue.mp ((homes i).symm.trans home)
  exact place ▸ h.placed.anns i b hb

theorem Sound.within {s : State} (h : s.Sound) {i : Nat} {x : Train} (hx : s.train? i = some x) :
    x.Within (· < Config.platformEntries) :=
  ⟨h.placed.origins i x hx, fun p => h.placed.positions i x p hx⟩

theorem sound_modTrain {s : State} (h : s.Sound) (i : Nat) (f : Train → Train)
    (within : ∀ x, s.train? i = some x → (f x).Within (· < Config.platformEntries)) : (s.modTrain i f).Sound := by
  have homes : ∀ j, (s.modTrain i f).homeOf j = s.homeOf j := fun j => by
    by_cases hj : i = j
    · simp only [homeOf, slot_modTrain, if_pos hj]; cases (s.slot j).record <;> rfl
    · simp only [homeOf, slot_modTrain, if_neg hj]
  refine sound_of_homes (s.calm_modTrain i f).toSteady h homes (fun j => ?_) (fun l j => ?_) (fun l => ?_) (fun j x hx => ?_)
    fun j d hd => h.placed.copies j d (by simpa using hd)
  · exact congrArg Handle.epoch (s.handle_modTrain i f j)
  · cases l <;> rfl
  · cases l <;> exact id
  · rw [train?_modTrain] at hx
    split at hx
    · next hj =>
      subst hj
      obtain ⟨y, hy, rfl⟩ := Option.map_eq_some_iff.mp hx
      exact within y hy
    · exact h.within hx

theorem sound_modIncident {s : State} (h : s.Sound) (i : Nat) (f : Incident → Incident)
    (copies : ∀ c, s.incident? i = some c → ∀ p ∈ (f c).owedCopies, p < Config.platformEntries) : (s.modIncident i f).Sound := by
  have homes : ∀ j, (s.modIncident i f).homeOf j = s.homeOf j := fun j => by
    by_cases hj : i = j
    · simp only [homeOf, slot_modIncident, if_pos hj]; cases (s.slot j).record <;> rfl
    · simp only [homeOf, slot_modIncident, if_neg hj]
  refine sound_of_homes (s.calm_modIncident i f).toSteady h homes (fun j => ?_) (fun l j => ?_) (fun l => ?_)
    (fun j x hx => h.within (by simpa using hx)) fun j d hd => ?_
  · exact congrArg Handle.epoch (s.handle_modIncident i f j)
  · cases l <;> rfl
  · cases l <;> exact id
  · rw [incident?_modIncident] at hd
    split at hd
    · next hj =>
      subst hj
      obtain ⟨y, hy, rfl⟩ := Option.map_eq_some_iff.mp hd
      exact copies y hy
    · exact h.placed.copies j d hd

theorem sound_modAnn {s : State} (h : s.Sound) (i : Nat) (f : Ann → Ann)
    (place : ∀ a, s.ann? i = some a → (f a).platform = a.platform) : (s.modAnn i f).Sound := by
  have homes : ∀ j, (s.modAnn i f).homeOf j = s.homeOf j := fun j => by
    by_cases hj : i = j
    · subst hj
      simp only [homeOf, slot_modAnn, if_true]
      cases hr : (s.slot i).record with
      | ann a => exact congrArg Home.queue (place a (ann?_eq_some.mpr hr))
      | _ => rfl
    · simp only [homeOf, slot_modAnn, if_neg hj]
  refine sound_of_homes (s.calm_modAnn i f).toSteady h homes (fun j => ?_) (fun l j => ?_) (fun l => ?_)
    (fun j x hx => h.within (by simpa using hx)) fun j d hd => h.placed.copies j d (by simpa using hd)
  · exact congrArg Handle.epoch (s.handle_modAnn i f j)
  · cases l <;> rfl
  · cases l <;> exact id

/-- An incident or an announcement that leaves its list and enters it again. -/
theorem sound_relinkIncident {s : State} (h : s.Sound) {i : Nat} (live : i ∈ s.pool.incidents) (lower : Nat → Bool) :
    (s.modPool fun q => { q with incidents := insertBefore lower i (q.incidents.erase i) }).Sound := by
  have once : s.pool.incidents.Nodup := h.pooled.incidentsOnce
  refine sound_of_homes (s.calm_modPool _ rfl rfl).toSteady h (fun _ => rfl) (fun _ => rfl) (fun l j => ?_) (fun l => ?_)
    (fun j x hx => h.within hx) fun j d hd => h.placed.copies j d hd
  · cases l with
    | incidents =>
      show j ∈ insertBefore lower i (s.pool.incidents.erase i) ↔ j ∈ s.pool.incidents
      rw [mem_insertBefore, once.mem_erase_iff]
      by_cases hj : j = i
      · subst hj; simp [live]
      · simp [hj]
    | _ => rfl
  · cases l with
    | incidents =>
      exact fun _ => nodup_insertBefore (once.erase i) fun hm => (once.mem_erase_iff.mp hm).1 rfl
    | _ => exact id

theorem sound_relinkAnn {s : State} (h : s.Sound) {i p : Nat} (live : i ∈ s.queue p) (lower : Nat → Bool) :
    (s.modQueue p fun q => insertBefore lower i (q.erase i)).Sound := by
  have once : (s.queue p).Nodup := h.pooled.queuesOnce p
  refine sound_of_homes (s.calm_modQueue p _).toSteady h (fun _ => rfl) (fun _ => rfl) (fun l j => ?_) (fun l => ?_)
    (fun j x hx => h.within hx) fun j d hd => h.placed.copies j d hd
  · cases l with
    | queue q =>
      show j ∈ (s.modQueue p _).queue q ↔ j ∈ s.queue q
      rw [queue_modQueue]
      split
      · next hq =>
        rw [← hq.1, mem_insertBefore, once.mem_erase_iff]
        by_cases hj : j = i
        · subst hj; simp [live]
        · simp [hj]
      · rfl
    | _ => rfl
  · cases l with
    | queue q =>
      show (s.queue q).Nodup → ((s.modQueue p _).queue q).Nodup
      rw [queue_modQueue]
      split
      · next hq =>
        rw [← hq.1]
        exact fun _ => nodup_insertBefore (once.erase i) fun hm => (once.mem_erase_iff.mp hm).1 rfl
      · exact id
    | _ => exact id

/-! ### Records allocated and freed -/

theorem nextEpoch_range (e : Nat) : 1 ≤ nextEpoch e ∧ nextEpoch e ≤ 15 := by unfold nextEpoch; split <;> omega

/-- The slot an allocation takes was free and is one of the 256. -/
theorem allocate_free {s t : State} {r : Rec} {i : Nat} (a : s.allocate r = some (t, i)) (h : s.Sound) :
    i < Config.slotEntries ∧ (s.slot i).record = .free := by
  obtain ⟨rest, free, -, -⟩ := allocate_spec a
  exact (h.pooled.free i).mp (free ▸ List.mem_cons_self ..)

theorem allocate_slot_self {s t : State} {r : Rec} {i : Nat} (a : s.allocate r = some (t, i)) (h : s.Sound) :
    t.slot i = { epoch := nextEpoch (s.slot i).epoch, record := r } := by
  rw [allocate_slot a, if_pos ⟨rfl, h.sized.1.symm ▸ (allocate_free a h).1⟩]

theorem allocate_slot_ne {s t : State} {r : Rec} {i j : Nat} (a : s.allocate r = some (t, i)) (h : j ≠ i) :
    t.slot j = s.slot j := by
  rw [allocate_slot a, if_neg fun e => h e.1.symm]

/-- A record that takes the head free slot and its place on its list. -/
theorem sound_allocated {s t u : State} {r : Rec} {i : Nat} (h : s.Sound) (a : s.allocate r = some (t, i)) (c : Steady t u)
    (live : r ≠ .free) (slots : u.pool.slots = t.pool.slots) (free : u.pool.free = t.pool.free)
    (came : ∀ j, j ∈ u.listOf r.home ↔ j = i ∨ j ∈ s.listOf r.home)
    (once : i ∉ s.listOf r.home → (s.listOf r.home).Nodup → (u.listOf r.home).Nodup)
    (rest : ∀ n, n ≠ .free → n ≠ r.home → u.listOf n = s.listOf n)
    (train : ∀ x, r = .train x → x.Within (· < Config.platformEntries))
    (incident : ∀ d, r = .incident d → ∀ p ∈ d.owedCopies, p < Config.platformEntries)
    (ann : ∀ b, r = .ann b → b.platform < Config.platformEntries) : u.Sound := by
  obtain ⟨tail, head, calm, pool⟩ := allocate_spec a
  obtain ⟨inPool, wasFree⟩ := allocate_free a h
  have steady : Steady s u := calm.toSteady.trans c
  have sized := sized_of_steady steady h.sized
  have uslot : ∀ j, u.slot j = t.slot j := fun j => by rw [slot, slot, slots]
  have here : u.slot i = { epoch := nextEpoch (s.slot i).epoch, record := r } := (uslot i).trans (allocate_slot_self a h)
  have others : ∀ j, j ≠ i → u.slot j = s.slot j := fun j hj => (uslot j).trans (allocate_slot_ne a hj)
  have ne : Home.free ≠ r.home := by cases r <;> first | exact absurd rfl live | exact Home.noConfusion
  have left : u.listOf .free = (s.listOf .free).erase i := by
    show u.pool.free = s.pool.free.erase i
    rw [free, pool, head, List.erase_cons_head]
  refine ⟨sized, pooled_of_shelved sized ((shelved_of_pooled h.sized h.pooled).moved inPool ne (homeOf_eq_free.mpr wasFree)
    (by rw [homeOf, here]) others left came once rest ?_), ⟨?_, ?_, ?_, ?_⟩, header_of_steady steady h.header⟩
  · rw [here]
    exact ⟨(nextEpoch_range _).2, fun _ => (nextEpoch_range _).1⟩
  all_goals intro j
  · intro x hx
    by_cases hj : j = i
    · subst hj; rw [train?_eq_some, here] at hx; exact (train x hx).1
    · exact (h.within (train?_of_slot (others j hj) ▸ hx)).1
  · intro x p hx
    by_cases hj : j = i
    · subst hj; rw [train?_eq_some, here] at hx; exact (train x hx).2 p
    · exact (h.within (train?_of_slot (others j hj) ▸ hx)).2 p
  · intro b hb
    by_cases hj : j = i
    · subst hj; rw [ann?_eq_some, here] at hb; exact ann b hb
    · exact h.placed.anns j b (ann?_of_slot (others j hj) ▸ hb)
  · intro d hd
    by_cases hj : j = i
    · subst hj; rw [incident?_eq_some, here] at hd; exact incident d hd
    · exact h.placed.copies j d (incident?_of_slot (others j hj) ▸ hd)

/-- A record that leaves its list and gives its slot back. -/
theorem sound_released {s u : State} {i : Nat} (h : s.Sound) (live : (s.slot i).record ≠ .free) (c : Steady s u)
    (slots : u.pool.slots = s.pool.slots) (left : u.listOf (s.homeOf i) = (s.listOf (s.homeOf i)).erase i)
    (rest : ∀ n, n ≠ s.homeOf i → u.listOf n = s.listOf n) : (u.release i).Sound := by
  have uslot : ∀ j, u.slot j = s.slot j := fun j => by rw [slot, slot, slots]
  have ne : s.homeOf i ≠ .free := fun hf => live (homeOf_eq_free.mp hf)
  have steady : Steady s (u.release i) := c.trans (u.calm_release i).toSteady
  have sized := sized_of_steady steady h.sized
  have others : ∀ j, j ≠ i → (u.release i).slot j = s.slot j := fun j hj => by
    rw [slot_release, if_neg fun e => hj e.symm, uslot]
  have here : (u.release i).slot i = { s.slot i with record := .free } := by rw [slot_release, if_pos rfl, uslot]
  have lists : ∀ n, n ≠ .free → (u.release i).listOf n = u.listOf n := fun n hn => by cases n <;> first | exact absurd rfl hn | rfl
  have freeList : (u.release i).listOf .free = s.listOf .free ++ [i] := by
    show u.pool.free ++ [i] = s.pool.free ++ [i]
    exact congrArg (· ++ [i]) (rest .free ne.symm)
  refine ⟨sized, pooled_of_shelved sized ((shelved_of_pooled h.sized h.pooled).moved (lt_of_live h.sized live) ne rfl
    (by rw [homeOf, here]; rfl) others ?_ ?_ ?_ ?_ ?_), ⟨?_, ?_, ?_, ?_⟩, header_of_steady steady h.header⟩
  · rw [lists _ ne, left]
  · intro j
    rw [freeList, List.mem_append, List.mem_singleton, or_comm]
  · intro absent once
    rw [freeList]
    exact List.nodup_append.mpr ⟨once, List.nodup_singleton i, fun a ha b hb => by
      rw [List.mem_singleton.mp hb]; rintro rfl; exact absent ha⟩
  · exact fun n hl hm => (lists n hm).trans (rest n hl)
  · rw [here]
    exact ⟨(h.pooled.epochs i).1, fun hf => absurd rfl hf⟩
  all_goals intro j
  · intro x hx
    rw [train?_release] at hx
    split at hx
    · cases hx
    · exact (h.within (train?_of_slot (uslot j) ▸ hx)).1
  · intro x p hx
    rw [train?_release] at hx
    split at hx
    · cases hx
    · exact (h.within (train?_of_slot (uslot j) ▸ hx)).2 p
  · intro b hb
    rw [ann?_release] at hb
    split at hb
    · cases hb
    · exact h.placed.anns j b (ann?_of_slot (uslot j) ▸ hb)
  · intro d hd
    rw [incident?_release] at hd
    split at hd
    · cases hd
    · exact h.placed.copies j d (incident?_of_slot (uslot j) ▸ hd)

end State

end Sys2Proof.Machine

/-! Soundness edit by edit, and along a run. -/

namespace Sys2Proof.Machine
open Sys2Proof

namespace State

/-- The configured platforms are among the 48 (R3, R16). -/
theorem Ready.platforms_le {s : State} (h : s.Ready) : s.tables.header.platforms ≤ Config.platformEntries :=
  (headerGood_iff.mp (h.1.header h.2)).1.2

theorem Ready.platform_lt {s : State} (h : s.Ready) {p : Nat} (hp : s.platformOk p = true) : p < Config.platformEntries :=
  Nat.lt_of_lt_of_le (of_decide_eq_true hp) h.platforms_le

theorem sound_changeSeverity {s : State} (h : s.Sound) {i : Nat} (live : (s.incident? i).isSome = true) (v : Nat) :
    (s.changeSeverity i v).Sound := by
  have first : (s.modIncident i fun c => { c with severity := v }).Sound :=
    sound_modIncident h i _ fun c hc => h.placed.copies i c hc
  have relinked := sound_relinkIncident first ((h.pooled.incidents i).mpr live) fun j =>
    decide (((s.unlinkIncident i).modIncident i fun c => { c with severity := v }).severityAt j <
      ((s.unlinkIncident i).modIncident i fun c => { c with severity := v }).severityAt i)
  refine sound_modIncident relinked i _ fun c hc => ?_
  have copies := relinked.placed.copies i c hc
  split <;> exact copies

theorem sound_newIncident {s t : State} {c : Incident} {i : Nat} (h : s.Sound) (a : s.allocate (.incident c) = some (t, i))
    (copies : c.owedCopies = []) : (t.linkIncident i).Sound := by
  obtain ⟨_, _, _, pool⟩ := allocate_spec a
  have list : t.pool.incidents = s.pool.incidents := by rw [pool]
  refine sound_allocated h a (t.calm_linkIncident i).toSteady Rec.noConfusion rfl rfl (fun j => ?_) (fun absent once => ?_)
    (fun n _ hn => ?_) (fun _ e => nomatch e) (fun d e p hp => ?_) fun _ e => nomatch e
  · show j ∈ insertBefore _ i t.pool.incidents ↔ _
    rw [mem_insertBefore, list]; rfl
  · show (insertBefore _ i t.pool.incidents).Nodup
    rw [list]; exact nodup_insertBefore once absent
  · cases n with
    | free => contradiction
    | trains => show t.pool.trains = _; rw [pool]; rfl
    | incidents => exact absurd rfl hn
    | queue p => show t.pool.queues.getD p [] = _; rw [pool]; rfl
  · cases e; rw [copies] at hp; cases hp

theorem sound_newAnn {s t : State} {b : Ann} {i : Nat} (h : s.Sound) (a : s.allocate (.ann b) = some (t, i))
    (place : b.platform < Config.platformEntries) : (t.linkAnn b.platform i).Sound := by
  obtain ⟨_, _, _, pool⟩ := allocate_spec a
  have inQueues : b.platform < t.pool.queues.length := by rw [pool]; exact h.sized.2.1.symm ▸ place
  have queues : ∀ q, t.queue q = s.queue q := fun q => by rw [queue, queue, pool]
  have here : (t.linkAnn b.platform i).queue b.platform = insertBefore (fun j => decide (t.annPriority j < t.annPriority i)) i
      (s.queue b.platform) := by
    rw [linkAnn, queue_modQueue, if_pos ⟨rfl, inQueues⟩, queues]
  refine sound_allocated h a (t.calm_linkAnn b.platform i).toSteady Rec.noConfusion rfl rfl (fun j => ?_) (fun absent once => ?_)
    (fun n _ hn => ?_) (fun _ e => nomatch e) (fun _ e => nomatch e) fun d e => ?_
  · show j ∈ (t.linkAnn b.platform i).queue b.platform ↔ _
    rw [here, mem_insertBefore]; rfl
  · show ((t.linkAnn b.platform i).queue b.platform).Nodup
    rw [here]; exact nodup_insertBefore once absent
  · cases n with
    | free => contradiction
    | trains => show t.pool.trains = _; rw [pool]; rfl
    | incidents => show t.pool.incidents = _; rw [pool]; rfl
    | queue p =>
      show (t.linkAnn b.platform i).queue p = _
      rw [linkAnn, queue_modQueue, if_neg fun e => hn (congrArg Home.queue e.1.symm), queues]; rfl
  · cases e; exact place

theorem sound_dropIncident {s : State} {i : Nat} (h : s.Sound) (live : (s.incident? i).isSome = true) :
    ((s.unlinkIncident i).release i).Sound := by
  have home : s.homeOf i = .incidents := homeOf_eq_incidents.mpr live
  refine sound_released h (fun hf => ?_) (s.calm_unlinkIncident i).toSteady rfl (by rw [home]; rfl) fun n hn => ?_
  · rw [incident?_of_free hf] at live; cases live
  · cases n with
    | incidents => exact absurd home.symm hn
    | _ => rfl

theorem sound_dropAnn {s : State} {i : Nat} {a : Ann} (h : s.Sound) (live : s.ann? i = some a) :
    ((s.unlinkAnn a.platform i).release i).Sound := by
  have home : s.homeOf i = .queue a.platform := homeOf_eq_queue.mpr ⟨a, live, rfl⟩
  have inQueues : a.platform < s.pool.queues.length := h.sized.2.1.symm ▸ h.placed.anns i a live
  refine sound_released h (fun hf => ?_) (s.calm_unlinkAnn a.platform i).toSteady rfl ?_ fun n hn => ?_
  · rw [ann?_of_free hf] at live; cases live
  · rw [home]
    show (s.unlinkAnn a.platform i).queue a.platform = _
    rw [unlinkAnn, queue_modQueue, if_pos ⟨rfl, inQueues⟩]; rfl
  · cases n with
    | queue p =>
      show (s.unlinkAnn a.platform i).queue p = _
      rw [unlinkAnn, queue_modQueue, if_neg fun e => hn (by rw [home, e.1])]; rfl
    | _ => rfl

theorem sound_requeueAnn {s : State} {i : Nat} {a : Ann} (h : s.Sound) (live : s.ann? i = some a) (f : Ann → Ann)
    (place : (f a).platform = a.platform) : (((s.modAnn i f).unlinkAnn a.platform i).linkAnn a.platform i).Sound := by
  have first : (s.modAnn i f).Sound := sound_modAnn h i f fun b hb => by cases live.symm.trans hb; exact place
  have relinked := sound_relinkAnn (p := a.platform) first ((h.pooled.queues a.platform i).mpr ⟨a, live, rfl⟩) fun j =>
    decide (((s.modAnn i f).unlinkAnn a.platform i).annPriority j < ((s.modAnn i f).unlinkAnn a.platform i).annPriority i)
  have same : ((s.modAnn i f).unlinkAnn a.platform i).linkAnn a.platform i = (s.modAnn i f).modQueue a.platform fun q =>
      insertBefore (fun j => decide (((s.modAnn i f).unlinkAnn a.platform i).annPriority j <
        ((s.modAnn i f).unlinkAnn a.platform i).annPriority i)) i (q.erase i) := by
    refine congrArg (fun l => { s.modAnn i f with pool := { (s.modAnn i f).pool with queues := l } }) ?_
    exact List.modify_modify_eq _ _ _ _
  rw [same]
  exact relinked

theorem sound_putOwed {s : State} (h : s.Sound) (k : Kind) (loc : Location) (v : Option Nat) : (s.putOwed k loc v).Sound := by
  have calm := (s.calm_putOwed k loc v).toSteady
  unfold putOwed at calm ⊢
  split at calm
  · exact sound_of_pool calm rfl h
  · exact sound_of_pool calm rfl h
  · exact sound_of_pool calm rfl h
  · split
    · exact sound_modTrain h _ _ fun x hx => (h.within hx : x.Within _)
    · exact h

theorem sound_recordEdit {on : Work → Prop} {s t : State} (e : RecordEdit on s t) (smooth : ¬ on .rough) (h : s.Ready) :
    t.Sound := by
  have steady := steady_recordEdit e
  cases e with
  | attention | issue | player | ring | sect | substation => exact sound_of_pool steady rfl h.1
  | putOwed k loc v => exact sound_putOwed h.1 k loc v
  | incident i f change =>
    exact sound_modIncident h.1 i f fun c hc => (change c hc).copies.resolve_left smooth (h.1.placed.copies i c hc)
  | severity i v live => exact sound_changeSeverity h.1 (live.resolve_left smooth) v
  | newIncident c t i a _ copies => exact sound_newIncident h.1 a copies
  | dropIncident i _ live => exact sound_dropIncident h.1 live
  | ann i f change => exact sound_modAnn h.1 i f fun a ha => (change a ha).platform
  | newAnn b t i a _ place => exact sound_newAnn h.1 a (place.resolve_left smooth)
  | dropAnn i a live => exact sound_dropAnn h.1 live
  | requeueAnn i a live => exact sound_requeueAnn h.1 live _ rfl

theorem sound_gateEdit {on : Work → Prop} {s t : State} (e : GateEdit on s t) (smooth : ¬ on .rough) (h : s.Ready) : t.Sound := by
  have steady := steady_gateEdit e
  have mod : ∀ {u : State} (i : Nat) (f : Train → Train), Steady s u → u.pool = (s.modTrain i f).pool →
      (∀ x, (f x).origin = x.origin ∧ (f x).position = x.position) → u.Sound := fun i f c pool same =>
    sound_of_pool_of_sized (sized_of_steady c h.1.sized) (header_of_steady c h.1.header) pool
      (sound_modTrain h.1 i f fun x hx => by
        rw [Train.Within, (same x).1, (same x).2]; exact h.1.within hx)
  have change : ∀ {i : Nat} {f : Train → Train}, (∀ x, s.train? i = some x → TrainChange on s x (f x)) → (s.modTrain i f).Sound :=
    fun {i f} all => sound_modTrain h.1 i f fun x hx => (all x hx).places.resolve_left smooth _ (fun _ => h.platform_lt) (h.1.within hx)
  cases e with
  | train i f all => exact change fun x hx => (all.resolve_left smooth x hx).1
  | leave i f _ all => exact change fun x hx => (all.resolve_left smooth x hx).1
  | grantEntry | grantAsked => exact mod _ _ steady (pool_grant ..) fun _ => ⟨rfl, rfl⟩
  | enqueue k i w => exact mod i _ steady rfl fun _ => ⟨rfl, rfl⟩
  | withdraw i r => exact mod i _ steady (s.pool_withdrawn i r) fun _ => ⟨rfl, rfl⟩
  | dropEntries h' => exact sound_of_pool steady (s.pool_dropEntries h') h.1
  | dropLease k h' =>
    cases hc : s.current h' with
    | true => exact mod h'.slot (fun x => { x with lease := none }) steady (by rw [pool_dropLease, if_pos hc]) fun _ => ⟨rfl, rfl⟩
    | false => exact sound_of_pool steady (by rw [pool_dropLease, if_neg (by simp [hc])]) h.1
  | waitGone | moveRequests => exact sound_of_pool steady rfl h.1

end State

/-- An edit of a ready part leaves it ready. -/
theorem Edit.ready {on : Work → Prop} {s t : State} (e : Edit on s t) (smooth : ¬ on .rough) (h : s.Ready) : t.Ready := by
  have part := (State.steady_edit e).part.trans h.2
  cases e with
  | record e => exact ⟨State.sound_recordEdit e smooth h, part⟩
  | gate e => exact ⟨State.sound_gateEdit e smooth h, part⟩

namespace Run
variable {on : Work → Prop} {s t : State}

theorem ready (r : Run on s t) (smooth : ¬ on .rough) (h : s.Ready) : t.Ready := r.keeps (fun _ _ e => e.ready smooth) h

theorem steady (r : Run on s t) : Steady s t := by
  induction r with
  | refl => exact Steady.refl s
  | tail _ e ih => exact ih.trans (State.steady_edit e)

theorem trains (r : Run on s t) : t.pool.trains = s.pool.trains := by
  induction r with
  | refl => rfl
  | tail _ e ih => exact (State.trains_edit e).trans ih

theorem control (r : Run on s t) : t.control = s.control := by
  induction r with
  | refl => rfl
  | tail _ e ih => exact (State.control_edit e).trans ih

end Run

/-- Work of an event on a part that is ready, or of which nothing is asked. -/
def Does (on : Work → Prop) (s t : State) : Prop := on .rough ∨ s.Ready → Run on s t

namespace Does
variable {on : Work → Prop} {s t u : State}

theorem refl (s : State) : Does on s s := fun _ => Run.refl s

theorem trans (a : Does on s t) (b : Does on t u) : Does on s u := fun h => (a h).trans <| b <| by
  by_cases rough : on .rough
  · exact .inl rough
  · exact .inr ((a h).ready rough (h.resolve_left rough))

theorem of_record (h : RecordEdit on s t) : Does on s t := fun _ => .of_record h

theorem of_gate (h : GateEdit on s t) : Does on s t := fun _ => .of_gate h

/-- Work that needs what a ready part gives. -/
theorem of_ready (h : on .rough ∨ s.Ready → Does on s t) : Does on s t := fun r => h r r

theorem foldl {α : Type} {f : State → α → State} (l : List α) (hf : ∀ s, ∀ x ∈ l, Does on s (f s x)) (s : State) :
    Does on s (l.foldl f s) := by
  induction l generalizing s with
  | nil => exact refl s
  | cons x xs ih =>
    exact (hf s x (List.mem_cons_self ..)).trans (ih (fun t y hy => hf t y (List.mem_cons_of_mem _ hy)) (f s x))

end Does

end Sys2Proof.Machine

/-! The shared operations as work of edits: announcements and players, the gate, the incidents, and the end of an event. -/

namespace Sys2Proof.Machine
open Sys2Proof

/-- A delay of at least a tenth and less than half a day ends after now (R1). -/
theorem diff_later_pos {now : Nat} {d : Int} (pos : 0 < d) (less : d < 432000) : 0 < diff now (later now d) := by
  rw [diff_eq, later_eq]; omega

namespace State
variable {on : Work → Prop}

/-! ### Directives, latches and lines -/

theorem does_latch (s : State) (x : Latch) : Does on s (s.latch x) := .of_record (.attention _ rfl id)

theorem does_judgeLines (s : State) : Does on s s.judgeLines := .of_record (.attention _ rfl fun _ => by simp [judgedLines])

theorem does_issueIndicator (s : State) {p : Nat} (d : Directive) (hp : on .rough ∨ p < Config.platformEntries) :
    Does on s (s.issueIndicator p d) :=
  .of_record (.issue p d (.inr (hp.imp_right fun h => Nat.lt_of_lt_of_le h (by decide))))

theorem does_issuePlayer (s : State) {p : Nat} (d : Directive) (hp : on .rough ∨ p < Config.platformEntries) :
    Does on s (s.issuePlayer p d) :=
  .of_record (.issue _ d (.inr (hp.imp_right fun h => Nat.add_lt_add_left h Config.playerBase)))

/-! ### Announcements and players -/

theorem does_quietPlayer (s : State) (p : Nat) (x : PlayerState) : Does on s (s.quietPlayer p x) :=
  .of_record (.player p _ fun _ => ⟨rfl, rfl, rfl, rfl, fun _ _ h => nomatch h⟩)

/-- A player with a start or a stop deadline of now + 20. -/
theorem does_timedPlayer (s : State) (p : Nat) (x : PlayerState) (c : Option Handle) :
    Does on s (s.modPlatform p fun q => { q with player := x, cue := c, playerDl := some (later s.lineTime Config.playerLimit) }) :=
  .of_record (.player p _ fun _ => ⟨rfl, rfl, rfl, rfl, fun d _ h => .inr (by
    cases h; exact diff_later_pos (by decide) (by decide))⟩)

theorem does_stopCue (s : State) {p : Nat} (unsent : Bool) (hp : on .rough ∨ p < Config.platformEntries) :
    Does on s (s.stopCue p unsent) := by
  unfold stopCue
  split
  · exact (s.does_issuePlayer .stop hp).trans (does_quietPlayer _ p .idle)
  · exact (s.does_issuePlayer .stop hp).trans (does_timedPlayer _ p .stopping none)

/-- A change of an announcement that gives it no rest. -/
theorem does_modAnn (s : State) (i : Nat) (f : Ann → Ann) (place : ∀ a, (f a).platform = a.platform)
    (rest : ∀ a, (f a).state = .resting → a.state = .resting ∧ (f a).restDl = a.restDl) : Does on s (s.modAnn i f) :=
  .of_record (.ann i f fun a _ => ⟨place a, fun _ resting h => .inl ⟨(rest a resting).1, (rest a resting).2 ▸ h⟩⟩)

theorem does_requeueCue (s : State) (p : Nat) : Does on s (s.requeueCue p) := by
  unfold requeueCue
  split
  · exact does_modAnn s _ _ (fun _ => rfl) fun _ h => nomatch h
  · exact .refl s

theorem does_preempt (s : State) {p : Nat} (hp : on .rough ∨ p < Config.platformEntries) : Does on s (s.preempt p) := by
  unfold preempt
  split
  · exact .refl s
  · split
    · exact .refl s
    · split
      · exact (s.does_requeueCue p).trans (does_stopCue _ _ hp)
      · exact .refl s

theorem does_createAnn (s : State) {a : Ann} (room : s.queueRoom a.platform = true)
    (place : on .rough ∨ a.platform < Config.platformEntries) (queued : a.state = .queued) : Does on s (s.createAnn a) := by
  unfold createAnn
  split
  · exact .refl s
  · next t i h =>
    have new : Does on s (t.linkAnn a.platform i) := .of_record (.newAnn a t i h room place queued)
    dsimp only
    split
    · exact new.trans (does_preempt _ place)
    · exact new

theorem ready_or (on : Work → Prop) {s : State} {P : Prop} (h : on .rough ∨ s.Ready) (p : s.Ready → P) : on .rough ∨ P :=
  h.imp_right p

theorem does_dropAnn (s : State) (i : Nat) {a : Ann} (live : s.ann? i = some a) :
    Does on s ((s.unlinkAnn a.platform i).release i) := .of_record (.dropAnn i a live)

theorem ann?_stopCue (s : State) (p : Nat) (unsent : Bool) (i : Nat) : (s.stopCue p unsent).ann? i = s.ann? i := by
  unfold stopCue; dsimp only; split <;> rfl

theorem does_retireAnn (s : State) (i : Nat) : Does on s (s.retireAnn i) := by
  refine .of_ready fun r => ?_
  unfold retireAnn
  split
  · exact .refl s
  · next a live =>
    have place := ready_or on r fun h => h.1.placed.anns i a live
    dsimp only
    split
    · exact (s.does_stopCue _ place).trans (does_dropAnn _ i (by rwa [ann?_stopCue]))
    · exact (s.does_stopCue _ place).trans (does_dropAnn _ i (by rwa [ann?_stopCue]))
    all_goals exact s.does_dropAnn i live

theorem does_retireAnns (s : State) (test : Ann → Bool) : Does on s (s.retireAnns test) :=
  .foldl (f := fun (t : State) (e : Nat × Ann) => t.retireAnn e.1) _ (fun t e _ => t.does_retireAnn e.1) s

theorem does_mapAnns (s : State) {f : Ann → Ann} (place : ∀ a, (f a).platform = a.platform)
    (rest : ∀ a, (f a).state = a.state ∧ (f a).restDl = a.restDl) : Does on s (s.mapAnns f) :=
  .foldl (f := fun (t : State) (e : Nat × Ann) => t.modAnn e.1 f) _
    (fun t e _ => t.does_modAnn e.1 f place fun a h => ⟨(rest a).1 ▸ h, (rest a).2⟩) s

theorem does_select (s : State) {p : Nat} (hp : p < Config.platformEntries) : Does on s (s.select p) := by
  unfold select
  split
  · split
    · exact .refl s
    · split
      · exact .refl s
      · refine .trans (.trans ?_ (does_issuePlayer _ _ (.inr hp))) (does_timedPlayer _ p .cued _)
        exact does_modAnn s _ _ (fun _ => rfl) fun _ h => nomatch h
  · exact .refl s

theorem does_selections (s : State) : Does on s s.selections :=
  .foldl (f := select) _ (fun t _ hp => t.does_select (List.mem_range.mp hp)) s

theorem does_completePlay (s : State) (p : Nat) (command : on .command) : Does on s (s.completePlay p) := by
  have done : ∀ (t : State) (i : Nat), Does on t ((t.modAnn i fun b => { b with plays := b.plays + 1, state := .done }).retireAnn i) :=
    fun t i => .trans (does_modAnn t i (fun b => { b with plays := b.plays + 1, state := .done }) (fun _ => rfl) fun _ h => nomatch h)
      (does_retireAnn _ i)
  unfold completePlay
  split
  · exact s.does_quietPlayer p .idle
  · split
    · exact s.does_quietPlayer p .idle
    · dsimp only
      split
      · exact (s.does_quietPlayer p .idle).trans (done _ _)
      · split
        · exact (s.does_quietPlayer p .idle).trans (done _ _)
        · exact (s.does_quietPlayer p .idle).trans (.of_record (.ann _ _ fun a _ => ⟨rfl, fun _ _ _ => .inr command⟩))

theorem does_playerReady (s : State) (p : Nat) : Does on s (s.playerReady p) := by
  unfold playerReady
  split
  · exact .refl s
  all_goals first
    | exact (s.does_requeueCue p).trans (does_quietPlayer _ p .idle)
    | exact s.does_quietPlayer p .idle

theorem does_playerStarted (s : State) {p : Nat} (hp : on .rough ∨ p < Config.platformEntries) : Does on s (s.playerStarted p) := by
  have playing : ∀ t : State, Does on t (t.modPlatform p fun q => { q with player := .playing, playerDl := none }) := fun _ =>
    .of_record (.player p _ fun _ => ⟨rfl, rfl, rfl, rfl, fun _ _ h => nomatch h⟩)
  unfold playerStarted
  split
  case h_5 =>
    dsimp only
    split
    · refine .trans ?_ (playing _)
      exact does_modAnn s _ _ (fun _ => rfl) fun _ h => nomatch h
    · exact playing s
  case h_4 => exact .refl s
  all_goals exact s.does_issuePlayer .stop hp

theorem does_playerRefused (s : State) (p : Nat) : Does on s (s.playerRefused p) := by
  unfold playerRefused
  split
  case h_4 => exact (s.does_requeueCue p).trans (does_quietPlayer _ p .offline)
  case h_5 => exact s.does_quietPlayer p .offline
  all_goals exact .refl s

theorem does_playerEnded (s : State) (p : Nat) (command : on .command) : Does on s (s.playerEnded p) := by
  unfold playerEnded
  split
  case h_4 => exact s.does_completePlay p command
  case h_5 => exact s.does_quietPlayer p .idle
  all_goals exact .refl s

theorem does_playerLost (s : State) {p : Nat} (hp : on .rough ∨ p < Config.platformEntries) : Does on s (s.playerLost p) :=
  (((s.does_requeueCue p).trans (does_issuePlayer _ .stop hp)).trans (does_quietPlayer _ p .offline)).trans (does_latch _ _)

theorem does_endRest (s : State) (i : Nat) : Does on s (s.endRest i) := by
  refine .of_ready fun r => ?_
  unfold endRest
  split
  · exact .refl s
  · next a live =>
    have back : Does on s (((s.modAnn i fun b => { b with state := .queued, restDl := none }).unlinkAnn a.platform i).linkAnn
      a.platform i) := .of_record (.requeueAnn i a live)
    dsimp only
    split
    · exact back.trans (does_preempt _ (ready_or on r fun h => h.1.placed.anns i a live))
    · exact back

end State

end Sys2Proof.Machine

/-! The gate's operations as work of edits. -/

namespace Sys2Proof.Machine
open Sys2Proof

section
variable {on : Work → Prop}

/-- Identity and place of a train, which the gate does not move. -/
structure Alike (x y : Train) : Prop where
  vehicle  : y.vehicle = x.vehicle
  saved    : y.saved = x.saved
  service  : y.service = x.service
  origin   : y.origin = x.origin
  position : y.position = x.position

theorem Alike.within {x y : Train} (h : Alike x y) {ok : Nat → Prop} (w : x.Within ok) : y.Within ok := by
  unfold Train.Within; rw [h.origin, h.position]; exact w

/-- A change that keeps identity, place and state, and sets no deadline. -/
theorem TrainChange.of_alike {s : State} {x y : Train} (alike : Alike x y) (by_ : on .trains ∨ Recheck s x y)
    (departure : y.state = .dwelling → x.state = .dwelling ∧ y.depDl = x.depDl ∨ y.depDl = none)
    (overdue : y.state = .running → x.state = .running ∧ y.overdueDl = x.overdueDl ∨ y.overdueDl = none)
    (approach : y.state.isRunning = true → x.state.isRunning = true ∧ y.approachDl = x.approachDl ∨ y.approachDl = none)
    (owed : y.owed = x.owed := by rfl) : TrainChange on s x y where
  by_ := by_
  vehicle := alike.vehicle
  saved := alike.saved
  service := by rw [alike.service]; exact id
  places := .inr fun _ _ => alike.within
  departure d hy h := (departure hy).elim (fun k => .inl ⟨k.1, k.2 ▸ h⟩) fun k => by rw [k] at h; cases h
  overdue d hy h := (overdue hy).elim (fun k => .inl ⟨k.1, k.2 ▸ h⟩) fun k => by rw [k] at h; cases h
  approach d hy h := (approach hy).elim (fun k => .inl ⟨k.1, k.2 ▸ h⟩) fun k => by rw [k] at h; cases h
  owed := owed

/-- A train that may ask keeps doing so while its state and its departure time are kept. -/
theorem MayAsk.congr {s t : State} {x y : Train} (h : MayAsk on s x) (time : t.lineTime = s.lineTime) (state : y.state = x.state)
    (depTime : y.depTime = x.depTime) : MayAsk on t y := by
  unfold MayAsk at h ⊢; rwa [time, state, depTime]

end

namespace State

/-! ### What START has checked (R16) -/

theorem Configured.platform {s : State} (h : s.Configured) (hp : s.part = .operating) {p : Nat}
    (hc : p < s.tables.header.platforms) : s.platformGood p = true := startFailure_eq_none.mp (h.checked hp) 1 p hc

theorem Configured.sect {s : State} (h : s.Configured) (hp : s.part = .operating) {i : Nat}
    (hc : i < s.tables.header.sections) : s.sectGood i = true := startFailure_eq_none.mp (h.checked hp) 2 i hc

/-- The supplier of a configured section is one of the substations (R6, R83). -/
theorem supplier_lt {s : State} (r : s.Ready) (h : s.Configured) {i k : Nat} (hi : i < s.tables.header.sections)
    (hk : s.supplier i = some k) : k < Config.substationEntries := by
  have le := (headerGood_iff.mp (r.1.header r.2)).2.2.2
  obtain ⟨primary, fallback, -⟩ := sectGood_iff.mp (h.sect r.2 hi)
  refine Nat.lt_of_lt_of_le ?_ le
  rcases supplier_eq_some.mp hk with ⟨rfl, -⟩ | ⟨hf, -⟩
  · exact primary
  · exact (fallback k hf).1

/-- A train stands at a configured platform, or at none, which counts as the first. -/
theorem Configured.place_lt {s : State} (r : s.Ready) (h : s.Configured) {i : Nat} {x : Train} (hx : s.train? i = some x) :
    placeOf x < s.tables.header.platforms := by
  obtain ⟨-, place⟩ := h.trains i x hx
  unfold placeOf
  cases hp : x.position with
  | none =>
    obtain ⟨least, -⟩ := headerGood_iff.mp (r.1.header r.2)
    exact Nat.lt_of_lt_of_le (by decide) least.1
  | some p => exact of_decide_eq_true (place p hp)

theorem Configured.section_lt {s : State} (r : s.Ready) (h : s.Configured) {i : Nat} {x : Train} (hx : s.train? i = some x) :
    s.runSectionOf x < s.tables.header.sections := (platformGood_iff.mp (h.platform r.2 (h.place_lt r hx))).1

theorem Sound.place_lt {s : State} (h : s.Sound) {i : Nat} {x : Train} (hx : s.train? i = some x) :
    placeOf x < Config.platformEntries := by
  unfold placeOf
  cases hp : x.position with
  | none => decide
  | some p => exact h.placed.positions i x p hx hp

/-! ### The live trains -/

theorem mem_liveTrains {s : State} {e : Nat × Train} : e ∈ s.liveTrains ↔ e.1 ∈ s.pool.trains ∧ s.train? e.1 = some e.2 := by
  unfold liveTrains
  rw [List.mem_filterMap]
  constructor
  · rintro ⟨i, hi, he⟩
    obtain ⟨x, hx, rfl⟩ := Option.map_eq_some_iff.mp he
    exact ⟨hi, hx⟩
  · rintro ⟨hi, hx⟩
    exact ⟨e.1, hi, by rw [hx]; rfl⟩

theorem mem_liveIncidents {s : State} {e : Nat × Incident} :
    e ∈ s.liveIncidents ↔ e.1 ∈ s.pool.incidents ∧ s.incident? e.1 = some e.2 := by
  unfold liveIncidents
  rw [List.mem_filterMap]
  constructor
  · rintro ⟨i, hi, he⟩
    obtain ⟨x, hx, rfl⟩ := Option.map_eq_some_iff.mp he
    exact ⟨hi, hx⟩
  · rintro ⟨hi, hx⟩
    exact ⟨e.1, hi, by rw [hx]; rfl⟩

theorem liveTrains_slots_sublist (s : State) : (s.liveTrains.map Prod.fst).Sublist s.pool.trains := by
  unfold liveTrains
  induction s.pool.trains with
  | nil => exact List.Sublist.refl _
  | cons i l ih =>
    cases hx : s.train? i with
    | none => simpa [hx] using ih.cons i
    | some x => simpa [hx] using ih.cons_cons i

/-- The live trains that pass a test stand in different slots. -/
theorem liveTrains_once {s : State} (h : s.Sound) (test : Nat × Train → Bool) : ((s.liveTrains.filter test).map Prod.fst).Nodup :=
  (h.pooled.trainsOnce.sublist s.liveTrains_slots_sublist).sublist (List.filter_sublist.map _)

/-! ### Trains read after the gate's operations -/

theorem train?_of_pool {s t : State} (h : t.pool = s.pool) (i : Nat) : t.train? i = s.train? i :=
  train?_of_slot (by rw [slot, slot, h])

theorem train?_grant (s : State) (k : Nat) (h : Handle) (w i : Nat) : (s.grant k h w).train? i =
    if h.slot = i then (s.train? i).map fun x => { x with lease := some (k, s.serviceWeight k w), state := .released } else s.train? i :=
  (train?_of_pool (pool_grant s k h w) i).trans (train?_modTrain s h.slot _ i)

theorem train?_queueUp (s : State) (k i w j : Nat) : (s.queueUp k i w).train? j =
    if i = j then (s.train? j).map fun x => { x with state := .waiting } else s.train? j := train?_modTrain _ i _ j

theorem train?_withdrawn (s : State) (i : Nat) (r : HoldSet → HoldSet) (j : Nat) : (s.withdrawn i r).train? j =
    if i = j then (s.train? j).map fun x => { x with state := .held, holds := r x.holds, permitReq := none } else s.train? j :=
  (train?_of_pool (pool_withdrawn s i r) j).trans (train?_modTrain s i _ j)

theorem train?_dropEntries (s : State) (h : Handle) (i : Nat) : (s.dropEntries h).train? i = s.train? i :=
  train?_of_pool (s.pool_dropEntries h) i

/-- A request as it is made: granted at once, or put at the tail of the queue (R107). -/
theorem requestPermit_eq {s : State} {i k : Nat} {x : Train} (hx : s.train? i = some x)
    (hk : s.supplier (s.runSectionOf x) = some k) : s.requestPermit i =
      let w := s.requestWeight (s.runSectionOf x) k
      let t := s.modTrain i fun x => { x with permitReq := some s.lineTime }
      if (s.substation k).queue = [] && s.fits k w then t.grant k (t.handle i) w else t.queueUp k i w := by
  unfold requestPermit queueUp
  simp only [hx, hk, handle_modTrain]
  rfl

theorem requestPermit_none {s : State} {i : Nat} (h : ∀ x, s.train? i = some x → s.supplier (s.runSectionOf x) = none) :
    s.requestPermit i = s := by
  unfold requestPermit
  cases hx : s.train? i with
  | none => rfl
  | some x => simp only [h x hx]

theorem train?_requestPermit_ne (s : State) {i j : Nat} (h : i ≠ j) : (s.requestPermit i).train? j = s.train? j := by
  cases hx : s.train? i with
  | none => rw [requestPermit_none fun x h => by rw [hx] at h; cases h]
  | some x =>
    cases hk : s.supplier (s.runSectionOf x) with
    | none => rw [requestPermit_none fun y h => by rw [hx] at h; cases h; exact hk]
    | some k =>
      rw [requestPermit_eq hx hk]
      dsimp only
      split
      · exact (train?_grant ..).trans ((if_neg h).trans (train?_modTrain_ne _ _ h))
      · exact (train?_queueUp ..).trans ((if_neg h).trans (train?_modTrain_ne _ _ h))

theorem train?_issueForTrain (s : State) (t : Train) (d : Directive) (j : Nat) : (s.issueForTrain t d).train? j = s.train? j := by
  unfold issueForTrain; split <;> rfl

theorem train?_scheduleCheckUnder_ne (held : Nat → Bool) (s : State) {i j : Nat} (h : i ≠ j) :
    (scheduleCheckUnder held s i).train? j = s.train? j := by
  unfold scheduleCheckUnder
  split
  · rfl
  · dsimp only
    split
    · rw [train?_requestPermit_ne _ h, train?_modTrain_ne _ _ h]
    · split
      · rw [train?_issueForTrain, train?_modTrain_ne _ _ h]
      · rw [train?_modTrain_ne _ _ h]

/-- A hold-removal check moves its own train alone (R80). -/
theorem train?_holdRemovalCheck_ne (held : Nat → Bool) (s : State) {i j : Nat} (h : i ≠ j) :
    (holdRemovalCheck held s i).train? j = s.train? j := by
  unfold holdRemovalCheck
  split
  · rfl
  · dsimp only
    split
    · exact train?_scheduleCheckUnder_ne held s h
    · rw [train?_issueForTrain, train?_modTrain_ne _ _ h]

/-! ### Requests, grants and checks as edits -/

variable {on : Work → Prop}

/-- Work train by train, each as it stood before the work on the others. -/
theorem does_foldl_trains {f : State → Nat → State} {P : Nat → Train → Prop}
    (only : ∀ t i j, i ≠ j → (f t i).train? j = t.train? j)
    (hf : ∀ t i, (on .rough ∨ ∃ x, t.train? i = some x ∧ P i x) → Does on t (f t i)) :
    ∀ (l : List Nat) (s : State), (on .rough ∨ l.Nodup ∧ ∀ i ∈ l, ∃ x, s.train? i = some x ∧ P i x) → Does on s (l.foldl f s)
  | [], s, _ => .refl s
  | i :: l, s, h => by
    refine (hf s i (h.imp_right fun h => h.2 i (List.mem_cons_self ..))).trans (does_foldl_trains only hf l (f s i) ?_)
    refine h.imp_right fun ⟨once, here⟩ => ⟨(List.nodup_cons.mp once).2, fun j hj => ?_⟩
    rw [only s i j fun e => (List.nodup_cons.mp once).1 (e ▸ hj)]
    exact here j (List.mem_cons_of_mem _ hj)

theorem does_grantFromHead (serve : on .serve) (k fuel : Nat) (s : State) : Does on s (s.grantFromHead k fuel) := by
  induction fuel generalizing s with
  | zero => exact .refl s
  | succ n ih =>
    unfold grantFromHead
    split
    · exact .refl s
    · next e l hq =>
      split
      · exact .trans (.of_gate (.grantEntry k e serve (hq ▸ List.mem_cons_self ..))) (ih _)
      · exact .refl s

theorem does_requestPermit (s : State) {i : Nat} (h : on .rough ∨ ∃ x, s.train? i = some x ∧ MayAsk on s x) :
    Does on s (s.requestPermit i) := by
  refine .of_ready fun r => ?_
  cases hx : s.train? i with
  | none => rw [requestPermit_none fun x h => by rw [hx] at h; cases h]; exact .refl s
  | some x =>
    cases hk : s.supplier (s.runSectionOf x) with
    | none => rw [requestPermit_none fun y h => by rw [hx] at h; cases h; exact hk]; exact .refl s
    | some k =>
      have ask : on .rough ∨ MayAsk on s x := h.imp_right fun ⟨y, hy, ask⟩ => by cases hx.symm.trans hy; exact ask
      have asked : Does on s (s.modTrain i fun x => { x with permitReq := some s.lineTime }) := by
        refine .of_gate (.train i _ (ask.imp_right fun ask y hy => ?_))
        cases hx.symm.trans hy
        refine ⟨.of_alike ⟨rfl, rfl, rfl, rfl, rfl⟩ (ask.2.imp_right fun held => ?_) (fun e => .inl ⟨e, rfl⟩) (fun e => .inl ⟨e, rfl⟩)
          fun e => .inl ⟨e, rfl⟩, Iff.rfl⟩
        exact ⟨held.2.1, .inl held.2.1, rfl, rfl, rfl, rfl, rfl⟩
      have ask' : on .rough ∨ ∃ y, (s.modTrain i fun x => { x with permitReq := some s.lineTime }).train? i = some y ∧
          MayAsk on (s.modTrain i fun x => { x with permitReq := some s.lineTime }) y :=
        ask.imp_right fun ask => ⟨_, train?_modTrain_of hx _, ask.congr rfl rfl rfl⟩
      rw [requestPermit_eq hx hk]
      dsimp only
      split
      · exact asked.trans (.of_gate (.grantAsked k i _ ask'))
      · refine asked.trans (.of_gate (.enqueue k i _ ask' (r.imp_right fun r c => ?_)))
        have before : s.Configured := by
          refine ⟨c.checked, c.empty, c.patterns, fun j y hy => ?_⟩
          by_cases hj : i = j
          · subst hj; exact (c.trains i _ (train?_modTrain_of hy _) :)
          · exact c.trains j y ((train?_modTrain_ne s _ hj).trans hy)
        exact supplier_lt r before (before.section_lt r hx) hk

theorem does_issueForTrain (s : State) (t : Train) (d : Directive) (place : on .rough ∨ placeOf t < Config.platformEntries) :
    Does on s (s.issueForTrain t d) := by
  unfold issueForTrain
  split
  · exact .refl s
  · exact s.does_issueIndicator d place

theorem does_scheduleCheckUnder (held : Nat → Bool) (s : State) {i : Nat}
    (h : on .rough ∨ ∃ x, s.train? i = some x ∧ MayAsk on s x) : Does on s (scheduleCheckUnder held s i) := by
  refine .of_ready fun r => ?_
  unfold scheduleCheckUnder
  split
  · exact .refl s
  · next x hx =>
    have ask : on .rough ∨ MayAsk on s x := h.imp_right fun ⟨y, hy, ask⟩ => by cases hx.symm.trans hy; exact ask
    dsimp only
    split
    · refine .trans ?_ (does_requestPermit _ (ask.imp_right fun ask => ⟨_, train?_modTrain_of hx _, ask.congr rfl rfl rfl⟩))
      refine .of_gate (.train i _ (ask.imp_right fun ask y hy => ?_))
      cases hx.symm.trans hy
      exact ⟨.of_alike ⟨rfl, rfl, rfl, rfl, rfl⟩ (ask.2.imp_right fun k => ⟨k.2.1, .inl k.2.1, rfl, rfl, rfl, rfl, rfl⟩)
        (fun _ => .inr rfl) (fun e => .inl ⟨e, rfl⟩) fun e => .inl ⟨e, rfl⟩, Iff.rfl⟩
    · have back : Does on s (s.modTrain i fun t => { t with holds := s.gathered held x, depDl := none, state := .held }) := by
        refine .of_gate (.train i _ (ask.imp_right fun ask y hy => ?_))
        cases hx.symm.trans hy
        exact ⟨.of_alike ⟨rfl, rfl, rfl, rfl, rfl⟩ (ask.2.imp_right fun k => ⟨k.2.1, .inl rfl, rfl, rfl, rfl, rfl, rfl⟩)
          (fun e => nomatch e) (fun e => nomatch e) fun e => (nomatch (e : false = true)), ⟨fun e => (nomatch e), fun e => absurd e ask.1⟩⟩
      split
      · exact back.trans (does_issueForTrain _ _ _ (ready_or on r fun r => (r.1.place_lt hx : placeOf x < _)))
      · exact back

/-- The hold-removal check of a HELD train (R80). -/
theorem does_holdRemovalCheck (w : on .withdraw) (held : Nat → Bool) (s : State) {i : Nat}
    (h : on .rough ∨ ∃ x, s.train? i = some x ∧ x.state = .held) : Does on s (holdRemovalCheck held s i) := by
  refine .of_ready fun r => ?_
  unfold holdRemovalCheck
  split
  · exact .refl s
  · next x hx =>
    have isHeld : on .rough ∨ x.state = .held := h.imp_right fun ⟨y, hy, held⟩ => by cases hx.symm.trans hy; exact held
    dsimp only
    split
    · next due =>
      exact does_scheduleCheckUnder held s (isHeld.imp_right fun k => ⟨x, hx, by rw [k]; decide, .inr ⟨w, k, due⟩⟩)
    · next ahead =>
      have fresh : s.departureDeadline (x.depTime.getD s.lineTime) = x.depTime.getD s.lineTime := if_pos (by omega)
      refine .trans ?_ (does_issueForTrain _ _ _ (ready_or on r fun r => r.1.place_lt hx))
      refine .of_gate (.train i _ (isHeld.imp_right fun k y hy => ?_))
      cases hx.symm.trans hy
      refine ⟨⟨.inr ⟨k, .inr rfl, rfl, rfl, rfl, rfl, rfl⟩, rfl, rfl, fun h => h, .inr fun _ _ h => h, fun d _ hd => ?_, fun _ e => (nomatch e),
        fun _ e => (nomatch (e : false = true)), rfl⟩, ⟨fun e => (nomatch e), fun e => (nomatch k.symm.trans e)⟩⟩
      cases hd
      rw [fresh]
      exact .inr (.inl (by omega))

/-- The hold-removal checks of an event take HELD trains, each once (R80). -/
theorem does_checkFreed (w : on .withdraw) (held : Nat → Bool) (before s : State) : Does on s (checkFreed held before s) := by
  refine .of_ready fun r => ?_
  refine does_foldl_trains (P := fun _ x => x.state = .held) (fun t i j => train?_holdRemovalCheck_ne held t)
    (fun t i h => t.does_holdRemovalCheck w held h) _ s (ready_or on r fun r => ⟨liveTrains_once r.1 _, fun i hi => ?_⟩)
  obtain ⟨e, he, rfl⟩ := List.mem_map.mp hi
  obtain ⟨live, freed⟩ := List.mem_filter.mp he
  refine ⟨e.2, (mem_liveTrains.mp live).2, ?_⟩
  simp only [reasonless, Bool.and_eq_true, beq_iff_eq] at freed
  exact freed.1.1

theorem does_dropLease (tr : on .trains) (s : State) (k : Nat) (h : Handle) : Does on s (s.dropLease k h) :=
  .of_gate (.dropLease k h tr)

theorem does_dropLeaseOf (tr : on .trains) (s : State) (i : Nat) : Does on s (s.dropLeaseOf i) := by
  unfold dropLeaseOf
  split
  · split
    · exact s.does_dropLease tr _ _
    · exact .refl s
  · exact .refl s

theorem withdraw_eq {s : State} {i : Nat} {x : Train} (hx : s.train? i = some x) (reason : HoldSet → HoldSet) :
    s.withdraw i reason = (s.withdrawn i reason).issueIndicator (placeOf x) .hold := by
  unfold withdraw; rw [hx]; rfl

theorem does_withdraw (w : on .withdraw) (s : State) (i : Nat) (reason : HoldSet → HoldSet)
    (waits : on .rough ∨ ∃ x, s.train? i = some x ∧ x.state = .waiting) : Does on s (s.withdraw i reason) := by
  refine .of_ready fun r => ?_
  cases hx : s.train? i with
  | none => unfold withdraw; rw [hx]; exact .refl s
  | some x =>
    rw [withdraw_eq hx]
    exact .trans (.of_gate (.withdraw i reason w waits)) (does_issueIndicator _ _ (ready_or on r fun r => r.1.place_lt hx))

theorem train?_issueIndicator (s : State) (p : Nat) (d : Directive) (j : Nat) : (s.issueIndicator p d).train? j = s.train? j := rfl

theorem train?_withdraw_ne (s : State) {i j : Nat} (reason : HoldSet → HoldSet) (h : i ≠ j) :
    (s.withdraw i reason).train? j = s.train? j := by
  cases hx : s.train? i with
  | none => unfold withdraw; rw [hx]
  | some x =>
    rw [withdraw_eq hx, train?_issueIndicator, train?_withdrawn, if_neg h]

/-- The trains that a withdrawal takes are WAITING PERMIT, each taken once (R113). -/
theorem does_withdrawWhere (w : on .withdraw) (s : State) (test : Train → Bool) (reason : HoldSet → HoldSet) :
    Does on s (s.withdrawWhere test reason) := by
  refine .of_ready fun r => ?_
  have work := does_foldl_trains (on := on) (f := fun t i => t.withdraw i reason) (P := fun _ x => x.state = .waiting)
    (fun t i j => t.train?_withdraw_ne reason) (fun t i => t.does_withdraw w i reason)
    ((s.liveTrains.filter fun e => e.2.state == .waiting && test e.2).map Prod.fst) s
    (ready_or on r fun r => ⟨liveTrains_once r.1 _, fun i hi => by
      obtain ⟨e, he, rfl⟩ := List.mem_map.mp hi
      obtain ⟨live, passes⟩ := List.mem_filter.mp he
      simp only [Bool.and_eq_true, beq_iff_eq] at passes
      exact ⟨e.2, (mem_liveTrains.mp live).2, passes.1⟩⟩)
  rw [List.foldl_map] at work
  exact work

/-- A reason taken out of HELD trains (R84, R138). -/
theorem does_takeOutWhere (s : State) (test : Train → Bool) (has : HoldSet → Bool) (out : HoldSet → HoldSet) :
    Does on s (s.takeOutWhere test has out) := by
  refine .of_ready fun r => ?_
  let f : State → Nat → State := fun t i => t.modTrain i fun x => { x with holds := out x.holds }
  have work := does_foldl_trains (on := on) (f := f) (P := fun _ x => x.state = .held) (fun t i j h => train?_modTrain_ne t _ h)
    (fun t i h => .of_gate (.train i _ (h.imp_right fun ⟨x, hx, held⟩ y hy => by
      cases hx.symm.trans hy
      exact ⟨.of_alike ⟨rfl, rfl, rfl, rfl, rfl⟩ (.inr ⟨held, .inl held, rfl, rfl, rfl, rfl, rfl⟩) (fun e => .inl ⟨e, rfl⟩)
        (fun e => .inl ⟨e, rfl⟩) fun e => .inl ⟨e, rfl⟩, Iff.rfl⟩)))
    ((s.liveTrains.filter fun e => e.2.state == .held && has e.2.holds && test e.2).map Prod.fst) s
    (ready_or on r fun r => ⟨liveTrains_once r.1 _, fun i hi => by
      obtain ⟨e, he, rfl⟩ := List.mem_map.mp hi
      obtain ⟨live, passes⟩ := List.mem_filter.mp he
      simp only [Bool.and_eq_true, beq_iff_eq] at passes
      exact ⟨e.2, (mem_liveTrains.mp live).2, passes.1.1⟩⟩)
  rw [List.foldl_map] at work
  exact work

end State

end Sys2Proof.Machine

/-! The Incident Manager's operations, the end of an event and the expiries as work of edits. -/

namespace Sys2Proof.Machine
open Sys2Proof

theorem ackLimit_range {v n : Nat} (h : ackLimit v = some n) : 300 ≤ n ∧ n ≤ 1200 := by
  unfold ackLimit at h
  split at h <;> cases h <;> decide

/-- An escalation deadline that is set lies ahead (R128). -/
theorem escalation_ahead {now v e : Nat} (h : ((ackLimit v).map fun d => later now d) = some e) : 0 < diff now e := by
  cases hv : ackLimit v with
  | none => rw [hv] at h; cases h
  | some n =>
    rw [hv] at h
    cases h
    have := ackLimit_range hv
    exact diff_later_pos (by omega) (by omega)

/-- What a raise does as restrictions begin is work of edits, at once or later. -/
def DoesBegins (on : Work → Prop) (begins : State.Begins) : Prop := ∀ b s, Does on s (begins b s)

namespace State
variable {on : Work → Prop}

/-! ### Incidents -/

theorem does_putOwed (s : State) (k : Kind) (loc : Location) (v : Option Nat)
    (h : Owing on loc v) : Does on s (s.putOwed k loc v) :=
  .of_record (.putOwed k loc v h)

theorem does_owe (serve : on .serve) (withdraw : on .withdraw) (s : State) (k : Kind) (loc : Location) (v : Nat) :
    Does on s (s.owe k loc v) :=
  s.does_putOwed _ _ _ (.inl ⟨rfl, serve, withdraw⟩)

/-- A change of an incident that keeps kind, state, severity and deadline. -/
theorem does_modIncident (s : State) (i : Nat) (f : Incident → Incident)
    (same : ∀ c, (f c).kind = c.kind ∧ (f c).state = c.state ∧ (f c).severity = c.severity ∧ (f c).escDl = c.escDl)
    (copies : ∀ c, on .rough ∨ ∀ p ∈ (f c).owedCopies, p ∈ c.owedCopies ∨ p < Config.platformEntries)
    (location : ∀ c, (f c).location = c.location := by intro; rfl) : Does on s (s.modIncident i f) := by
  refine .of_record (.incident i f fun c _ => ?_)
  obtain ⟨kind, state, severity, escDl⟩ := same c
  exact ⟨(copies c).imp_right fun h old p hp => (h p hp).elim (old p) id, fun e hs he => .inl ⟨state ▸ hs, escDl ▸ he⟩,
    fun _ => .inr ⟨kind, state, severity, escDl⟩, .inr ⟨kind, location c⟩,
    fun active => .inr (.inr (.inr (by rw [Incident.active, state]; exact active)))⟩

/-- The active automatic incident is a live one of its kind. -/
theorem activeAt_eq_some {s : State} {k : Kind} {loc : Location} {i : Nat} {c : Incident} (h : s.activeAt k loc = some (i, c)) :
    s.incident? i = some c ∧ c.active = true ∧ c.kind = k ∧ c.location = some loc ∧ c.kind ≠ .operator := by
  have live := (mem_liveIncidents.mp (List.mem_of_find?_eq_some h)).2
  have passes := List.find?_some h
  simp only [Bool.and_eq_true, beq_iff_eq, Incident.automatic, bne_iff_ne] at passes
  obtain ⟨⟨⟨active, automatic⟩, kind⟩, loc⟩ := passes
  exact ⟨live, active, kind, loc, automatic⟩

theorem does_copyOrOwe (s : State) (i : Nat) {p : Nat} (hp : on .rough ∨ p < Config.platformEntries) : Does on s (s.copyOrOwe i p) := by
  unfold copyOrOwe
  split
  · exact .refl s
  · split
    · exact .refl s
    · split
      · next room =>
        exact s.does_createAnn (Bool.and_eq_true_iff.mp room).2 hp rfl
      · exact s.does_modIncident i _ (fun _ => ⟨rfl, rfl, rfl, rfl⟩) fun c => hp.imp_right fun hp q hq =>
          (mem_insertAscending hq).elim (fun e => .inr (e ▸ hp)) .inl

/-- The platforms of a coverage are configured. -/
theorem copyPlatforms_lt {s : State} (r : s.Ready) {c : Coverage} {loc : Option Location} {p : Nat} (h : p ∈ s.copyPlatforms c loc) :
    p < Config.platformEntries :=
  Nat.lt_of_lt_of_le (List.mem_range.mp (List.mem_filter.mp h).1) r.platforms_le

theorem does_copyStep (s : State) (i : Nat) : Does on s (s.copyStep i) := by
  refine .of_ready fun r => ?_
  unfold copyStep
  split
  · exact .refl s
  · split
    · exact .refl s
    · split
      · exact .refl s
      · refine .trans ?_ (.foldl (f := fun (t : State) p => t.copyOrOwe i p) _
          (fun t p hp => t.does_copyOrOwe i (ready_or on r fun r => copyPlatforms_lt r hp)) _)
        exact s.does_modIncident i _ (fun _ => ⟨rfl, rfl, rfl, rfl⟩) fun _ => .inr fun _ => .inl

theorem does_clearCopies (s : State) (i : Nat) : Does on s (s.clearCopies i) := by
  refine .of_ready fun r => ?_
  unfold clearCopies
  split
  · exact .refl s
  · split
    · exact .refl s
    · next a _ =>
      split
      · exact .refl s
      · refine .foldl (f := fun (t : State) p => if t.copyRoom p then t.createAnn (t.clearCopy i a p) else t) _ (fun t p hp => ?_) s
        split
        · next room =>
          exact t.does_createAnn (Bool.and_eq_true_iff.mp room).2 (ready_or on r fun r => copyPlatforms_lt r hp) rfl
        · exact .refl t

theorem does_takeRestriction (b s : State) (held : Nat → Bool) : Does on s (takeRestriction b s held) := s.does_takeOutWhere _ _ _

theorem does_holdsStop (b s : State) : Does on s (holdsStop b s) := does_takeRestriction b s _

/-- Entry to CLEARED (R134), of an automatic incident or by a request. -/
theorem does_enterCleared (s : State) (i : Nat) (h : on .command ∨ ∀ c, s.incident? i = some c →
    c.kind ≠ .operator ∧ (on .ends ∨ c.kind = .powerDelay)) : Does on s (s.enterCleared i) := by
  unfold enterCleared
  have emptied : ∀ t : State, Does on t (t.modIncident i fun c => { c with owedCopies := [] }) := fun t =>
    t.does_modIncident i _ (fun _ => ⟨rfl, rfl, rfl, rfl⟩) fun _ => .inr fun _ hp => (nomatch hp)
  refine .trans (.trans (.trans (.trans ?_ (does_holdsStop _ _)) (does_retireAnns _ _)) (emptied _)) (does_clearCopies _ i)
  exact .of_record (.incident i _ fun c hc => ⟨.inr fun old => old, fun _ hs => (nomatch hs),
    fun kind => h.imp_right fun h => absurd kind (h c hc).1, .inr ⟨rfl, rfl⟩,
    fun _ => h.elim (fun command => .inr (.inl command)) fun h => (h c hc).2.imp_right fun delay => .inr (.inl delay)⟩)

theorem does_endCause (s : State) (k : Kind) (loc : Location) (h : on .ends ∨ k = .powerDelay ∧ ∃ j, loc = .substation j) :
    Does on s (s.endCause k loc) := by
  have drop : ∀ t, Does on s t → Does on s (if (t.owed k loc).isSome then t.putOwed k loc none else t) := fun t d => by
    split
    · exact d.trans (t.does_putOwed k loc none (.inr ⟨rfl, h.symm.imp_left And.right⟩))
    · exact d
  unfold endCause
  refine drop _ ?_
  split
  · exact .refl s
  · next i c hi =>
    split
    · exact s.does_modIncident i _ (fun _ => ⟨rfl, rfl, rfl, rfl⟩) fun _ => .inr fun _ => .inl
    · refine s.does_enterCleared i (.inr fun d hd => ?_)
      obtain ⟨live, -, kind, -, automatic⟩ := activeAt_eq_some hi
      cases live.symm.trans hd
      exact ⟨automatic, h.imp_right fun delay => kind.trans delay.1⟩

/-! ### Service of the queues -/

section
variable (serve : on .serve)
include serve

theorem does_serveQueue (s : State) (k : Nat) (emptied : Bool) : Does on s (s.serveQueue k emptied) := by
  unfold serveQueue
  dsimp only
  split
  · exact (does_grantFromHead serve k _ s).trans (does_endCause _ _ _ (.inr ⟨rfl, k, rfl⟩))
  · exact does_grantFromHead serve k _ s

theorem does_serveChanged (b s : State) : Does on s (serveChanged b s) :=
  .foldl (f := fun (t : State) k => t.serveQueue k (emptiedSince b s k)) _ (fun t k _ => t.does_serveQueue serve k _) s

theorem does_serveAll (s : State) : Does on s s.serveAll :=
  .foldl (f := fun (t : State) k => t.serveQueue k false) _ (fun t k _ => t.does_serveQueue serve k _) s

theorem does_holdsBegin (withdraw : on .withdraw) (b s : State) : Does on s (holdsBegin b s) :=
  (s.does_withdrawWhere withdraw _ _).trans (does_serveChanged serve s _)

end

theorem does_holdsLater (b s : State) : Does on s (holdsLater b s) := .refl s

/-! ### Raises -/

theorem does_changeSeverity (s : State) (i v : Nat) (live : on .rough ∨ (s.incident? i).isSome = true)
    (h : on (.escalate i) ∨ on .command ∨ ∀ c, s.incident? i = some c → c.kind ≠ .operator) : Does on s (s.changeSeverity i v) :=
  .of_record (.severity i v live h)

section
variable {begins : Begins} (hb : DoesBegins on begins)
include hb

theorem does_createWith (s : State) (c : Incident) (room : s.incidentCount < Config.incidentCap) (copies : c.owedCopies = []) :
    Does on s (s.createWith begins c).1 := by
  unfold createWith
  split
  · exact .refl s
  · next t i h =>
    exact .trans (.trans (.of_record (.newIncident _ t i h room copies fun _ => escalation_ahead)) (hb s _)) (does_copyStep _ i)

theorem does_alarmHold (s : State) (i : Nat) : Does on s (s.alarmHold begins i) := by
  unfold alarmHold
  split
  · exact .refl s
  · split
    · split
      · refine .trans ?_ (hb s _)
        exact s.does_modIncident i _ (fun _ => ⟨rfl, rfl, rfl, rfl⟩) fun _ => .inr fun _ => .inl
      · exact .refl s
    · exact .refl s

theorem does_coalesce (s : State) {i : Nat} {c : Incident} (live : s.incident? i = some c) (automatic : c.kind ≠ .operator) (v : Nat) :
    Does on s (s.coalesce begins i c v) := by
  have counted : Does on s (s.modIncident i fun c => { c with occurrences := min 255 (c.occurrences + 1), causeEnded := false }) :=
    s.does_modIncident i _ (fun _ => ⟨rfl, rfl, rfl, rfl⟩) fun _ => .inr fun _ => .inl
  have now := incident?_modIncident_of live fun c => { c with occurrences := min 255 (c.occurrences + 1), causeEnded := false }
  have risen := fun v => counted.trans (does_changeSeverity _ i v (.inr (by rw [now]; rfl)) (.inr (.inr fun d hd => by
    cases now.symm.trans hd; exact automatic)))
  unfold coalesce
  dsimp only
  split
  · split
    · exact (risen v).trans (does_alarmHold hb _ i)
    · exact ((risen v).trans (does_alarmHold hb _ i)).trans (does_copyStep _ i)
  · exact counted.trans (does_alarmHold hb _ i)

theorem does_raiseWith (serve : on .serve) (withdraw : on .withdraw) (s : State) (k : Kind) (loc : Location) (v : Nat) : Does on s (s.raiseWith begins k loc v) := by
  unfold raiseWith
  split
  · next i c h =>
    obtain ⟨live, -, -, -, automatic⟩ := activeAt_eq_some h
    exact does_coalesce hb s live automatic v
  · split
    · next room =>
      have count := of_decide_eq_true (Bool.and_eq_true_iff.mp (Bool.and_eq_true_iff.mp room).1).2
      exact does_createWith hb s _ count rfl
    · exact does_owe serve withdraw s k loc v

end

theorem does_serveOwedIncident (serve : on .serve) (withdraw : on .withdraw) (ends : on .ends) (s : State) (k : Kind) (loc : Location) : Does on s (s.serveOwedIncident k loc) := by
  unfold serveOwedIncident
  split
  · exact .refl s
  · split
    · exact (s.does_putOwed k loc none (.inr ⟨rfl, .inr ends⟩)).trans (does_raiseWith does_holdsLater serve withdraw _ k loc _)
    · exact .refl s

theorem does_serveOwedCopy (s : State) (i : Nat) {p : Nat} (hp : on .rough ∨ p < Config.platformEntries) :
    Does on s (s.serveOwedCopy i p) := by
  unfold serveOwedCopy
  split
  · exact .refl s
  · split
    · exact .refl s
    · split
      · next room =>
        have taken : Does on s (s.modIncident i fun c => { c with owedCopies := c.owedCopies.erase p }) :=
          s.does_modIncident i _ (fun _ => ⟨rfl, rfl, rfl, rfl⟩) fun _ => .inr fun _ hq => .inl (List.mem_of_mem_erase hq)
        dsimp only
        split
        · exact taken
        · exact taken.trans (does_createAnn _ (Bool.and_eq_true_iff.mp room).2 hp rfl)
      · exact .refl s

theorem does_foldl_owedIncidents (serve : on .serve) (withdraw : on .withdraw) (ends : on .ends) (l : List (Kind × Location)) (s : State) :
    Does on s (l.foldl (fun t e => t.serveOwedIncident e.1 e.2) s) :=
  .foldl (f := fun (t : State) (e : Kind × Location) => t.serveOwedIncident e.1 e.2) l (fun t e _ => does_serveOwedIncident serve withdraw ends t e.1 e.2) s

theorem does_foldl_owedCopies (s : State) : Does on s (s.owedCopyOrder.foldl (fun u e => u.serveOwedCopy e.1 e.2) s) := by
  refine .of_ready fun r => ?_
  refine .foldl (f := fun (u : State) (e : Nat × Nat) => u.serveOwedCopy e.1 e.2) _ (fun t e he => ?_) s
  refine t.does_serveOwedCopy e.1 (ready_or on r fun r => ?_)
  obtain ⟨c, hc, hm⟩ := List.mem_flatMap.mp he
  obtain ⟨p, hp, rfl⟩ := List.mem_map.mp hm
  exact r.1.placed.copies c.1 c.2 (mem_liveIncidents.mp hc).2 p hp

section
variable (serve : on .serve) (withdraw : on .withdraw)
include serve withdraw

theorem does_autoRaise (s : State) (k : Kind) (loc : Location) (v : Nat) : Does on s (s.autoRaise k loc v) :=
  does_raiseWith (does_holdsBegin serve withdraw) serve withdraw s k loc v

variable (ends : on .ends)
include ends

theorem does_serveOwedIncidents (s : State) : Does on s s.serveOwedIncidents :=
  (does_foldl_owedIncidents serve withdraw ends _ s).trans (does_holdsBegin serve withdraw s _)

theorem does_serveOwed (s : State) : Does on s s.serveOwed :=
  (s.does_serveOwedIncidents serve withdraw ends).trans (does_foldl_owedCopies _)

theorem does_endEvent (b s : State) : Does on s (endEvent b s) := by
  unfold endEvent
  refine .trans (.trans (.trans (does_checkFreed withdraw s.held b s) ?_) (does_selections _)) (does_judgeLines _)
  split
  · exact (does_serveOwed serve withdraw ends _).trans (does_checkFreed withdraw _ _ _)
  · exact .refl _

end

end State

end Sys2Proof.Machine

/-! The expiries and the Supply Monitor's operations as work of edits. -/

namespace Sys2Proof.Machine
open Sys2Proof

/-- Work item by item, each after the work on those before it. -/
theorem Does.foldl_after {on : Work → Prop} {α : Type} {f : State → α → State} {s : State} (l : List α)
    (hf : ∀ t, Run on s t → ∀ x ∈ l, Does on t (f t x)) : Does on s (l.foldl f s) := by
  suffices ∀ t, Run on s t → Does on t (l.foldl f t) from this s (Run.refl s)
  induction l with
  | nil => exact fun t _ => .refl t
  | cons x xs ih =>
    intro t r fit
    have one := hf t r x (List.mem_cons_self ..) fit
    exact Does.trans (hf t r x (List.mem_cons_self ..))
      (ih (fun u ru y hy => hf u ru y (List.mem_cons_of_mem _ hy)) _ (r.trans one)) fit

namespace State
variable {on : Work → Prop}

/-! ### Approach announcements -/

theorem Ready.next_lt {s : State} (r : s.Ready) (p : Nat) : s.next p < Config.platformEntries := by
  have header := headerGood_iff.mp (r.1.header r.2)
  exact Nat.lt_of_lt_of_le (Nat.mod_lt _ (Nat.lt_of_lt_of_le (by decide) header.1.1)) header.1.2

section
variable (tr : on .trains)
include tr

/-- A change of a train that keeps identity, place and state, and sets no deadline. -/
theorem does_modTrain (s : State) (i : Nat) (f : Train → Train) (alike : ∀ x, Alike x (f x)) (state : ∀ x, (f x).state = x.state)
    (departure : ∀ x, (f x).depDl = x.depDl ∨ (f x).depDl = none) (overdue : ∀ x, (f x).overdueDl = x.overdueDl ∨ (f x).overdueDl = none)
    (approach : ∀ x, (f x).approachDl = x.approachDl ∨ (f x).approachDl = none) (owed : ∀ x, (f x).owed = x.owed := by intro; rfl) :
    Does on s (s.modTrain i f) :=
  .of_gate (.train i f (.inr fun x _ => ⟨.of_alike (alike x) (.inl tr) (fun h => (departure x).imp_left fun e => ⟨state x ▸ h, e⟩)
    (fun h => (overdue x).imp_left fun e => ⟨state x ▸ h, e⟩) (fun h => (approach x).imp_left fun e => ⟨state x ▸ h, e⟩)
    (owed x), by rw [state]⟩))

theorem does_announceApproach (s : State) (i : Nat) {n : Nat} (hn : on .rough ∨ n < Config.platformEntries) :
    Does on s (s.announceApproach i n) := by
  unfold announceApproach
  split
  · exact .refl s
  · have off : Does on s (s.modTrain i fun t => { t with approachDl := none }) :=
      does_modTrain tr s i _ (fun _ => ⟨rfl, rfl, rfl, rfl, rfl⟩) (fun _ => rfl) (fun _ => .inl rfl) (fun _ => .inl rfl) fun _ => .inr rfl
    have marked : ∀ t : State, Does on t (t.modTrain i fun t => { t with approached := true }) := fun t =>
      does_modTrain tr t i _ (fun _ => ⟨rfl, rfl, rfl, rfl, rfl⟩) (fun _ => rfl) (fun _ => .inl rfl) (fun _ => .inl rfl) fun _ => .inl rfl
    dsimp only
    split
    · next room =>
      refine .trans (.trans off (does_createAnn _ ?_ hn rfl)) (marked _)
      exact (Bool.and_eq_true_iff.mp room).2
    · exact off

theorem does_approachNow (s : State) (i : Nat) : Does on s (s.approachNow i) := by
  refine .of_ready fun r => ?_
  unfold approachNow
  split
  · exact s.does_announceApproach tr i (ready_or on r fun r => r.next_lt _)
  · exact .refl s

end

/-! ### The expiries but for that of an operation -/

theorem trainDue_eq_true {s : State} {due : Reach} {i : Nat} {inState : TrainState → Bool} {dl : Train → Option Nat}
    (h : s.trainDue due i inState dl = true) : ∃ x d, s.train? i = some x ∧ inState x.state = true ∧ dl x = some d ∧ due d = true := by
  unfold trainDue at h
  split at h
  · next x hx =>
    obtain ⟨state, reached⟩ := Bool.and_eq_true_iff.mp h
    cases hd : dl x with
    | none => rw [hd] at reached; cases reached
    | some d => rw [hd] at reached; exact ⟨x, d, hx, state, hd, reached⟩
  · cases h

section
variable (serve : on .serve) (withdraw : on .withdraw) (ends : on .ends)
include serve withdraw ends

theorem does_expire {s e : State} {isDue : Bool} (h : isDue = true → Does on s e) : Does on s (s.expire isDue e) := by
  unfold expire
  split
  · next due => exact (h (Bool.and_eq_true_iff.mp due).2).trans (does_endEvent serve withdraw ends s e)
  · exact .refl s

theorem does_takeWait (due : Reach) (s : State) (k : Nat) (h : Handle) : Does on s (s.takeWait due k h) :=
  does_expire serve withdraw ends fun _ => .trans (.of_gate (.waitGone k h)) (does_autoRaise serve withdraw _ _ _ _)

theorem does_takeEscalation (due : Reach) (s : State) (i : Nat) (h : on (.escalate i)) : Does on s (s.takeEscalation due i) := by
  refine does_expire serve withdraw ends fun isDue => does_changeSeverity s i _ (.inr ?_) (.inl h)
  unfold escalationDue at isDue
  split at isDue
  · next hc => rw [hc]; rfl
  · cases isDue

theorem does_takeRest (due : Reach) (s : State) (i : Nat) : Does on s (s.takeRest due i) :=
  does_expire serve withdraw ends fun _ => s.does_endRest i

theorem does_takeStart (due : Reach) (s : State) (p : Nat) : Does on s (s.takeStart due p) := by
  refine .of_ready fun r => does_expire serve withdraw ends fun isDue => s.does_playerLost (ready_or on r fun r => ?_)
  by_contra beyond
  have none : s.platform p = {} := by
    exact platform_beyond (r.1.sized.2.2.1.symm ▸ Nat.le_of_not_lt beyond)
  simp [playerDue, none] at isDue

theorem does_takeStop (due : Reach) (s : State) (p : Nat) : Does on s (s.takeStop due p) :=
  does_expire serve withdraw ends fun _ => (s.does_quietPlayer p .offline).trans (does_latch _ _)

variable (tr : on .trains)
include tr

theorem does_takeDeparture (due : Reach) (s : State) (i : Nat) : Does on s (s.takeDeparture due i) := by
  refine does_expire serve withdraw ends fun isDue => does_scheduleCheckUnder _ s (.inr ?_)
  obtain ⟨x, -, hx, state, -⟩ := trainDue_eq_true isDue
  have dwelling : x.state = .dwelling := of_decide_eq_true state
  exact ⟨x, hx, by rw [dwelling]; decide, .inl tr⟩

theorem does_takeOverdue (due : Reach) (s : State) (i : Nat) : Does on s (s.takeOverdue due i) := by
  refine does_expire serve withdraw ends fun isDue => .trans (.of_gate (.train i _ (.inr fun y hy => ?_))) (does_autoRaise serve withdraw _ _ _ _)
  obtain ⟨x, -, hx, state, -⟩ := trainDue_eq_true isDue
  cases hx.symm.trans hy
  have running : y.state = .running := of_decide_eq_true state
  exact ⟨.of_alike ⟨rfl, rfl, rfl, rfl, rfl⟩ (.inl tr) (fun h => nomatch h) (fun h => nomatch h)
    fun _ => .inl ⟨by rw [running]; rfl, rfl⟩, ⟨fun h => (nomatch h), fun h => (nomatch running.symm.trans h)⟩⟩

theorem does_takeApproach (due : Reach) (s : State) (i : Nat) : Does on s (s.takeApproach due i) :=
  does_expire serve withdraw ends fun _ => s.does_approachNow tr i

theorem does_takeLease (due : Reach) (s : State) (k : Nat) (h : Handle) : Does on s (s.takeLease due k h) :=
  does_expire serve withdraw ends fun _ => (s.does_dropLease tr k h).trans (does_serveChanged serve s _)

end

/-! ### Sections and substations -/

/-- The parts of a section that an operation ordered for it moves. -/
def orderParts : List SectPart := [.state, .op, .recovery]

/-- The parts of a section that a fault or a recovery moves. -/
def faultParts : List SectPart := .counter :: orderParts

/-- A change of a section in some of its parts that orders no operation. -/
theorem does_modSect (parts : List SectPart) (may : ∀ p ∈ parts, on (.part p)) (s : State) (i : Nat) (f : Sect → Sect)
    (op : ∀ x, (f x).op = x.op ∨ (f x).op = none) (occupants : ∀ x, (f x).occupants = x.occupants := by intro; rfl)
    (rest : ∀ x p, p ∉ parts → p.agree x (f x) := by intro _ p hp; cases p <;> first | rfl | exact absurd (List.mem_of_elem_eq_true rfl) hp) :
    Does on s (s.modSect i f) := by
  refine .of_record (.sect i f (fun x p => ?_) (.inr occupants) fun x _ _ h =>
    .inl ((op x).elim (fun e => e ▸ h) fun e => by rw [e] at h; cases h))
  by_cases hp : p ∈ parts
  · exact .inl (may p hp)
  · exact .inr (rest x p hp)

theorem does_issueOperation (may : on (.part .op)) (s : State) (i : Nat) (op : BreakerOp) :
    Does on s (s.issueOperation i op) := by
  refine .trans ?_ (.of_record (.issue _ _ (.inl may)))
  refine .of_record (.sect i _ (fun x p => ?_) (.inr fun _ => rfl) fun x o d h => .inr ?_)
  · cases p with
    | op => exact .inl may
    | _ => exact .inr rfl
  · cases h
    exact diff_later_pos (by decide) (by decide)

section
variable (may : ∀ p ∈ faultParts, on (.part p))
include may

theorem does_easeFault (s : State) (i : Nat) : Does on s (s.easeFault i) := does_modSect faultParts may s i _ fun _ => .inl rfl

theorem does_breakerPart (breaker : on (.part .breaker)) (s : State) (i : Nat) (pos : Position) : Does on s (s.breakerPart i pos) := by
  have reported : ∀ t : State, Does on t (t.modSect i fun x => { x with breaker := reportedOf pos }) := fun t =>
    does_modSect [.breaker] (fun p hp => List.mem_singleton.mp hp ▸ breaker) t i _ fun _ => .inl rfl
  unfold breakerPart
  dsimp only
  split
  · refine .trans ?_ (reported _)
    exact does_modSect faultParts may s i _ fun _ => .inr rfl
  · exact reported s

theorem does_relapse (s : State) (i : Nat) : Does on s (s.relapse i) :=
  .trans (does_modSect faultParts may s i (fun x => { x with state := .lockedOut, counter := Config.counterMax, recovery := 0 })
    fun _ => .inl rfl) (does_issueOperation (may .op (by decide)) _ i .opening)

theorem does_recoveryPart (s : State) (i : Nat) (cls : SupplyClass) (pos : Position) (trip : Bool) :
    Does on s (s.recoveryPart i cls pos trip) := by
  have counted : Does on s ((s.easeFault i).modSect i fun x => { x with recovery := x.recovery + 1 }) :=
    (does_easeFault may s i).trans (does_modSect faultParts may _ i _ fun _ => .inl rfl)
  unfold recoveryPart
  split
  · exact does_relapse may s i
  · dsimp only
    split
    · split
      · exact counted.trans (does_modSect faultParts may _ i _ fun _ => .inl rfl)
      · exact counted
    · exact does_easeFault may s i

theorem does_abandonOperation (s : State) (i : Nat) : Does on s (s.abandonOperation i) := by
  have gone : Does on s (s.modSect i fun x => { x with op := none }) := does_modSect faultParts may s i _ fun _ => .inr rfl
  unfold abandonOperation
  dsimp only
  split
  · exact gone.trans (does_modSect faultParts may _ i _ fun _ => .inl rfl)
  · exact gone.trans (does_modSect faultParts may _ i _ fun _ => .inl rfl)
  · exact gone.trans (does_relapse may _ i)
  all_goals exact gone

end

theorem does_latchWarning (s : State) (before : Sect) (i : Nat) : Does on s (s.latchWarning before i) := by
  unfold latchWarning
  split
  · exact s.does_latch _
  · exact .refl s

theorem does_followSupplier (supply : on .supply) (before s : State) {i : Nat} (hi : on .rough ∨ i < s.tables.header.sections) :
    Does on s (followSupplier before s i) := by
  refine .of_ready fun r => ?_
  unfold followSupplier
  split
  · next g k _ hk =>
    split
    · exact .refl s
    · next other =>
      refine .of_gate (.moveRequests i g k supply other ?_)
      by_cases rough : on .rough
      · exact .inl rough
      · exact .inr fun c => supplier_lt (r.resolve_left rough) c (hi.resolve_left rough) hk
  · exact .refl s

section
variable (state : on (.part .state)) (recovery : on (.part .recovery))
include state recovery

theorem does_moveSect (s : State) (i : Nat) (x : Option SectState) : Does on s (s.moveSect i x) := by
  unfold moveSect
  split
  · refine does_modSect [.state, .recovery] (fun p hp => ?_) s i _ fun _ => .inl rfl
    rcases List.mem_pair.mp hp with rfl | rfl
    · exact state
    · exact recovery
  · exact .refl s

theorem does_moveSects (up : on .up) (s : State) (k : Nat) (b : Bool) : Does on s (s.moveSects k b) := by
  unfold moveSects
  refine .trans ?_ (.foldl _ (fun t i _ => does_moveSect state recovery t i _) _)
  exact .of_record (.substation k _ (fun _ => ⟨rfl, rfl, rfl⟩) (.inl up) (.inr fun _ => rfl))

end

section
variable (serve : on .serve) (withdraw : on .withdraw) (ends : on .ends)
include serve withdraw ends

omit serve ends in
theorem does_thenIncidents (before s : State) {incidents : State → State} (h : ∀ t, Does on t (incidents t)) :
    Does on s (thenIncidents before s incidents) :=
  ((does_takeRestriction s s _).trans (does_checkFreed withdraw _ before _)).trans (h _)

theorem does_judgeLockout (s : State) (before : Sect) (i : Nat) : Does on s (s.judgeLockout before i) := by
  unfold judgeLockout
  split
  case h_4 =>
    split
    · exact does_autoRaise serve withdraw s _ _ _
    · exact .refl s
  case h_5 => exact does_autoRaise serve withdraw s _ _ _
  all_goals first | exact .refl s | exact s.does_endCause _ _ (.inl ends)

theorem does_judgeLockouts (before s : State) : Does on s (judgeLockouts before s) :=
  .foldl (f := fun (t : State) i => t.judgeLockout (before.sect i) i) _ (fun t i _ => does_judgeLockout serve withdraw ends t _ i) s

variable (supply : on .supply)
include supply

omit ends in
theorem does_supplyWork (before s : State) : Does on s (supplyWork before s) := by
  have follows : ∀ w : State, Steady s w →
      Does on w ((List.range s.tables.header.sections).foldl (fun t i => followSupplier before t i) w) := fun w c =>
    .foldl_after _ fun t r i hi => does_followSupplier supply before t (.inr (by
      rw [r.steady.tables, c.tables]; exact List.mem_range.mp hi))
  unfold supplyWork
  refine .trans (.trans (.trans ?_ (follows _ (s.calm_withdrawWhere _ _).toSteady)) (does_serveChanged serve _ _))
    (does_takeOutWhere _ _ _ _)
  exact does_withdrawWhere withdraw s _ _

section
variable (may : ∀ p ∈ faultParts, on (.part p)) (tr : on .trains)
include may tr

omit serve withdraw ends supply in
theorem does_lockOut (s : State) (i : Nat) : Does on s (s.lockOut i) := by
  unfold lockOut dropLeasesInto
  refine .trans (.trans ?_ (does_issueOperation (may .op (by decide)) _ i .opening)) (.foldl (f := fun (t : State) (e : Nat × Train) =>
    t.dropLeaseOf e.1) _ (fun t e _ => does_dropLeaseOf tr t e.1) _)
  exact does_modSect faultParts may s i _ fun _ => .inl rfl

omit serve withdraw ends supply in
theorem does_addFault (s : State) (i n : Nat) : Does on s (s.addFault i n) := by
  unfold addFault
  dsimp only
  split
  · exact .refl s
  · split
    · exact does_modSect faultParts may s i _ fun _ => .inl rfl
    · exact does_lockOut may tr s i

omit serve withdraw ends supply in
theorem does_classPart (s : State) (i : Nat) (cls : SupplyClass) (pos : Position) : Does on s (s.classPart i cls pos) := by
  unfold classPart
  split
  · exact .refl s
  · split
    · exact does_easeFault may s i
    · exact does_addFault may tr s i 1
    · split
      · exact does_addFault may tr s i 1
      · exact .refl s

/-- What a report makes of the section itself. -/
theorem does_takeFeeder (breaker : on (.part .breaker)) (s : State) (i : Nat) (cls : SupplyClass) (pos : Position) : Does on s (s.takeFeeder i cls pos) := by
  unfold takeFeeder
  refine .trans (.trans (.trans ?_ (does_supplyWork serve withdraw supply s _)) (does_thenIncidents withdraw s _ fun t => ?_))
    (does_latchWarning _ _ i)
  · split
    · exact (does_breakerPart may breaker s i pos).trans (does_recoveryPart may _ i cls pos _)
    · refine .trans ?_ (does_classPart may tr _ i cls pos)
      split
      · exact (does_breakerPart may breaker s i pos).trans (does_addFault may tr _ i 8)
      · exact does_breakerPart may breaker s i pos
  · refine .trans ?_ (does_judgeLockout serve withdraw ends _ _ i)
    split
    · exact t.does_endCause _ _ (.inl ends)
    · exact .refl t

theorem does_expireOperation (s : State) (i : Nat) : Does on s (s.expireOperation i) := by
  unfold expireOperation
  refine .trans (.trans (.trans ?_ (does_supplyWork serve withdraw supply s _)) (does_thenIncidents withdraw s _ fun t => ?_))
    (does_latchWarning _ _ i)
  · exact (does_abandonOperation may s i).trans (does_addFault may tr _ i 8)
  · exact (does_judgeLockout serve withdraw ends t _ i).trans (does_autoRaise serve withdraw _ _ _ _)

theorem does_takeOperation (due : Reach) (s : State) (i : Nat) : Does on s (s.takeOperation due i) :=
  does_expire serve withdraw ends fun _ => does_expireOperation serve withdraw ends supply may tr s i

end

theorem does_isolateSect (may : ∀ p ∈ orderParts, on (.part p)) (s : State) (i : Nat) : Does on s (s.isolateSect i) := by
  unfold isolateSect
  refine .trans (.trans (.trans ?_ (does_issueOperation (may .op (by decide)) _ i .opening)) (does_supplyWork serve withdraw supply s _))
    (does_thenIncidents withdraw s _ fun t => does_judgeLockout serve withdraw ends t _ i)
  exact does_modSect orderParts may s i _ fun _ => .inl rfl

theorem does_takeSubstation (state : on (.part .state)) (recovery : on (.part .recovery)) (up : on .up) (s : State) (k : Nat) (b : Bool) :
    Does on s (s.takeSubstation k b) := by
  unfold takeSubstation
  split
  · exact .refl s
  · refine .trans (.trans (does_moveSects state recovery up s k b) (does_supplyWork serve withdraw supply s _))
      (does_thenIncidents withdraw s _ fun t => ?_)
    dsimp only
    split
    · exact (does_judgeLockouts serve withdraw ends s t).trans (does_endCause _ _ _ (.inl ends))
    · exact (does_judgeLockouts serve withdraw ends s t).trans (does_autoRaise serve withdraw _ _ _ _)

end

section
variable (may : ∀ p ∈ orderParts, on (.part p))
include may

theorem does_energiseSect (s : State) (i : Nat) : Does on s (s.energiseSect i) :=
  .trans (does_modSect orderParts may s i (fun x => { x with state := .energising }) fun _ => .inl rfl)
    (does_issueOperation (may .op (by decide)) _ i .closing)

theorem does_restoreSect (s : State) (i : Nat) : Does on s (s.restoreSect i) :=
  .trans (does_modSect orderParts may s i (fun x => { x with state := .recovering, recovery := 0 }) fun _ => .inl rfl)
    (does_issueOperation (may .op (by decide)) _ i .closing)

end

theorem does_setWarning (warning : on (.part .warning)) (s : State) (i n : Nat) : Does on s (s.setWarning i n) :=
  .trans (does_modSect [.warning] (fun p hp => List.mem_singleton.mp hp ▸ warning) s i (fun x => { x with warning := n }) fun _ => .inl rfl)
    (does_latchWarning _ _ i)

end State

end Sys2Proof.Machine

/-! What the edits make of the trains and of the wait queues, read one by one. -/

namespace Sys2Proof.Machine
open Sys2Proof

namespace State
variable {on : Work → Prop}

/-! ### Trains under edits of the other records -/

/-- An edit of the records leaves a train and its handle, but where it writes into the owed set of the train. -/
theorem train_recordEdit_cases {s t : State} (e : RecordEdit on s t) (r : s.Ready) {i : Nat} {x : Train} (hx : s.train? i = some x) :
    t.handle i = s.handle i ∧ (t.train? i = some x ∨
      ∃ (k : Kind) (v : Option Nat), Owing on (.train (s.handle i)) v ∧ t.train? i = some { x with owed := x.owed.put k.owedSecond v }) := by
  have same : ∀ {u : State}, u.slot i = s.slot i → u.handle i = s.handle i ∧ (u.train? i = some x ∨
      ∃ (k : Kind) (v : Option Nat), Owing on (.train (s.handle i)) v ∧ u.train? i = some { x with owed := x.owed.put k.owedSecond v }) :=
    fun h => ⟨handle_of_slot h, .inl ((train?_of_slot h).trans hx)⟩
  have live : (s.slot i).record ≠ .free := fun hf => by rw [train?_of_free hf] at hx; cases hx
  have alloc : ∀ {u : State} {c : Rec} {j : Nat}, s.allocate c = some (u, j) → u.slot i = s.slot i := fun {u c j} a => by
    obtain ⟨-, free⟩ := allocate_free a r.1
    exact allocate_slot_ne a fun hj => live (hj ▸ free)
  cases e with
  | attention | issue | player | ring | sect | substation => exact same rfl
  | putOwed k loc v may =>
    unfold putOwed
    split
    · exact same rfl
    · exact same rfl
    · exact same rfl
    · next h =>
      split
      · next current =>
        refine ⟨handle_modTrain .., ?_⟩
        by_cases hi : h.slot = i
        · subst hi
          exact .inr ⟨k, v, current.symm ▸ may, train?_modTrain_of hx _⟩
        · exact .inl ((train?_modTrain_ne s _ hi).trans hx)
      · exact same rfl
  | incident j f => exact ⟨handle_modIncident .., .inl ((train?_modIncident ..).trans hx)⟩
  | severity j v =>
    refine ⟨(handle_modIncident ..).trans (handle_modIncident ..), .inl ?_⟩
    exact (train?_modIncident ..).trans ((train?_modIncident ..).trans hx)
  | newIncident c t j a => exact same (show t.slot i = _ from alloc a)
  | dropIncident j _ gone =>
    have ne : j ≠ i := fun h => by rw [h, incident?_of_train hx] at gone; cases gone
    exact same ((slot_release _ j i).trans (if_neg ne))
  | ann j f => exact ⟨handle_modAnn .., .inl ((train?_modAnn ..).trans hx)⟩
  | newAnn b t j a => exact same (show t.slot i = _ from alloc a)
  | dropAnn j a gone =>
    have ne : j ≠ i := fun h => by rw [h, ann?_of_train hx] at gone; cases gone
    exact same ((slot_release _ j i).trans (if_neg ne))
  | requeueAnn j a => exact ⟨handle_modAnn .., .inl ((train?_modAnn ..).trans hx)⟩

/-- An edit of the records moves of a train its owed set at most, and keeps its handle. -/
theorem train_recordEdit {s t : State} (e : RecordEdit on s t) (r : s.Ready) {i : Nat} {x : Train} (hx : s.train? i = some x) :
    t.handle i = s.handle i ∧ ∃ o, t.train? i = some { x with owed := o } := by
  obtain ⟨handle, train | ⟨k, v, -, train⟩⟩ := train_recordEdit_cases e r hx
  · exact ⟨handle, x.owed, train⟩
  · exact ⟨handle, _, train⟩

/-! ### Wait queues and leases -/

theorem queue_recordEdit {s t : State} (e : RecordEdit on s t) (k : Nat) : (t.substation k).queue = (s.substation k).queue ∧
    (t.substation k).leases = (s.substation k).leases := by
  have alloc : ∀ {u : State} {c : Rec} {j : Nat}, s.allocate c = some (u, j) → u.substation k = s.substation k := fun a => by
    rw [substation, substation, (allocate_rest a).2.2.1]
  cases e with
  | putOwed kind loc v =>
    unfold putOwed
    split
    · exact ⟨rfl, rfl⟩
    · exact ⟨rfl, rfl⟩
    · exact ⟨substation_modSubstation_part Substation.queue s _ (by intro; rfl) k,
        substation_modSubstation_part Substation.leases s _ (by intro; rfl) k⟩
    · split <;> exact ⟨rfl, rfl⟩
  | substation j f kept =>
    exact ⟨substation_modSubstation_part Substation.queue s j (fun b => (kept b).2.1) k,
      substation_modSubstation_part Substation.leases s j (fun b => (kept b).1) k⟩
  | newIncident c t j a =>
    have same : t.substation k = s.substation k := alloc a
    exact ⟨congrArg Substation.queue same, congrArg Substation.leases same⟩
  | newAnn b t j a =>
    have same : t.substation k = s.substation k := alloc a
    exact ⟨congrArg Substation.queue same, congrArg Substation.leases same⟩
  | _ => exact ⟨rfl, rfl⟩

/-- A part of a substation that an update of one substation maps by `g`, the empty record included. -/
theorem part_modSubstation {β : Type} (part : Substation → β) (g : β → β) (s : State) (k : Nat) {f : Substation → Substation}
    (h : ∀ b, part (f b) = g (part b)) (empty : g (part {}) = part {}) (j : Nat) :
    part ((s.modSubstation k f).substation j) = if k = j then g (part (s.substation j)) else part (s.substation j) := by
  rw [substation_modSubstation]
  by_cases hj : k = j
  · by_cases bound : j < s.substations.length
    · rw [if_pos ⟨hj, bound⟩, if_pos hj, h]
    · have none : s.substation j = {} := by
        exact substation_beyond (Nat.le_of_not_lt bound)
      rw [if_neg fun both => bound both.2, if_pos hj, none, empty]
  · rw [if_neg fun both => hj both.1, if_neg hj]

theorem queue_dropEntry (s : State) (k : Nat) (h : Handle) (j : Nat) : ((s.dropEntry k h).substation j).queue =
    if k = j then (s.substation j).queue.filter (fun e => e.train != h) else (s.substation j).queue :=
  part_modSubstation Substation.queue (List.filter fun e => e.train != h) s k (fun _ => rfl) rfl j

theorem queue_grant (s : State) (k : Nat) (h : Handle) (w j : Nat) : ((s.grant k h w).substation j).queue =
    if k = j then (s.substation j).queue.filter (fun e => e.train != h) else (s.substation j).queue := by
  rw [← queue_dropEntry]
  unfold grant
  dsimp only
  split
  · rfl
  · exact substation_modSubstation_part Substation.queue _ k (by intro; rfl) j

theorem queue_dropEntries (s : State) (hs : s.Sized) (h : Handle) (j : Nat) :
    ((s.dropEntries h).substation j).queue = (s.substation j).queue.filter (fun e => e.train != h) := by
  have one : ∀ (t : State) (k : Nat), ((if (t.substation k).queue.any (fun e => e.train == h) then t.dropEntry k h else t :
      State).substation j).queue =
      if k = j then (t.substation j).queue.filter (fun e => e.train != h) else (t.substation j).queue := fun t k => by
    split
    · exact queue_dropEntry t k h j
    · next absent =>
      split
      · next hk =>
        refine (List.filter_eq_self.mpr fun e he => ?_).symm
        by_contra same
        exact absent (List.any_eq_true.mpr ⟨e, hk ▸ he, by simpa using same⟩)
      · rfl
  have fold : ∀ (l : List Nat) (t : State), ((l.foldl (fun t k =>
      if (t.substation k).queue.any (fun e => e.train == h) then t.dropEntry k h else t) t).substation j).queue =
      if j ∈ l then (t.substation j).queue.filter (fun e => e.train != h) else (t.substation j).queue := by
    intro l
    induction l with
    | nil => exact fun _ => rfl
    | cons k l ih =>
      intro t
      rw [List.foldl_cons, ih, one]
      by_cases hj : k = j
      · subst hj; simp [List.filter_filter]
      · simp [hj, Ne.symm hj]
  unfold dropEntries
  rw [fold]
  split
  · rfl
  · next beyond =>
    have none : s.substation j = {} := by
      refine substation_beyond ?_
      rw [hs.2.2.2.2.1]; exact Nat.le_of_not_lt fun lt => beyond (List.mem_range.mpr lt)
    rw [none]; rfl

theorem queue_withdrawn (s : State) (hs : s.Sized) (i : Nat) (reason : HoldSet → HoldSet) (k : Nat) :
    ((s.withdrawn i reason).substation k).queue = (s.substation k).queue.filter (fun e => e.train != s.handle i) := by
  have same : (s.withdrawn i reason).substation k = (s.dropEntries (s.handle i)).substation k := by
    simp only [substation, withdrawn, modTrain_substations]
  rw [same]
  exact queue_dropEntries s hs (s.handle i) k

theorem queue_queueUp (s : State) (hs : s.Sized) (k i w j : Nat) : ((s.queueUp k i w).substation j).queue =
    if k = j ∧ j < Config.substationEntries then
      (s.substation j).queue ++ [⟨s.handle i, w, s.lineTime, some (later s.lineTime s.line.waitLimit)⟩]
    else (s.substation j).queue := by
  show ((s.modSubstation k _).substation j).queue = _
  rw [substation_modSubstation, hs.2.2.2.2.1]
  split <;> rfl

theorem queue_waitGone (s : State) (k : Nat) (h : Handle) (j : Nat) : ((s.waitGone k h).substation j).queue =
    if k = j then (s.substation j).queue.map (fun e => if e.train = h then { e with waitDl := none } else e)
    else (s.substation j).queue :=
  part_modSubstation Substation.queue (List.map fun e => if e.train = h then { e with waitDl := none } else e) s k (fun _ => rfl) rfl j

theorem queue_dropLease (s : State) (k : Nat) (h : Handle) (j : Nat) :
    ((s.dropLease k h).substation j).queue = (s.substation j).queue := by
  unfold dropLease
  dsimp only
  split <;> exact substation_modSubstation_part Substation.queue s k (by intro; rfl) j

end State

/-- A merge of two queues holds the entries of both (R115). -/
theorem mergeEntries_perm (now fuel : Nat) (moved there : List Entry) (enough : moved.length + there.length ≤ fuel) :
    (mergeEntries now fuel moved there).Perm (moved ++ there) := by
  induction fuel generalizing moved there with
  | zero =>
    have hm : moved = [] := List.length_eq_zero_iff.mp (by omega)
    have ht : there = [] := List.length_eq_zero_iff.mp (by omega)
    subst hm ht; exact .refl _
  | succ n ih =>
    cases moved with
    | nil => exact .refl _
    | cons m ms =>
      cases there with
      | nil => rw [List.append_nil]; exact .refl _
      | cons t ts =>
        simp only [List.length_cons] at enough
        unfold mergeEntries
        split
        · exact (ih ms (t :: ts) (by simp only [List.length_cons]; omega)).cons m
        · exact ((ih (m :: ms) ts (by simp only [List.length_cons]; omega)).cons t).trans List.perm_middle.symm

namespace State

/-- The entries of a queue that are those of section `i` (R115). -/
def goes (s : State) (i : Nat) (e : Entry) : Bool :=
  match s.train? e.train.slot with
  | some t => s.runSectionOf t == i
  | none => false

def movedFrom (s : State) (i g : Nat) : List Entry := (s.substation g).queue.filter (s.goes i)

/-- What the move of the requests of a section leaves and brings (R115). -/
theorem queue_moveRequests (s : State) (hs : s.Sized) (i : Nat) {g r : Nat} (other : g ≠ r) (j : Nat) :
    if j = g then ((s.moveRequests i g r).substation j).queue = (s.substation j).queue.filter (fun e => !s.goes i e)
    else if j = r ∧ j < Config.substationEntries then
      ((s.moveRequests i g r).substation j).queue.Perm (s.movedFrom i g ++ (s.substation j).queue)
    else ((s.moveRequests i g r).substation j).queue = (s.substation j).queue := by
  have first : ∀ j, ((s.modSubstation g fun b => { b with queue := b.queue.filter fun e => !s.goes i e }).substation j).queue =
      if g = j then (s.substation j).queue.filter (fun e => !s.goes i e) else (s.substation j).queue := fun j =>
    part_modSubstation Substation.queue (List.filter fun e => !s.goes i e) s g (fun _ => rfl) rfl j
  have whole : s.moveRequests i g r = (s.modSubstation g fun b => { b with queue := b.queue.filter fun e => !s.goes i e }).modSubstation r
      fun b => { b with queue := mergeEntries s.lineTime ((s.movedFrom i g).length + b.queue.length) (s.movedFrom i g) b.queue } := rfl
  rw [whole, substation_modSubstation]
  by_cases hg : j = g
  · subst hg
    rw [if_pos rfl, if_neg fun both => other both.1.symm, first, if_pos rfl]
  · rw [if_neg hg]
    have length : (s.modSubstation g fun b => { b with queue := b.queue.filter fun e => !s.goes i e }).substations.length =
        Config.substationEntries := by simpa using hs.2.2.2.2.1
    by_cases hr : j = r ∧ j < Config.substationEntries
    · rw [if_pos hr, if_pos ⟨hr.1.symm, length ▸ hr.2⟩]
      show (mergeEntries _ _ _ ((State.substation _ j).queue)).Perm _
      rw [first, if_neg (Ne.symm hg)]
      exact mergeEntries_perm _ _ _ _ (Nat.le_refl _)
    · rw [if_neg hr, if_neg fun both => hr ⟨both.1.symm, length ▸ both.2⟩, first, if_neg (Ne.symm hg)]

end State

end Sys2Proof.Machine

/-! What a run keeps of the trains: handles, identities, places, marks; so the configuration, the vehicle identities and the save area. -/

namespace Sys2Proof.Machine
open Sys2Proof

/-- What no edit takes from a train: its vehicle identity and its mark, a service number in its range, and places within the ring. -/
structure Kin (s : State) (x y : Train) : Prop where
  vehicle : y.vehicle = x.vehicle
  saved   : y.saved = x.saved
  service : 1 ≤ x.service ∧ x.service ≤ 9999 → 1 ≤ y.service ∧ y.service ≤ 9999
  places  : ∀ ok : Nat → Prop, (∀ p, s.platformOk p = true → ok p) → x.Within ok → y.Within ok

theorem Kin.refl (s : State) (x : Train) : Kin s x x := ⟨rfl, rfl, id, fun _ _ => id⟩

theorem Kin.of_alike {x y : Train} (s : State) (h : Alike x y) : Kin s x y :=
  ⟨h.vehicle, h.saved, by rw [h.service]; exact id, fun _ _ => h.within⟩

theorem Kin.trans {s t : State} {x y z : Train} (tables : t.tables = s.tables) (a : Kin s x y) (b : Kin t y z) : Kin s x z where
  vehicle := b.vehicle.trans a.vehicle
  saved := b.saved.trans a.saved
  service := b.service ∘ a.service
  places ok h w := b.places ok (fun p hp => h p (by rwa [State.platformOk, ← tables, ← State.platformOk])) (a.places ok h w)

namespace State
variable {on : Work → Prop}

theorem handle_of_pool {s t : State} (h : t.pool = s.pool) (i : Nat) : t.handle i = s.handle i :=
  handle_of_slot (by rw [slot, slot, h])

/-- START's check reads the tables alone (R16). -/
theorem startFailure_congr {s t : State} (h : t.tables = s.tables) : t.startFailure = s.startFailure := by
  have reads : ∀ u : State, u.startFailure = (State.reset.setTables u.tables).startFailure := fun _ => rfl
  rw [reads t, reads s, h]

/-- A train under an update of one train. -/
theorem train_of_modTrain {s t : State} {j : Nat} {f : Train → Train} (pool : t.pool = (s.modTrain j f).pool) {i : Nat} {x : Train}
    (hx : s.train? i = some x) : t.handle i = s.handle i ∧ t.train? i = some (if j = i then f x else x) := by
  refine ⟨(handle_of_pool pool i).trans (handle_modTrain ..), (train?_of_pool pool i).trans ?_⟩
  rw [train?_modTrain, hx]
  split <;> rfl

theorem kin_gateEdit {s t : State} (e : GateEdit on s t) (smooth : ¬ on .rough) {i : Nat} {x : Train} (hx : s.train? i = some x) :
    t.handle i = s.handle i ∧ ∃ y, t.train? i = some y ∧ Kin s x y := by
  have same : t.pool = s.pool → t.handle i = s.handle i ∧ ∃ y, t.train? i = some y ∧ Kin s x y := fun h =>
    ⟨handle_of_pool h i, x, (train?_of_pool h i).trans hx, .refl s x⟩
  have mod : ∀ (j : Nat) (f : Train → Train), t.pool = (s.modTrain j f).pool → (j = i → Kin s x (f x)) →
      t.handle i = s.handle i ∧ ∃ y, t.train? i = some y ∧ Kin s x y := fun j f pool kin => by
    obtain ⟨handle, train⟩ := train_of_modTrain pool hx
    refine ⟨handle, _, train, ?_⟩
    split
    · next h => exact kin h
    · exact .refl s x
  have change : ∀ {y : Train}, TrainChange on s x y → Kin s x y := fun c =>
    ⟨c.vehicle, c.saved, c.service, c.places.resolve_left smooth⟩
  cases e with
  | train j f all => exact mod j f rfl fun h => by subst h; exact change (all.resolve_left smooth x hx).1
  | leave j f _ all => exact mod j f rfl fun h => by subst h; exact change (all.resolve_left smooth x hx).1
  | grantEntry | grantAsked => exact mod _ _ (pool_grant ..) fun _ => .of_alike s ⟨rfl, rfl, rfl, rfl, rfl⟩
  | enqueue j k w => exact mod k (fun x => { x with state := .waiting }) rfl fun _ => .of_alike s ⟨rfl, rfl, rfl, rfl, rfl⟩
  | withdraw j reason => exact mod j _ (s.pool_withdrawn j reason) fun _ => .of_alike s ⟨rfl, rfl, rfl, rfl, rfl⟩
  | dropEntries h => exact same (s.pool_dropEntries h)
  | dropLease k h =>
    cases hc : s.current h with
    | true =>
      exact mod h.slot (fun x => { x with lease := none }) (by rw [pool_dropLease, if_pos hc]) fun _ => .of_alike s ⟨rfl, rfl, rfl, rfl, rfl⟩
    | false => exact same (by rw [pool_dropLease, if_neg (by simp [hc])])
  | waitGone | moveRequests => exact same rfl

theorem kin_edit {s t : State} (e : Edit on s t) (smooth : ¬ on .rough) (r : s.Ready) {i : Nat} {x : Train} (hx : s.train? i = some x) :
    t.handle i = s.handle i ∧ ∃ y, t.train? i = some y ∧ Kin s x y := by
  cases e with
  | record e =>
    obtain ⟨handle, o, train⟩ := train_recordEdit e r hx
    exact ⟨handle, _, train, .of_alike s ⟨rfl, rfl, rfl, rfl, rfl⟩⟩
  | gate e => exact kin_gateEdit e smooth hx

end State

namespace Run
variable {on : Work → Prop} {s t : State}

/-- What holds of a ready part and is kept by the edits of a ready part holds at the end of a run. -/
theorem keeps_ready {P : State → Prop} (smooth : ¬ on .rough) (step : ∀ u v, Edit on u v → u.Ready → P u → P v) (r : Run on s t)
    (ready : s.Ready) (h : P s) : P t :=
  (r.keeps (P := fun u => u.Ready ∧ P u) (fun u v e k => ⟨e.ready smooth k.1, step u v e k.1 k.2⟩) ⟨ready, h⟩).2

/-- Every train that was live is live with its handle. -/
theorem kin (r : Run on s t) (smooth : ¬ on .rough) (ready : s.Ready) {i : Nat} {x : Train} (hx : s.train? i = some x) :
    t.handle i = s.handle i ∧ ∃ y, t.train? i = some y ∧ Kin s x y := by
  refine (r.keeps (P := fun u => u.Ready ∧ u.tables = s.tables ∧ u.handle i = s.handle i ∧ ∃ y, u.train? i = some y ∧ Kin s x y)
    (fun u v e ⟨ru, tables, handle, y, hy, kin⟩ => ?_) ⟨ready, rfl, rfl, x, hx, .refl s x⟩).2.2
  obtain ⟨handle', z, hz, kin'⟩ := State.kin_edit e smooth ru hy
  exact ⟨e.ready smooth ru, (State.steady_edit e).tables.trans tables, handle'.trans handle, z, hz, kin.trans tables kin'⟩

/-- No train comes to life in a run. -/
theorem was_live (r : Run on s t) (smooth : ¬ on .rough) (ready : s.Ready) {i : Nat} {y : Train} (hy : t.train? i = some y) :
    ∃ x, s.train? i = some x ∧ t.handle i = s.handle i ∧ Kin s x y := by
  have listed : i ∈ t.pool.trains := ((r.ready smooth ready).1.pooled.trains i).mpr (by rw [hy]; rfl)
  rw [r.trains] at listed
  obtain ⟨x, hx⟩ := Option.isSome_iff_exists.mp ((ready.1.pooled.trains i).mp listed)
  obtain ⟨handle, z, hz, kin⟩ := r.kin smooth ready hx
  cases hy.symm.trans hz
  exact ⟨x, hx, handle, kin⟩

theorem configured (r : Run on s t) (smooth : ¬ on .rough) (ready : s.Ready) (h : s.Configured) : t.Configured where
  checked ht := by
    rw [State.startFailure_congr r.steady.tables]
    exact h.checked (r.steady.part ▸ ht)
  empty ht := by
    have := r.steady.part.symm.trans ht
    rw [ready.2] at this; cases this
  patterns := by rw [r.control]; exact h.patterns
  trains i y hy := by
    obtain ⟨x, hx, -, kin⟩ := r.was_live smooth ready hy
    have ok : ∀ p, t.platformOk p = s.platformOk p := fun p => by rw [State.platformOk, State.platformOk, r.steady.tables]
    simp only [ok]
    exact kin.places (fun p => s.platformOk p = true) (fun _ => id) (h.trains i x hx)

theorem vehiclesOnce (r : Run on s t) (smooth : ¬ on .rough) (ready : s.Ready) (h : s.VehiclesOnce) : t.VehiclesOnce := by
  intro i j x y hx hy same
  obtain ⟨x₀, hx₀, -, kx⟩ := r.was_live smooth ready hx
  obtain ⟨y₀, hy₀, -, ky⟩ := r.was_live smooth ready hy
  exact h i j x₀ y₀ hx₀ hy₀ (by rw [← kx.vehicle, ← ky.vehicle, same])

theorem savesOk (r : Run on s t) (smooth : ¬ on .rough) (ready : s.Ready) (h : s.SavesOk) : t.SavesOk where
  live e he := by
    obtain ⟨handle, x, hx, saved⟩ := h.live e (r.control ▸ he)
    obtain ⟨handle', y, hy, kin⟩ := r.kin smooth ready hx
    exact ⟨handle'.trans handle, y, hy, kin.saved.trans saved⟩
  marked i y hy saved := by
    obtain ⟨x, hx, handle, kin⟩ := r.was_live smooth ready hy
    rw [r.control, handle]
    exact h.marked i x hx (kin.saved ▸ saved)
  once := by rw [r.control]; exact h.once
  order := by rw [r.control, r.trains]; exact h.order
  clear := by rw [r.control]; exact h.clear
  values := by rw [r.control]; exact h.values
  services i y hy := by
    obtain ⟨x, hx, -, kin⟩ := r.was_live smooth ready hy
    exact kin.service (h.services i x hx)

end Run

namespace State
variable {on : Work → Prop}

/-! ### The caps (R28) -/

theorem length_relinkIncident {s : State} {i : Nat} (live : i ∈ s.pool.incidents) (lower : Nat → Bool) :
    (insertBefore lower i (s.pool.incidents.erase i)).length = s.pool.incidents.length := by
  rw [length_insertBefore, List.length_erase_of_mem live]
  have := List.length_pos_of_mem live
  omega

theorem capsOk_recordEdit {s t : State} (e : RecordEdit on s t) (smooth : ¬ on .rough) (r : s.Ready) (h : s.CapsOk) : t.CapsOk := by
  have lists : t.pool.trains = s.pool.trains → t.pool.incidents = s.pool.incidents → t.pool.queues = s.pool.queues → t.CapsOk :=
    fun ht hi hq => ⟨by rw [trainCount, ht]; exact h.trains, by rw [incidentCount, hi]; exact h.incidents,
      fun p => by rw [queue, hq]; exact h.queues p⟩
  have trains := trains_edit (.record e)
  have counts : ∀ {u : State}, u.pool.trains = s.pool.trains → u.incidentCount ≤ Config.incidentCap →
      (∀ p, (u.queue p).length ≤ Config.queueCap) → u.CapsOk := fun ht hi hq => ⟨by rw [trainCount, ht]; exact h.trains, hi, hq⟩
  cases e with
  | putOwed k loc v =>
    unfold putOwed
    split
    · exact counts rfl h.incidents h.queues
    · exact counts rfl h.incidents h.queues
    · exact counts rfl h.incidents h.queues
    · split
      · exact counts rfl h.incidents h.queues
      · exact h
  | severity i v live =>
    refine counts trains ?_ h.queues
    have same := length_relinkIncident ((r.1.pooled.incidents i).mpr (live.resolve_left smooth)) fun j =>
      decide (((s.unlinkIncident i).modIncident i fun c => { c with severity := v }).severityAt j <
        ((s.unlinkIncident i).modIncident i fun c => { c with severity := v }).severityAt i)
    exact same.le.trans h.incidents
  | newIncident c t i a room =>
    obtain ⟨_, _, _, pool⟩ := allocate_spec a
    refine counts trains ?_ fun p => ?_
    · show (insertBefore _ i t.pool.incidents).length ≤ _
      rw [length_insertBefore, pool]; exact room
    · show (t.pool.queues.getD p []).length ≤ _
      rw [pool]; exact h.queues p
  | dropIncident i _ live =>
    exact counts trains ((List.length_erase_le ..).trans h.incidents) h.queues
  | newAnn b t i a room =>
    obtain ⟨_, _, _, pool⟩ := allocate_spec a
    refine counts trains ?_ fun p => ?_
    · show t.pool.incidents.length ≤ _
      rw [pool]; exact h.incidents
    · have queues : ∀ q, t.queue q = s.queue q := fun q => by rw [queue, queue, pool]
      rw [linkAnn, queue_modQueue]
      split
      · next hp => rw [length_insertBefore, queues, ← hp.1]; exact of_decide_eq_true room
      · rw [queues]; exact h.queues p
  | dropAnn i a live =>
    refine counts trains h.incidents fun p => ?_
    show ((s.unlinkAnn a.platform i).queue p).length ≤ _
    rw [unlinkAnn, queue_modQueue]
    split
    · exact (List.length_erase_le ..).trans (h.queues p)
    · exact h.queues p
  | requeueAnn i a live =>
    refine counts trains h.incidents fun p => ?_
    have listed : i ∈ s.queue a.platform := (r.1.pooled.queues a.platform i).mpr ⟨a, live, rfl⟩
    rw [linkAnn, queue_modQueue]
    split
    · next hp =>
      rw [length_insertBefore, unlinkAnn, queue_modQueue, if_pos ⟨hp.1, by simpa [unlinkAnn, modQueue] using hp.2⟩]
      show ((s.queue p).erase i).length + 1 ≤ _
      rw [List.length_erase_of_mem (hp.1 ▸ listed)]
      have := List.length_pos_of_mem (hp.1 ▸ listed)
      have := h.queues p
      omega
    · rw [unlinkAnn, queue_modQueue]
      split
      · exact (List.length_erase_le ..).trans (h.queues p)
      · exact h.queues p
  | _ => exact lists trains rfl rfl

theorem capsOk_gateEdit {s t : State} (e : GateEdit on s t) (h : s.CapsOk) : t.CapsOk := by
  have same : t.pool = s.pool → t.CapsOk := fun hp =>
    ⟨by rw [trainCount, hp]; exact h.trains, by rw [incidentCount, hp]; exact h.incidents, fun p => by rw [queue, hp]; exact h.queues p⟩
  have mod : ∀ (j : Nat) (f : Train → Train), t.pool = (s.modTrain j f).pool → t.CapsOk := fun j f hp =>
    ⟨by rw [trainCount, hp]; exact h.trains, by rw [incidentCount, hp]; exact h.incidents, fun p => by rw [queue, hp]; exact h.queues p⟩
  cases e with
  | train j f | leave j f => exact mod j f rfl
  | grantEntry | grantAsked => exact mod _ _ (pool_grant ..)
  | enqueue j k w => exact mod k (fun x => { x with state := .waiting }) rfl
  | withdraw j reason => exact mod j _ (s.pool_withdrawn j reason)
  | dropEntries h => exact same (s.pool_dropEntries h)
  | dropLease k h =>
    cases hc : s.current h with
    | true => exact mod h.slot (fun x => { x with lease := none }) (by rw [pool_dropLease, if_pos hc])
    | false => exact same (by rw [pool_dropLease, if_neg (by simp [hc])])
  | waitGone | moveRequests => exact same rfl

end State

theorem Run.capsOk {on : Work → Prop} {s t : State} (r : Run on s t) (smooth : ¬ on .rough) (ready : s.Ready) (h : s.CapsOk) : t.CapsOk :=
  r.keeps_ready smooth (fun u v e ru hu => by
    cases e with
    | record e => exact State.capsOk_recordEdit e smooth ru hu
    | gate e => exact State.capsOk_gateEdit e hu) ready h

end Sys2Proof.Machine

/-! The wait queues and the trains WAITING PERMIT agree through every edit (R44, R105). -/

namespace Sys2Proof.Machine
open Sys2Proof

namespace State
variable {on : Work → Prop}

/-- No train has two entries, in one queue or in two. -/
structure Single (s : State) : Prop where
  within  : ∀ k, ((s.substation k).queue.map Entry.train).Nodup
  between : ∀ j k, ∀ e ∈ (s.substation j).queue, ∀ f ∈ (s.substation k).queue, e.train = f.train → j = k

theorem substation_getElem {s : State} {k : Nat} (h : k < s.substations.length) : s.substation k = s.substations[k] := by
  rw [substation, List.getD_eq_getElem?_getD, List.getElem?_eq_getElem h]; rfl

/-- An entry stands in the queue of one of the substations there are. -/
theorem lt_of_mem_queue {s : State} {k : Nat} {e : Entry} (h : e ∈ (s.substation k).queue) : k < s.substations.length := by
  by_contra beyond
  rw [substation_beyond (Nat.le_of_not_lt beyond)] at h
  cases h

theorem single_iff {s : State} : ((s.substations.flatMap Substation.queue).map Entry.train).Nodup ↔ s.Single := by
  rw [List.map_flatMap, List.nodup_flatMap, List.pairwise_iff_getElem]
  constructor
  · rintro ⟨within, between⟩
    have apart : ∀ j k, j < k → ∀ e ∈ (s.substation j).queue, ∀ f ∈ (s.substation k).queue, e.train ≠ f.train := by
      intro j k lt e he f hf same
      have hj := lt_of_mem_queue he
      have hk := lt_of_mem_queue hf
      rw [substation_getElem hj] at he
      rw [substation_getElem hk] at hf
      exact between j k hj hk lt (List.mem_map_of_mem he) (same ▸ List.mem_map_of_mem hf)
    constructor
    · intro k
      by_cases hk : k < s.substations.length
      · rw [substation_getElem hk]; exact within _ (List.getElem_mem hk)
      · rw [substation_beyond (Nat.le_of_not_lt hk)]; exact List.nodup_nil
    · intro j k e he f hf same
      rcases Nat.lt_trichotomy j k with lt | eq | gt
      · exact absurd same (apart j k lt e he f hf)
      · exact eq
      · exact absurd same.symm (apart k j gt f hf e he)
  · rintro ⟨within, between⟩
    constructor
    · intro b hb
      obtain ⟨k, hk, rfl⟩ := List.mem_iff_getElem.mp hb
      rw [← substation_getElem hk]; exact within k
    · intro j k hj hk lt h hjm hkm
      obtain ⟨e, he, rfl⟩ := List.mem_map.mp hjm
      obtain ⟨f, hf, same⟩ := List.mem_map.mp hkm
      rw [← substation_getElem hj] at he
      rw [← substation_getElem hk] at hf
      exact Nat.lt_irrefl k (between j k e he f hf same.symm ▸ lt)

/-- Queues whose entries are among those that stood there. -/
theorem Single.shrink {s t : State} (h : s.Single)
    (sub : ∀ k, ((t.substation k).queue.map Entry.train).Sublist ((s.substation k).queue.map Entry.train)) : t.Single where
  within k := (h.within k).sublist (sub k)
  between j k e he f hf same := by
    obtain ⟨e', he', ee⟩ := List.mem_map.mp ((sub j).subset (List.mem_map_of_mem he))
    obtain ⟨f', hf', ff⟩ := List.mem_map.mp ((sub k).subset (List.mem_map_of_mem hf))
    exact h.between j k e' he' f' hf' (by rw [ee, ff, same])

/-- An entry of a sound queue names a live train that is WAITING PERMIT. -/
def EntryOk (s : State) (h : Handle) : Prop := s.handle h.slot = h ∧ ∃ x, s.train? h.slot = some x ∧ x.state = .waiting

theorem queuesOk_of {s : State} (waiting : ∀ k, ∀ e ∈ (s.substation k).queue, s.EntryOk e.train) (single : s.Single) : s.QueuesOk :=
  ⟨waiting, single_iff.mpr single⟩

theorem QueuesOk.entry {s : State} (h : s.QueuesOk) {k : Nat} {e : Entry} (he : e ∈ (s.substation k).queue) : s.EntryOk e.train :=
  h.waiting k e he

theorem QueuesOk.single {s : State} (h : s.QueuesOk) : s.Single := single_iff.mp h.once

/-- The train of an entry is the one whose slot it names. -/
theorem QueuesOk.train_eq {s : State} (h : s.QueuesOk) {k i : Nat} {e : Entry} (he : e ∈ (s.substation k).queue) (hi : e.train.slot = i) :
    e.train = s.handle i := hi ▸ (h.entry he).1.symm

/-- A train that is not WAITING PERMIT has no entry. -/
theorem QueuesOk.noEntry {s : State} (h : s.QueuesOk) {i : Nat} {x : Train} (hx : s.train? i = some x) (free : x.state ≠ .waiting) :
    s.NoEntry i := fun k e he hi => by
  obtain ⟨-, y, hy, waiting⟩ := h.entry he
  rw [hi] at hy
  cases hx.symm.trans hy
  exact free waiting

/-- Entries that stay, of trains that stay as they are. -/
theorem queuesOk_of_stay {s t : State} (h : s.QueuesOk)
    (sub : ∀ k, ((t.substation k).queue.map Entry.train).Sublist ((s.substation k).queue.map Entry.train))
    (stay : ∀ k, ∀ e ∈ (t.substation k).queue, s.EntryOk e.train → t.EntryOk e.train) : t.QueuesOk := by
  refine queuesOk_of (fun k e he => stay k e he ?_) (h.single.shrink sub)
  obtain ⟨f, hf, same⟩ := List.mem_map.mp ((sub k).subset (List.mem_map_of_mem he))
  exact same ▸ h.entry hf

/-- An entry is kept by an update of a train that is not its own, or that leaves it WAITING PERMIT. -/
theorem entryOk_of_modTrain {s t : State} {j : Nat} {f : Train → Train} (pool : t.pool = (s.modTrain j f).pool) {h : Handle}
    (ok : s.EntryOk h) (own : h.slot = j → ∀ x, s.train? j = some x → x.state = .waiting → (f x).state = .waiting) : t.EntryOk h := by
  obtain ⟨handle, x, hx, waiting⟩ := ok
  obtain ⟨handle', train⟩ := train_of_modTrain pool hx
  refine ⟨handle'.trans handle, _, train, ?_⟩
  split
  · next hj => exact own hj.symm x (hj ▸ hx) waiting
  · exact waiting

theorem entryOk_of_pool {s t : State} (pool : t.pool = s.pool) {h : Handle} (ok : s.EntryOk h) : t.EntryOk h := by
  obtain ⟨handle, x, hx, waiting⟩ := ok
  exact ⟨(handle_of_pool pool _).trans handle, x, (train?_of_pool pool _).trans hx, waiting⟩

theorem queuesOk_recordEdit {s t : State} (e : RecordEdit on s t) (r : s.Ready) (h : s.QueuesOk) : t.QueuesOk := by
  refine queuesOk_of_stay h (fun k => by rw [(queue_recordEdit e k).1]) fun k f _ ok => ?_
  obtain ⟨handle, x, hx, waiting⟩ := ok
  obtain ⟨handle', o, train⟩ := train_recordEdit e r hx
  exact ⟨handle'.trans handle, _, train, waiting⟩

theorem filter_train_sublist (p : Entry → Bool) (l : List Entry) : ((l.filter p).map Entry.train).Sublist (l.map Entry.train) :=
  List.filter_sublist.map _

/-- A grant takes the entry of its train out of the queue, and the train out of its wait. -/
theorem queuesOk_grant {s : State} (h : s.QueuesOk) (k : Nat) (g : Handle) (w : Nat)
    (alone : ∀ j, ∀ e ∈ (s.substation j).queue, e.train.slot = g.slot → j = k ∧ e.train = g) : (s.grant k g w).QueuesOk := by
  refine queuesOk_of_stay h (fun j => ?_) fun j e he ok => entryOk_of_modTrain (pool_grant s k g w) ok fun own => ?_
  · rw [queue_grant]
    split
    · exact filter_train_sublist _ _
    · exact .refl _
  · rw [queue_grant] at he
    split at he
    · obtain ⟨mem, other⟩ := List.mem_filter.mp he
      exact absurd (alone j e mem own).2 (by simpa using other)
    · next hj => exact absurd (alone j e he own).1.symm hj

theorem queuesOk_gateEdit {s t : State} (e : GateEdit on s t) (smooth : ¬ on .rough) (tight : ¬ on .loose) (r : s.Ready) (h : s.QueuesOk) :
    t.QueuesOk := by
  cases e with
  | train i f all =>
    exact queuesOk_of_stay h (fun _ => .refl _) fun k e he ok => entryOk_of_modTrain rfl ok fun _ x hx waiting =>
      (all.resolve_left smooth x hx).2.mpr waiting
  | leave i f _ _ gone =>
    exact queuesOk_of_stay h (fun _ => .refl _) fun k e he ok => entryOk_of_modTrain rfl ok fun own =>
      absurd own ((gone.resolve_left smooth).resolve_left tight k e he)
  | grantEntry k e _ mem =>
    refine queuesOk_grant h k e.train e.weight fun j f hf own => ?_
    have same : f.train = e.train := (h.train_eq hf own).trans (h.train_eq mem rfl).symm
    exact ⟨h.single.between j k f hf e mem same, same⟩
  | grantAsked k i w ask =>
    obtain ⟨x, hx, free, -⟩ := ask.resolve_left smooth
    exact queuesOk_grant h k _ w fun j f hf own => absurd own (h.noEntry hx free j f hf)
  | enqueue k i w ask =>
    obtain ⟨x, hx, free, -⟩ := ask.resolve_left smooth
    have absent := h.noEntry hx free
    have queue := queue_queueUp s r.1.sized k i w
    have mine : (s.queueUp k i w).EntryOk (s.handle i) :=
      ⟨handle_modTrain _ _ _ i, _, train?_modTrain_of (s := s.modSubstation k _) hx _, rfl⟩
    have stay : ∀ j, ∀ f ∈ (s.substation j).queue, (s.queueUp k i w).EntryOk f.train := fun j f hf =>
      entryOk_of_modTrain (s := s) (f := fun x => { x with state := .waiting }) rfl (h.entry hf) fun own => absurd own (absent j f hf)
    have mem : ∀ j, ∀ f ∈ ((s.queueUp k i w).substation j).queue, f ∈ (s.substation j).queue ∨ f.train = s.handle i ∧ k = j := fun j f hf => by
      rw [queue] at hf
      split at hf
      · next hj =>
        rcases List.mem_append.mp hf with old | new
        · exact .inl old
        · exact .inr ⟨by rw [List.mem_singleton.mp new], hj.1⟩
      · exact .inl hf
    refine queuesOk_of (fun j f hf => ?_) ⟨fun j => ?_, fun j l f hf g hg same => ?_⟩
    · rcases mem j f hf with old | ⟨new, -⟩
      · exact stay j f old
      · exact new ▸ mine
    · rw [queue]
      split
      · rw [List.map_append]
        refine List.nodup_append.mpr ⟨h.single.within j, List.nodup_singleton _, fun a ha b hb => ?_⟩
        obtain ⟨f, hf, rfl⟩ := List.mem_map.mp ha
        rw [List.mem_singleton.mp hb]
        exact fun e => absent j f hf (by rw [e]; rfl)
      · exact h.single.within j
    · rcases mem j f hf with oldf | ⟨newf, hj⟩ <;> rcases mem l g hg with oldg | ⟨newg, hl⟩
      · exact h.single.between j l f oldf g oldg same
      · exact absurd (by rw [same, newg]; rfl) (absent j f oldf)
      · exact absurd (by rw [← same, newf]; rfl) (absent l g oldg)
      · exact hj.symm.trans hl
  | withdraw i reason =>
    have queue : ∀ k, ((s.withdrawn i reason).substation k).queue = (s.substation k).queue.filter (fun e => e.train != s.handle i) :=
      s.queue_withdrawn r.1.sized i reason
    refine queuesOk_of_stay h (fun k => ?_) fun k e he ok => entryOk_of_modTrain (s.pool_withdrawn i reason) ok fun own => ?_
    · rw [queue]; exact filter_train_sublist _ _
    · rw [queue] at he
      obtain ⟨mem, other⟩ := List.mem_filter.mp he
      exact absurd (h.train_eq mem own) (by simpa using other)
  | dropEntries g =>
    refine queuesOk_of_stay h (fun k => ?_) fun k e _ ok => entryOk_of_pool (s.pool_dropEntries g) ok
    rw [queue_dropEntries s r.1.sized]; exact filter_train_sublist _ _
  | dropLease k g =>
    refine queuesOk_of_stay h (fun j => by rw [queue_dropLease]) fun j e _ ok => ?_
    cases hc : s.current g with
    | true =>
      exact entryOk_of_modTrain (f := fun x => { x with lease := none }) (by rw [pool_dropLease, if_pos hc]) ok fun _ _ _ => id
    | false => exact entryOk_of_pool (by rw [pool_dropLease, if_neg (by simp [hc])]) ok
  | waitGone k g =>
    refine queuesOk_of_stay h (fun j => ?_) fun j e _ ok => entryOk_of_pool rfl ok
    rw [queue_waitGone]
    split
    · rw [List.map_map]
      refine (List.map_congr_left fun e _ => ?_).symm ▸ List.Sublist.refl ((s.substation j).queue.map Entry.train)
      show (if _ then _ else _ : Entry).train = _
      split <;> rfl
    · exact .refl _
  | moveRequests i g k _ other =>
    have queue := queue_moveRequests s r.1.sized i other
    have from_ : ∀ j, ∀ e ∈ ((s.moveRequests i g k).substation j).queue, e ∈ (s.substation j).queue ∧ (j = g → s.goes i e = false) ∨
        (j = k ∧ e ∈ (s.substation g).queue ∧ s.goes i e = true) := fun j e he => by
      have := queue j
      split at this
      · rw [this] at he
        obtain ⟨mem, stays⟩ := List.mem_filter.mp he
        exact .inl ⟨mem, fun _ => by simpa using stays⟩
      · next hj =>
        split at this
        · next hk =>
          rcases List.mem_append.mp (this.mem_iff.mp he) with moved | old
          · exact .inr ⟨hk.1, List.mem_filter.mp moved⟩
          · exact .inl ⟨old, fun e => absurd e hj⟩
        · rw [this] at he; exact .inl ⟨he, fun e => absurd e hj⟩
    refine queuesOk_of (fun j e he => ?_) ⟨fun j => ?_, fun j l e he f hf same => ?_⟩
    · rcases from_ j e he with ⟨old, -⟩ | ⟨-, moved, -⟩
      · exact entryOk_of_pool rfl (h.entry old)
      · exact entryOk_of_pool rfl (h.entry moved)
    · have := queue j
      split at this
      · rw [this]; exact (h.single.within j).sublist (filter_train_sublist _ _)
      · next hj =>
        split at this
        · refine (this.map Entry.train).nodup_iff.mpr ?_
          rw [List.map_append]
          refine List.nodup_append.mpr ⟨(h.single.within g).sublist (filter_train_sublist _ _), h.single.within j, fun a ha b hb => ?_⟩
          obtain ⟨e, he, rfl⟩ := List.mem_map.mp ha
          obtain ⟨f, hf, rfl⟩ := List.mem_map.mp hb
          exact fun same => hj (h.single.between g j e (List.mem_filter.mp he).1 f hf same).symm
        · rw [this]; exact h.single.within j
    · have goes : s.goes i e = s.goes i f := by simp only [State.goes, same]
      rcases from_ j e he with ⟨olde, se⟩ | ⟨hj, me, ge⟩ <;> rcases from_ l f hf with ⟨oldf, sf⟩ | ⟨hl, mf, gf⟩
      · exact h.single.between j l e olde f oldf same
      · have hg := h.single.between j g e olde f mf same
        rw [goes, gf] at se; exact absurd (se hg) (by decide)
      · have hg := h.single.between g l e me f oldf same
        rw [← goes, ge] at sf; exact absurd (sf hg.symm) (by decide)
      · exact hj.trans hl.symm

end State

theorem Run.queuesOk {on : Work → Prop} {s t : State} (r : Run on s t) (smooth : ¬ on .rough) (tight : ¬ on .loose) (ready : s.Ready)
    (h : s.QueuesOk) : t.QueuesOk :=
  r.keeps_ready smooth (fun u v e ru hu => by
    cases e with
    | record e => exact State.queuesOk_recordEdit e ru hu
    | gate e => exact State.queuesOk_gateEdit e smooth tight ru hu) ready h

end Sys2Proof.Machine

/-! Every train WAITING PERMIT keeps its entry, but for one that is about to leave its wait (R44). -/

namespace Sys2Proof.Machine
open Sys2Proof

namespace State
variable {on : Work → Prop}

/-- A train has an entry in a wait queue. -/
def Queued (s : State) (h : Handle) : Prop := ∃ k, ∃ e ∈ (s.substation k).queue, e.train = h

/-- Every train WAITING PERMIT has an entry, but for those of the slots that `leaving` names. -/
def WaitersBut (leaving : Nat → Prop) (s : State) : Prop :=
  ∀ i x, s.train? i = some x → x.state = .waiting → ¬ leaving i → s.Queued (s.handle i)

theorem waitersBut_none {s : State} : s.WaitersBut (fun _ => False) ↔ s.WaitersQueued :=
  ⟨fun h i x hx waiting => h i x hx waiting id, fun h i x hx waiting _ => h i x hx waiting⟩

theorem WaitersBut.mono {s : State} {a b : Nat → Prop} (h : s.WaitersBut a) (sub : ∀ i, a i → b i) : s.WaitersBut b :=
  fun i x hx waiting stays => h i x hx waiting fun k => stays (sub i k)

theorem queued_filter {s : State} {h g : Handle} (q : s.Queued h) (ne : h ≠ g) {t : State}
    (stay : ∀ k, ∀ e ∈ (s.substation k).queue, e.train ≠ g → e ∈ (t.substation k).queue) : t.Queued h := by
  obtain ⟨k, e, he, rfl⟩ := q
  exact ⟨k, e, stay k e he ne, rfl⟩

theorem queued_grant {s : State} {h g : Handle} (q : s.Queued h) (ne : h ≠ g) (k w : Nat) : (s.grant k g w).Queued h :=
  queued_filter q ne fun j e he other => by
    rw [queue_grant]
    split
    · exact List.mem_filter.mpr ⟨he, by simpa using other⟩
    · exact he

theorem queued_moveRequests {s : State} (hs : s.Sized) {h : Handle} (q : s.Queued h) (i : Nat) {g k : Nat} (other : g ≠ k)
    (inRange : k < Config.substationEntries) : (s.moveRequests i g k).Queued h := by
  obtain ⟨j, e, he, rfl⟩ := q
  have queue := queue_moveRequests s hs i other
  by_cases hj : j = g
  · subst hj
    by_cases goes : s.goes i e = true
    · refine ⟨k, e, ?_, rfl⟩
      have at_ := queue k
      rw [if_neg (Ne.symm other), if_pos ⟨rfl, inRange⟩] at at_
      exact at_.mem_iff.mpr (List.mem_append_left _ (List.mem_filter.mpr ⟨he, goes⟩))
    · refine ⟨j, e, ?_, rfl⟩
      have at_ := queue j
      rw [if_pos rfl] at at_
      rw [at_]
      exact List.mem_filter.mpr ⟨he, by simpa using goes⟩
  · refine ⟨j, e, ?_, rfl⟩
    have at_ := queue j
    rw [if_neg hj] at at_
    split at at_
    · exact at_.mem_iff.mpr (List.mem_append_right _ he)
    · rw [at_]; exact he

theorem queued_of_queues {s t : State} {h : Handle} (q : s.Queued h) (same : ∀ k, (t.substation k).queue = (s.substation k).queue) :
    t.Queued h := by
  obtain ⟨k, e, he, rfl⟩ := q
  exact ⟨k, e, same k ▸ he, rfl⟩

theorem waitersBut_recordEdit {s t : State} (e : RecordEdit on s t) (smooth : ¬ on .rough) (r : s.Ready) {leaving : Nat → Prop}
    (h : s.WaitersBut leaving) : t.WaitersBut leaving := by
  intro i y hy waiting stays
  obtain ⟨x, hx, -, -⟩ := (Run.of_record e).was_live smooth r hy
  obtain ⟨handle, o, train⟩ := train_recordEdit e r hx
  cases hy.symm.trans train
  rw [handle]
  exact queued_of_queues (h i x hx waiting stays) fun k => (queue_recordEdit e k).1

theorem waitersBut_gateEdit {s t : State} (e : GateEdit on s t) (smooth : ¬ on .rough) (r : s.Ready) (c : s.Configured)
    (h : s.WaitersBut fun i => on (.leave i)) : t.WaitersBut fun i => on (.leave i) := by
  intro i y hy waiting stays
  obtain ⟨x, hx, handle, -⟩ := (Run.of_gate e).was_live smooth r hy
  rw [handle]
  have mod : ∀ {j : Nat} {f : Train → Train}, t.pool = (s.modTrain j f).pool → y = if j = i then f x else x := fun pool =>
    Option.some_inj.mp (hy.symm.trans (train_of_modTrain pool hx).2)
  have same : t.pool = s.pool → y = x := fun pool => Option.some_inj.mp (hy.symm.trans ((train?_of_pool pool i).trans hx))
  have grant : ∀ {k : Nat} {g : Handle} {w : Nat}, t = s.grant k g w → t.Queued (s.handle i) := fun {k g w} ht => by
    have hyx := mod (ht ▸ pool_grant s k g w)
    by_cases hj : g.slot = i
    · rw [if_pos hj] at hyx; rw [hyx] at waiting; cases waiting
    · rw [if_neg hj] at hyx
      subst hyx ht
      exact queued_grant (h i y hx waiting stays) (fun e => hj (by rw [← e]; rfl)) k w
  cases e with
  | train j f all =>
    have hyx := mod (j := j) (f := f) rfl
    refine h i x hx ?_ stays
    by_cases hj : j = i
    · rw [if_pos hj] at hyx
      exact (all.resolve_left smooth x (hj ▸ hx)).2.mp (hyx ▸ waiting)
    · rw [if_neg hj] at hyx; exact hyx ▸ waiting
  | leave j f tag all =>
    have hyx := mod (j := j) (f := f) rfl
    by_cases hj : j = i
    · exact absurd (hj ▸ tag) stays
    · rw [if_neg hj] at hyx; exact h i x hx (hyx ▸ waiting) stays
  | grantEntry k e => exact grant rfl
  | grantAsked k j w => exact grant rfl
  | enqueue k j w _ inRange =>
    have hyx := mod (j := j) (f := fun x => { x with state := .waiting }) rfl
    have queue := queue_queueUp s r.1.sized k j w
    by_cases hj : j = i
    · refine ⟨k, ⟨s.handle j, w, s.lineTime, some (later s.lineTime s.line.waitLimit)⟩, ?_, by rw [hj]⟩
      rw [queue, if_pos ⟨rfl, inRange.resolve_left smooth c⟩]
      exact List.mem_append_right _ (List.mem_singleton.mpr rfl)
    · rw [if_neg hj] at hyx
      obtain ⟨m, e, he, same⟩ := h i x hx (hyx ▸ waiting) stays
      refine ⟨m, e, ?_, same⟩
      rw [queue]
      split
      · exact List.mem_append_left _ he
      · exact he
  | withdraw j reason =>
    have hyx := mod (s.pool_withdrawn j reason)
    by_cases hj : j = i
    · rw [if_pos hj] at hyx; rw [hyx] at waiting; cases waiting
    · rw [if_neg hj] at hyx
      refine queued_filter (h i x hx (hyx ▸ waiting) stays) (g := s.handle j) (fun e => hj (congrArg Handle.slot e).symm)
        fun k e he other => ?_
      rw [queue_withdrawn _ r.1.sized]
      exact List.mem_filter.mpr ⟨he, by simpa using other⟩
  | dropEntries g tag =>
    have hyx := same (s.pool_dropEntries g)
    refine queued_filter (h i x hx (hyx ▸ waiting) stays) (g := g) (fun e => stays (by rw [← e] at tag; exact tag)) fun k e he other => ?_
    rw [queue_dropEntries _ r.1.sized]
    exact List.mem_filter.mpr ⟨he, by simpa using other⟩
  | dropLease k g =>
    have waits : x.state = .waiting := by
      cases hc : s.current g with
      | true =>
        have hyx := mod (j := g.slot) (f := fun x => { x with lease := none }) (by rw [pool_dropLease, if_pos hc])
        rw [hyx] at waiting
        split at waiting <;> exact waiting
      | false => exact same (by rw [pool_dropLease, if_neg (by simp [hc])]) ▸ waiting
    exact queued_of_queues (h i x hx waits stays) fun j => queue_dropLease s k g j
  | waitGone k g =>
    obtain ⟨m, e, he, ht⟩ := h i x hx (same rfl ▸ waiting) stays
    by_cases hm : k = m
    · refine ⟨m, if e.train = g then { e with waitDl := none } else e, ?_, ?_⟩
      · rw [queue_waitGone, if_pos hm]; exact List.mem_map_of_mem he
      · split <;> exact ht
    · exact ⟨m, e, by rw [queue_waitGone, if_neg hm]; exact he, ht⟩
  | moveRequests j g k _ other inRange =>
    exact queued_moveRequests r.1.sized (h i x hx (same rfl ▸ waiting) stays) j other (inRange.resolve_left smooth c)

end State

theorem Run.waitersBut {on : Work → Prop} {s t : State} (r : Run on s t) (smooth : ¬ on .rough) (ready : s.Ready) (c : s.Configured)
    (h : s.WaitersBut fun i => on (.leave i)) : t.WaitersBut fun i => on (.leave i) :=
  (r.keeps_ready (P := fun u => u.Configured ∧ u.WaitersBut fun i => on (.leave i)) smooth (fun u v e ru ⟨cu, hu⟩ => by
    refine ⟨Run.configured (Relation.ReflTransGen.single e) smooth ru cu, ?_⟩
    cases e with
    | record e => exact State.waitersBut_recordEdit e smooth ru hu
    | gate e => exact State.waitersBut_gateEdit e smooth ru cu hu) ready ⟨c, h⟩).2

end Sys2Proof.Machine

/-! Work of fewer kinds is work of more; and what becomes of one train in work that does not amend trains. -/

namespace Sys2Proof.Machine
open Sys2Proof

section
variable {on more : Work → Prop} (sub : ∀ w, on w → more w)
include sub

theorem TrainChange.mono {s : State} {x y : Train} (h : TrainChange on s x y) : TrainChange more s x y where
  by_ := h.by_.imp_left (sub _)
  vehicle := h.vehicle
  saved := h.saved
  service := h.service
  places := h.places.imp_left (sub _)
  departure d hy hd := (h.departure d hy hd).imp_right (Or.imp_right (sub _))
  overdue d hy hd := (h.overdue d hy hd).imp_right (sub _)
  approach d hy hd := (h.approach d hy hd).imp_right (sub _)
  owed := h.owed

theorem IncidentChange.mono {s : State} {c d : Incident} (h : IncidentChange on s c d) : IncidentChange more s c d where
  copies := h.copies.imp_left (sub _)
  escalation := h.escalation
  operator k := (h.operator k).imp_left (sub _)
  same := h.same.imp_left (sub _)
  cause a := (h.cause a).imp (sub _) (Or.imp_left (sub _))

theorem AnnChange.mono {a b : Ann} (h : AnnChange on a b) : AnnChange more a b where
  platform := h.platform
  rest d hy hd := (h.rest d hy hd).imp_right (sub _)

theorem MayAsk.mono {s : State} {x : Train} (h : MayAsk on s x) : MayAsk more s x := ⟨h.1, h.2.imp (sub _) fun k => ⟨sub _ k.1, k.2⟩⟩

theorem Owing.mono {loc : Location} {v : Option Nat} (h : Owing on loc v) : Owing more loc v :=
  h.imp (fun ⟨owes, serve, withdraw⟩ => ⟨owes, sub _ serve, sub _ withdraw⟩) (And.imp_right (Or.imp_right (sub _)))

theorem RecordEdit.mono {s t : State} (e : RecordEdit on s t) : RecordEdit more s t := by
  cases e with
  | attention f mask lines => exact .attention f mask lines
  | issue n d h => exact .issue n d (h.imp (sub _) (Or.imp_left (sub _)))
  | player p f h => exact .player p f h
  | ring p f h kept dep foreign => exact .ring p f (sub _ h) kept (dep.imp_left (sub _)) (foreign.imp_left (sub _))
  | putOwed k loc v h => exact .putOwed k loc v (h.mono sub)
  | sect i f parts occupants op => exact .sect i f (fun x p => (parts x p).imp_left (sub _)) (occupants.imp_left (sub _)) op
  | substation k f kept up budget => exact .substation k f kept (up.imp_left (sub _)) (budget.imp_left (sub _))
  | incident i f h => exact .incident i f fun c hc => (h c hc).mono sub
  | severity i v live h => exact .severity i v (live.imp_left (sub _)) (h.imp (sub _) (Or.imp_left (sub _)))
  | newIncident c t i a room copies escalation => exact .newIncident c t i a room copies escalation
  | dropIncident i h live => exact .dropIncident i (sub _ h) live
  | ann i f h => exact .ann i f fun a ha => (h a ha).mono sub
  | newAnn a t i h room place queued => exact .newAnn a t i h room (place.imp_left (sub _)) queued
  | dropAnn i a live => exact .dropAnn i a live
  | requeueAnn i a live => exact .requeueAnn i a live

theorem GateEdit.mono {s t : State} (e : GateEdit on s t) : GateEdit more s t := by
  cases e with
  | train i f h => exact .train i f (h.imp (sub _) fun h x hx => ⟨(h x hx).1.mono sub, (h x hx).2⟩)
  | leave i f tag h gone =>
    exact .leave i f (sub _ tag) (h.imp (sub _) fun h x hx => ⟨(h x hx).1.mono sub, (h x hx).2⟩) (gone.imp (sub _) (Or.imp_left (sub _)))
  | grantEntry k e h mem => exact .grantEntry k e (sub _ h) mem
  | grantAsked k i w h => exact .grantAsked k i w (h.imp (sub _) fun ⟨x, hx, a⟩ => ⟨x, hx, a.mono sub⟩)
  | enqueue k i w h inRange => exact .enqueue k i w (h.imp (sub _) fun ⟨x, hx, a⟩ => ⟨x, hx, a.mono sub⟩) (inRange.imp_left (sub _))
  | withdraw i reason h waits => exact .withdraw i reason (sub _ h) (waits.imp_left (sub _))
  | dropEntries h tag => exact .dropEntries h (sub _ tag)
  | dropLease k h tag => exact .dropLease k h (sub _ tag)
  | waitGone k h => exact .waitGone k h
  | moveRequests i g r h other inRange => exact .moveRequests i g r (sub _ h) other (inRange.imp_left (sub _))

theorem Edit.mono {s t : State} (e : Edit on s t) : Edit more s t := by
  cases e with
  | record e => exact .record (e.mono sub)
  | gate e => exact .gate (e.mono sub)

theorem Run.mono {s t : State} (r : Run on s t) : Run more s t := by
  induction r with
  | refl => exact Run.refl s
  | tail _ e ih => exact ih.tail (e.mono sub)

theorem Does.mono {s t : State} (d : Does on s t) (rough : more .rough → on .rough) : Does more s t :=
  fun h => (d (h.imp_left rough)).mono sub

end

/-- Work of one kind after other work, with what that work has left. -/
theorem Does.then {on : Work → Prop} {s t u : State} (a : Does on s t) (b : Run on s t → Does on t u) : Does on s u := fun h =>
  (a.trans (b (a h))) h

namespace State
variable {on : Work → Prop}

/-- Neither HELD nor WAITING PERMIT: of no concern to the gate. -/
def Aloof (x : Train) : Prop := x.state ≠ .held ∧ x.state ≠ .waiting

/-- A gate edit that is no amendment of trains leaves an aloof train aloof, and as it is where it has no entry. -/
theorem aloof_gateEdit {s t : State} (e : GateEdit on s t) (smooth : ¬ on .rough) (calm : ¬ on .trains) {i : Nat} {x : Train}
    (stays : ¬ on (.leave i)) (hx : s.train? i = some x) (aloof : Aloof x) :
    (∃ y, t.train? i = some y ∧ Aloof y) ∧ (s.NoEntry i → t.train? i = some x) := by
  have kept : t.train? i = some x → (∃ y, t.train? i = some y ∧ Aloof y) ∧ (s.NoEntry i → t.train? i = some x) := fun h =>
    ⟨⟨x, h, aloof⟩, fun _ => h⟩
  have mod : ∀ (j : Nat) (f : Train → Train), t.pool = (s.modTrain j f).pool → t.train? i = some (if j = i then f x else x) :=
    fun j f pool => (train_of_modTrain pool hx).2
  have other : ∀ (j : Nat) (f : Train → Train), t.pool = (s.modTrain j f).pool → j ≠ i →
      (∃ y, t.train? i = some y ∧ Aloof y) ∧ (s.NoEntry i → t.train? i = some x) := fun j f pool ne => kept (by rw [mod j f pool, if_neg ne])
  have asked : ∀ {j : Nat}, (on .rough ∨ ∃ y, s.train? j = some y ∧ MayAsk on s y) → j ≠ i := fun ask h => by
    obtain ⟨y, hy, -, may⟩ := ask.resolve_left smooth
    cases hx.symm.trans (h ▸ hy)
    exact aloof.1 (may.resolve_left calm).2.1
  cases e with
  | train j f all =>
    by_cases hj : j = i
    · exact absurd ((all.resolve_left smooth x (hj ▸ hx)).1.by_.resolve_left calm).held aloof.1
    · exact other j f rfl hj
  | leave j f tag => exact other j f rfl fun h => stays (h ▸ tag)
  | grantEntry k e _ mem =>
    have train := mod _ _ (pool_grant s k e.train e.weight)
    by_cases hj : e.train.slot = i
    · rw [if_pos hj] at train
      exact ⟨⟨_, train, TrainState.noConfusion, TrainState.noConfusion⟩, fun none => absurd hj (none k e mem)⟩
    · rw [if_neg hj] at train; exact kept train
  | grantAsked k j w ask => exact other j _ (pool_grant s k (s.handle j) w) (asked ask)
  | enqueue k j w ask => exact other j (fun x => { x with state := .waiting }) rfl (asked ask)
  | withdraw j reason _ waits =>
    refine other j _ (s.pool_withdrawn j reason) fun h => ?_
    obtain ⟨y, hy, waiting⟩ := waits.resolve_left smooth
    cases hx.symm.trans (h ▸ hy)
    exact aloof.2 waiting
  | dropEntries g => exact kept ((train?_of_pool (s.pool_dropEntries g) i).trans hx)
  | dropLease k g tag => exact absurd tag calm
  | waitGone | moveRequests => exact kept hx

/-- A gate edit gives no entry to a train that may not ask. -/
theorem noEntry_gateEdit {s t : State} (e : GateEdit on s t) (smooth : ¬ on .rough) (r : s.Ready) {i : Nat}
    (shut : ∀ x, s.train? i = some x → ¬ MayAsk on s x) (h : s.NoEntry i) : t.NoEntry i := by
  have sub : (∀ k, ∀ e ∈ (t.substation k).queue, ∃ j, ∃ f ∈ (s.substation j).queue, f.train = e.train) → t.NoEntry i := fun sub k e he own => by
    obtain ⟨j, f, hf, same⟩ := sub k e he
    exact h j f hf (same ▸ own)
  cases e with
  | train | leave => exact h
  | grantEntry k e =>
    refine sub fun j f hf => ⟨j, f, ?_, rfl⟩
    rw [queue_grant] at hf
    split at hf
    · exact (List.mem_filter.mp hf).1
    · exact hf
  | grantAsked k j w =>
    refine sub fun j f hf => ⟨j, f, ?_, rfl⟩
    rw [queue_grant] at hf
    split at hf
    · exact (List.mem_filter.mp hf).1
    · exact hf
  | enqueue k j w ask =>
    intro m f hf own
    rw [queue_queueUp s r.1.sized] at hf
    split at hf
    · rcases List.mem_append.mp hf with old | new
      · exact h m f old own
      · rw [List.mem_singleton.mp new] at own
        obtain ⟨x, hx, may⟩ := ask.resolve_left smooth
        exact shut x (show s.train? i = some x from own ▸ hx) may
    · exact h m f hf own
  | withdraw j reason =>
    refine sub fun k f hf => ⟨k, f, ?_, rfl⟩
    rw [queue_withdrawn s r.1.sized] at hf
    exact (List.mem_filter.mp hf).1
  | dropEntries g =>
    refine sub fun k f hf => ⟨k, f, ?_, rfl⟩
    rw [queue_dropEntries s r.1.sized] at hf
    exact (List.mem_filter.mp hf).1
  | dropLease k g => exact fun j f hf => h j f (queue_dropLease s k g j ▸ hf)
  | waitGone k g =>
    refine sub fun j f hf => ?_
    rw [queue_waitGone] at hf
    split at hf
    · obtain ⟨e, he, rfl⟩ := List.mem_map.mp hf
      refine ⟨j, e, he, ?_⟩
      split <;> rfl
    · exact ⟨j, f, hf, rfl⟩
  | moveRequests j g k _ other =>
    refine sub fun m f hf => ?_
    have queue := queue_moveRequests s r.1.sized j other m
    split at queue
    · rw [queue] at hf; exact ⟨m, f, (List.mem_filter.mp hf).1, rfl⟩
    · split at queue
      · rcases List.mem_append.mp (queue.mem_iff.mp hf) with moved | old
        · exact ⟨g, f, (List.mem_filter.mp moved).1, rfl⟩
        · exact ⟨m, f, old, rfl⟩
      · rw [queue] at hf; exact ⟨m, f, hf, rfl⟩

end State

namespace Run
variable {on : Work → Prop} {s t : State} (r : Run on s t) (smooth : ¬ on .rough) (calm : ¬ on .trains) (ready : s.Ready) {i : Nat}
  {x : Train}
include r smooth calm ready

/-- Work that amends no trains leaves an aloof train aloof. -/
theorem aloof (stays : ¬ on (.leave i)) (hx : s.train? i = some x) (h : State.Aloof x) : ∃ y, t.train? i = some y ∧ State.Aloof y := by
  refine r.keeps_ready (P := fun u => ∃ y, u.train? i = some y ∧ State.Aloof y) smooth (fun u v e ru ⟨y, hy, hu⟩ => ?_) ready ⟨x, hx, h⟩
  cases e with
  | record e =>
    obtain ⟨-, o, train⟩ := State.train_recordEdit e ru hy
    exact ⟨_, train, hu⟩
  | gate e => exact (State.aloof_gateEdit e smooth calm stays hy hu).1

/-- It leaves an aloof train with no entry as it is, but for its owed set. -/
theorem untouched (stays : ¬ on (.leave i)) (hx : s.train? i = some x) (h : State.Aloof x) (none : s.NoEntry i) :
    t.NoEntry i ∧ ∃ o, t.train? i = some { x with owed := o } := by
  refine r.keeps_ready (P := fun u => u.NoEntry i ∧ ∃ o, u.train? i = some { x with owed := o }) smooth
    (fun u v e ru ⟨none, o, hu⟩ => ?_) ready ⟨none, x.owed, hx⟩
  cases e with
  | record e =>
    obtain ⟨-, o', train⟩ := State.train_recordEdit e ru hu
    exact ⟨fun k e' he' => none k e' ((State.queue_recordEdit e k).1 ▸ he'), o', train⟩
  | gate e =>
    refine ⟨State.noEntry_gateEdit e smooth ru (fun y hy may => ?_) none, o, (State.aloof_gateEdit e smooth calm stays hu h).2 none⟩
    cases hu.symm.trans hy
    exact h.1 (may.2.resolve_left calm).2.1

/-- Work that withdraws no request either leaves a train WAITING PERMIT that has lost its entry without one. -/
theorem waits_unqueued (firm : ¬ on .withdraw) (stays : ¬ on (.leave i)) (hx : s.train? i = some x) (waiting : x.state = .waiting)
    (none : s.NoEntry i) : t.NoEntry i ∧ ∃ o, t.train? i = some { x with owed := o } := by
  refine r.keeps_ready (P := fun u => u.NoEntry i ∧ ∃ o, u.train? i = some { x with owed := o }) smooth
    (fun u v e ru ⟨none, o, hu⟩ => ?_) ready ⟨none, x.owed, hx⟩
  have notHeld : x.state ≠ .held := by rw [waiting]; decide
  cases e with
  | record e =>
    obtain ⟨-, o', train⟩ := State.train_recordEdit e ru hu
    exact ⟨fun k e' he' => none k e' ((State.queue_recordEdit e k).1 ▸ he'), o', train⟩
  | gate e =>
    have shut : ∀ y, u.train? i = some y → ¬ MayAsk on u y := fun y hy may => by
      cases hu.symm.trans hy
      exact may.1 waiting
    refine ⟨State.noEntry_gateEdit e smooth ru shut none, o, ?_⟩
    have mod : ∀ (j : Nat) (f : Train → Train), v.pool = (u.modTrain j f).pool → j ≠ i → v.train? i = some { x with owed := o } :=
      fun j f pool ne => by rw [(State.train_of_modTrain pool hu).2, if_neg ne]
    cases e with
    | train j f all =>
      refine mod j f rfl fun h => ?_
      subst h
      exact notHeld ((all.resolve_left smooth _ hu).1.by_.resolve_left calm).held
    | leave j f tag => exact mod j f rfl fun h => stays (h ▸ tag)
    | grantEntry k e _ mem => exact mod _ _ (State.pool_grant u k e.train e.weight) (none k e mem)
    | grantAsked k j w ask =>
      refine mod j _ (State.pool_grant u k (u.handle j) w) fun h => ?_
      obtain ⟨y, hy, may⟩ := ask.resolve_left smooth
      exact shut y (h ▸ hy) may
    | enqueue k j w ask =>
      refine mod j (fun x => { x with state := .waiting }) rfl fun h => ?_
      obtain ⟨y, hy, may⟩ := ask.resolve_left smooth
      exact shut y (h ▸ hy) may
    | withdraw j reason tag => exact absurd tag firm
    | dropEntries g => rw [State.train?_of_pool (u.pool_dropEntries g) i]; exact hu
    | dropLease k g tag => exact absurd tag calm
    | waitGone | moveRequests => exact hu

end Run

end Sys2Proof.Machine

/-! The Passage Tracker's operations as work of edits (R50 to R56). -/

namespace Sys2Proof.Machine
open Sys2Proof

/-- The kinds of work that serve the queues and raise incidents: a part of the work of most events. -/
def gateWork (on : Work → Prop) : Work → Prop
  | .serve | .withdraw => True
  | .ends => on .ends
  | .rough => on .rough
  | .loose => on .loose
  | _ => False

theorem gateWork_sub {on : Work → Prop} (serve : on .serve) (withdraw : on .withdraw) : ∀ w, gateWork on w → on w := by
  intro w h
  cases w <;> first | exact serve | exact withdraw | exact h | exact h.elim

/-- The service of the queues alone. -/
def serveWork (on : Work → Prop) : Work → Prop
  | .serve => True
  | .ends => on .ends
  | .rough => on .rough
  | .loose => on .loose
  | _ => False

/-- Work in which the train of slot `i`, if it is neither HELD nor WAITING PERMIT, becomes neither. -/
structure Spares (on : Work → Prop) (i : Nat) (s t : State) : Prop where
  does  : Does on s t
  aloof : ¬ on .rough → s.Ready → (∃ x, s.train? i = some x ∧ State.Aloof x) → ∃ y, t.train? i = some y ∧ State.Aloof y

namespace Spares
variable {on : Work → Prop} {i : Nat} {s t u : State}

theorem trans (a : Spares on i s t) (b : Spares on i t u) : Spares on i s u where
  does := a.does.trans b.does
  aloof smooth ready h := b.aloof smooth ((a.does (.inr ready)).ready smooth ready) (a.aloof smooth ready h)

/-- Work of edits that amends no trains. -/
theorem of_gateWork (serve : on .serve) (withdraw : on .withdraw) (d : Does (gateWork on) s t) : Spares on i s t where
  does := d.mono (gateWork_sub serve withdraw) id
  aloof smooth ready := fun ⟨_, hx, h⟩ => (d (.inr ready)).aloof smooth id ready id hx h

theorem of_same (d : Does on s t) (same : t.train? i = s.train? i) : Spares on i s t := ⟨d, fun _ _ h => same ▸ h⟩

theorem of_modTrain {f : Train → Train} (d : Does on s (s.modTrain i f)) (state : ∀ x, (f x).state = x.state) :
    Spares on i s (s.modTrain i f) :=
  ⟨d, fun _ _ ⟨x, hx, h⟩ => ⟨f x, State.train?_modTrain_of hx f, by unfold State.Aloof at h ⊢; rwa [state]⟩⟩

end Spares

namespace State
variable {on : Work → Prop}

theorem does_occupant (passage : on .passage) (s : State) (p : Nat) (h : Option Handle) :
    Does on s (s.modPlatform p fun x => { x with occupant := h }) :=
  .of_record (.ring p _ passage (fun _ => ⟨rfl, rfl, rfl, rfl⟩) (.inr fun _ => rfl) (.inr fun _ => rfl))

/-- The occupants of a section as trains come and go. -/
theorem does_occupants (passage : on .passage) (s : State) (i : Nat) (f : Nat → Nat) :
    Does on s (s.modSect i fun x => { x with occupants := f x.occupants }) :=
  .of_record (.sect i _ (fun _ p => .inr (by cases p <;> rfl)) (.inl passage) fun _ _ _ h => .inl h)

theorem train?_dropLease_of {s : State} {i : Nat} {x : Train} (hx : s.train? i = some x) (k : Nat) (h : Handle) :
    ∃ y, (s.dropLease k h).train? i = some y ∧ y.state = x.state := by
  cases hc : s.current h with
  | true =>
    have pool : (s.dropLease k h).pool = (s.modTrain h.slot fun x => { x with lease := none }).pool := by rw [pool_dropLease, if_pos hc]
    refine ⟨_, (train_of_modTrain pool hx).2, ?_⟩
    split <;> rfl
  | false => exact ⟨x, (train?_of_pool (by rw [pool_dropLease, if_neg (by simp [hc])]) i).trans hx, rfl⟩

theorem spares_dropLeaseOf (tr : on .trains) (s : State) (i j : Nat) : Spares on j s (s.dropLeaseOf i) := by
  refine ⟨does_dropLeaseOf tr s i, fun _ _ ⟨x, hx, h⟩ => ?_⟩
  unfold dropLeaseOf
  split
  · split
    · next k w _ =>
      obtain ⟨y, hy, state⟩ := train?_dropLease_of hx k (s.handle i)
      exact ⟨y, hy, by unfold Aloof at h ⊢; rwa [state]⟩
    · exact ⟨x, hx, h⟩
  · exact ⟨x, hx, h⟩

theorem does_conflict (tr : on .trains) (s : State) (i : Nat) (b : Bool) :
    Does on s (s.modTrain i fun t => { t with holds := { t.holds with conflict := b } }) :=
  does_modTrain tr s i _ (fun _ => ⟨rfl, rfl, rfl, rfl, rfl⟩) (fun _ => rfl) (fun _ => .inl rfl) (fun _ => .inl rfl) fun _ => .inl rfl

/-- Steps 1 and 2 of an arrival of a running train: its lease ends and it leaves its section (R51). -/
def leftBehind (s : State) (i : Nat) (t : Train) : State :=
  (serveChanged s (s.dropLeaseOf i)).modSect (s.runSectionOf t) fun x => { x with occupants := x.occupants - 1 }

/-- Step 3: the train takes its place (R51). -/
def arrived (s : State) (i : Nat) (t : Train) (p a : Nat) (clamped : Bool) : State :=
  let e := s.next (placeOf t)
  let k := s.dist e p
  let sched := later t.schedArr (s.legTime e k)
  (s.leftBehind i t).modTrain i fun t =>
    { t with position := some p, lastArr := some a, schedArr := sched, lateness := diff sched a, skip := k, predicted := none,
             overdueDl := none, approachDl := none, approached := false, timeClamped := clamped }

/-- The arrival up to the dwell computation: the causes of the run end, and the platform is taken (R51, R52). -/
def settled (s : State) (i : Nat) (t : Train) (p a : Nat) (clamped : Bool) : State :=
  (((s.arrived i t p a clamped).endCause .trainOverdue (.train (s.handle i))).endCause .unauthorised (.train (s.handle i))).occupy i p

theorem arriveRunning_eq (s : State) (i : Nat) (t : Train) (p a : Nat) (clamped : Bool) : s.arriveRunning i t p a clamped =
    (s.settled i t p a clamped).regulate i p a
      (diff (later t.schedArr (s.legTime (s.next (placeOf t)) (s.dist (s.next (placeOf t)) p))) a) := rfl

theorem tables_leftBehind (s : State) (i : Nat) (t : Train) : (s.leftBehind i t).tables = s.tables := by
  rw [leftBehind, modSect_tables, (calm_serveChanged s (s.dropLeaseOf i)).tables, (s.calm_dropLeaseOf i).tables]

section
variable (serve : on .serve) (withdraw : on .withdraw) (passage : on .passage) (tr : on .trains)
include serve withdraw passage tr

theorem spares_occupy (s : State) (i p : Nat) : Spares on i s (s.occupy i p) := by
  unfold occupy
  split
  · exact .of_same (does_occupant passage s p _) rfl
  · exact (Spares.of_modTrain (does_conflict tr s i true) fun _ => rfl).trans
      (.of_gateWork serve withdraw (does_autoRaise trivial trivial _ _ _ _))

omit serve withdraw in
/-- The dwell of a train that is neither HELD nor WAITING PERMIT begins (R65). -/
theorem does_beginDwell (s : State) (i depTime : Nat) (saturated : Bool) (note : ClampNote)
    (h : on .rough ∨ ∃ x, s.train? i = some x ∧ Aloof x) : Does on s (s.beginDwell i depTime saturated note) := by
  refine .of_ready fun r => ?_
  have begun : Does on s (s.modTrain i fun t =>
      { t with depTime := some depTime, saturated := saturated, clamp := note, depDl := some (s.departureDeadline depTime),
               state := .dwelling }) := by
    refine .of_gate (.train i _ (h.imp_right fun ⟨x, hx, aloof⟩ y hy => ?_))
    cases hx.symm.trans hy
    exact ⟨⟨.inl tr, rfl, rfl, fun h => h, .inr fun _ _ h => h, fun _ _ _ => .inr (.inr passage), fun _ _ _ => .inr passage,
      fun _ _ _ => .inr passage, rfl⟩, ⟨fun e => (nomatch e), fun e => absurd e aloof.2⟩⟩
  unfold beginDwell
  dsimp only
  split
  · next t ht => exact begun.trans (does_issueForTrain _ _ _ (ready_or on r fun r => r.1.place_lt ht))
  · exact begun

omit serve withdraw in
/-- A train takes its place at a platform of the ring, its state kept. -/
theorem spares_place {s : State} {i p : Nat} {f : Train → Train} (hp : on .rough ∨ s.platformOk p = true)
    (position : ∀ x, (f x).position = some p) (rest : ∀ x, (f x).vehicle = x.vehicle ∧ (f x).saved = x.saved ∧ (f x).service = x.service ∧
      (f x).origin = x.origin ∧ (f x).state = x.state)
    (owed : ∀ x, (f x).owed = x.owed := by intro; rfl) : Spares on i s (s.modTrain i f) := by
  refine .of_modTrain (.of_gate (.train i f (.inr fun x _ => ?_))) fun x => (rest x).2.2.2.2
  obtain ⟨vehicle, saved, service, origin, state⟩ := rest x
  refine ⟨⟨.inl tr, vehicle, saved, by rw [service]; exact id, hp.imp_right fun hp ok all w => ⟨origin ▸ w.1, fun q hq => ?_⟩,
    fun _ _ _ => .inr (.inr passage), fun _ _ _ => .inr passage, fun _ _ _ => .inr passage, owed x⟩, by rw [state]⟩
  rw [position] at hq
  cases hq
  exact all p hp

theorem does_arriveAtOrigin (s : State) {i : Nat} {t : Train} (hx : s.train? i = some t) (awaiting : t.state = .awaiting) (a : Nat)
    (clamped : Bool) (hp : on .rough ∨ s.platformOk t.origin = true) : Does on s (s.arriveAtOrigin i t a clamped) := by
  unfold arriveAtOrigin
  have before : Spares on i s ((s.modTrain i fun x =>
      { x with position := some t.origin, lastArr := some a, schedArr := s.originArrival t.origin t.tripStart,
               lateness := diff (s.originArrival t.origin t.tripStart) a, skip := 0, approached := false, timeClamped := clamped }).occupy
      i t.origin) :=
    .trans (spares_place (f := fun x =>
      { x with position := some t.origin, lastArr := some a, schedArr := s.originArrival t.origin t.tripStart,
               lateness := diff (s.originArrival t.origin t.tripStart) a, skip := 0, approached := false, timeClamped := clamped })
      passage tr hp (fun _ => rfl) fun _ => ⟨rfl, rfl, rfl, rfl, rfl⟩) (spares_occupy serve withdraw passage tr _ i _)
  intro fit
  refine Does.trans before.does (does_beginDwell passage tr _ i _ _ _ ?_) fit
  refine or_iff_not_imp_left.mpr fun smooth => before.aloof smooth (fit.resolve_left smooth) ⟨t, hx, ?_⟩
  exact ⟨by rw [awaiting]; decide, by rw [awaiting]; decide⟩

end

section
variable (serve : on .serve) (withdraw : on .withdraw) (ends : on .ends) (passage : on .passage) (tr : on .trains)
include serve withdraw ends passage tr

/-- An arrival of a running train up to the dwell computation (R51 steps 1 to 4, R52). -/
theorem spares_settled (s : State) (i : Nat) (t : Train) {p : Nat} (a : Nat) (clamped : Bool)
    (hp : on .rough ∨ s.platformOk p = true) : Spares on i s (s.settled i t p a clamped) := by
  have gate : ∀ {u v : State}, Does (gateWork on) u v → Spares on i u v := Spares.of_gateWork serve withdraw
  have left : Spares on i s (s.leftBehind i t) :=
    .trans (.trans (spares_dropLeaseOf tr s i i) (gate (does_serveChanged trivial s _))) (.of_same (does_occupants passage _ _ (· - 1)) rfl)
  have placed : Spares on i (s.leftBehind i t) (s.arrived i t p a clamped) := by
    refine spares_place passage tr (hp.imp_right fun hp => ?_) (fun _ => rfl) fun _ => ⟨rfl, rfl, rfl, rfl, rfl⟩
    rw [platformOk, tables_leftBehind]; exact hp
  exact .trans (.trans (.trans (.trans left placed) (gate (does_endCause _ _ _ (.inl ends)))) (gate (does_endCause _ _ _ (.inl ends))))
    (spares_occupy serve withdraw passage tr _ i p)

theorem does_arriveRunning (s : State) {i : Nat} {t : Train} (hx : s.train? i = some t) (running : t.state.isRunning = true) {p : Nat}
    (a : Nat) (clamped : Bool) (hp : on .rough ∨ s.platformOk p = true) : Does on s (s.arriveRunning i t p a clamped) := by
  rw [arriveRunning_eq, regulate]
  have before := spares_settled serve withdraw ends passage tr s i t a clamped hp
  intro fit
  refine Does.trans before.does (does_beginDwell passage tr _ i _ _ _ ?_) fit
  refine or_iff_not_imp_left.mpr fun smooth => before.aloof smooth (fit.resolve_left smooth) ⟨t, hx, ?_⟩
  constructor <;> intro e <;> rw [e] at running <;> cases running

end

end State

end Sys2Proof.Machine

/-! Departures and the gate's part of a retirement as work of edits (R54, R55, R60). -/

namespace Sys2Proof.Machine
open Sys2Proof

namespace State
variable {on : Work → Prop}

theorem mem_firstBest {α : Type} {better : α → α → Bool} {l : List α} {x : α} (h : firstBest better l = some x) : x ∈ l := by
  cases l with
  | nil => cases h
  | cons y ys =>
    have fold : ∀ (zs : List α) (b : α), zs.foldl (fun best y => if better y best then y else best) b ∈ b :: zs := fun zs => by
      induction zs with
      | nil => exact fun b => List.mem_singleton.mpr rfl
      | cons z zs ih =>
        intro b
        rw [List.foldl_cons]
        rcases List.mem_cons.mp (ih (if better z b then z else b)) with same | later
        · rw [same]
          split
          · exact List.mem_cons_of_mem _ (List.mem_cons_self ..)
          · exact List.mem_cons_self ..
        · exact List.mem_cons_of_mem _ (List.mem_cons_of_mem _ later)
    cases h
    exact fold ys y

/-- The successor of an occupant that leaves, where there is one, is another train that waits (R53). -/
theorem promote_cases (s : State) (i p : Nat) :
    (s.waiters i p = [] ∧ s.promote i p = (s.modPlatform p fun x => { x with occupant := none }, false)) ∨
    ∃ w ∈ s.waiters i p, s.promote i p = ((s.modPlatform p fun x => { x with occupant := some (s.handle w.1) }).modTrain w.1 fun t =>
      { t with holds := { t.holds with conflict := false } }, true) := by
  unfold promote
  cases h : firstBest (fun a b : Nat × Train => decide (diff (b.2.lastArr.getD s.lineTime) s.lineTime <
      diff (a.2.lastArr.getD s.lineTime) s.lineTime)) (s.waiters i p) with
  | none =>
    refine .inl ⟨?_, rfl⟩
    cases hw : s.waiters i p with
    | nil => rfl
    | cons w ws => rw [hw] at h; cases h
  | some w => exact .inr ⟨w, mem_firstBest h, rfl⟩

theorem mem_waiters {s : State} {i p : Nat} {w : Nat × Train} : w ∈ s.waiters i p ↔
    w ∈ s.liveTrains ∧ w.1 ≠ i ∧ waitsAt w.2 p = true := by
  simp [waiters, List.mem_filter]

/-- What a promotion leaves of the train that leaves, and of the gate. -/
theorem promote_self (s : State) (i p : Nat) : (s.promote i p).1.train? i = s.train? i ∧ (s.promote i p).1.handle i = s.handle i ∧
    (s.promote i p).1.substations = s.substations := by
  rcases s.promote_cases i p with ⟨-, h⟩ | ⟨w, hw, h⟩
  · rw [h]; exact ⟨rfl, rfl, rfl⟩
  · rw [h]
    exact ⟨train?_modTrain_ne _ _ (mem_waiters.mp hw).2.1, handle_modTrain _ _ _ _, rfl⟩

section
variable (passage : on .passage) (tr : on .trains)
include passage tr

theorem does_promote (s : State) (i p : Nat) : Does on s (s.promote i p).1 := by
  rcases s.promote_cases i p with ⟨-, h⟩ | ⟨w, -, h⟩
  · rw [h]; exact does_occupant passage s p _
  · rw [h]
    refine .trans ?_ (does_conflict tr _ w.1 false)
    exact does_occupant passage s p _

theorem does_approachCheck (s : State) (i : Nat) {n : Nat} (hn : on .rough ∨ n < Config.platformEntries) :
    Does on s (s.approachCheck i n) := by
  unfold approachCheck
  split
  · exact .refl s
  · dsimp only
    split
    · exact .refl s
    · split
      · exact .refl s
      · split
        · exact does_announceApproach tr s i hn
        · exact .of_gate (.train i _ (.inr fun y _ => ⟨⟨.inl tr, rfl, rfl, fun h => h, .inr fun _ _ h => h, fun _ _ _ => .inr (.inr passage),
            fun _ _ _ => .inr passage, fun _ _ _ => .inr passage, rfl⟩, Iff.rfl⟩))

end

theorem does_judgeConflict (ends : on .ends) (s : State) (i p : Nat) (stopped : Bool) : Does on s (s.judgeConflict i p stopped) := by
  unfold judgeConflict
  split
  · exact s.does_endCause _ _ (.inl ends)
  · exact .refl s

/-- A train may set off: it is not WAITING PERMIT, or it is about to leave its wait without an entry. -/
def MayLeave (on : Work → Prop) (s : State) (i : Nat) : Prop :=
  on .rough ∨ (∃ x, s.train? i = some x ∧ x.state ≠ .waiting) ∨ on (.leave i) ∧ (on .loose ∨ s.NoEntry i)

theorem noEntry_of_substations {s t : State} {i : Nat} (h : t.substations = s.substations) (none : s.NoEntry i) : t.NoEntry i :=
  fun k e he => none k e (by rw [substation, h] at he; exact he)

theorem MayLeave.congr {s t : State} {i : Nat} (h : MayLeave on s i) (train : t.train? i = s.train? i)
    (subs : t.substations = s.substations) : MayLeave on t i := by
  unfold MayLeave
  rw [train]
  exact h.imp_right (Or.imp_right (And.imp_right (Or.imp_right (noEntry_of_substations subs))))

section
variable (passage : on .passage) (tr : on .trains)
include passage tr

/-- The train sets off (R54 steps 3 to 6). -/
theorem does_setOff {s : State} {i : Nat} (h : MayLeave on s i) (f : Train → Train) (alike : ∀ x, Alike x (f x))
    (running : ∀ x, (f x).state = .running) (owed : ∀ x, (f x).owed = x.owed := by intro; rfl) : Does on s (s.modTrain i f) := by
  have change : ∀ x, TrainChange on s x (f x) := fun x =>
    ⟨.inl tr, (alike x).vehicle, (alike x).saved, by rw [(alike x).service]; exact id, .inr fun _ _ => (alike x).within,
      fun _ _ _ => .inr (.inr passage), fun _ _ _ => .inr passage, fun _ _ _ => .inr passage, owed x⟩
  rcases h with rough | ⟨x, hx, free⟩ | ⟨leave, gone⟩
  · exact .of_gate (.train i f (.inl rough))
  · refine .of_gate (.train i f (.inr fun y hy => ⟨change y, ?_⟩))
    cases hx.symm.trans hy
    rw [running]
    exact ⟨fun e => (nomatch e), fun e => absurd e free⟩
  · exact .of_gate (.leave i f leave (.inr fun y _ => ⟨change y, by rw [running]; decide⟩) (.inr gone))

/-- The platform a train departs from is left: the departure recorded, its occupant promoted (R53, R54). -/
def vacated (s : State) (i p a : Nat) : State × Bool :=
  let u := s.modPlatform p fun x => { x with lastDep := some a }
  if u.isOccupant i p then u.promote i p else (u, false)

/-- The train has set off (R54 steps 1 to 6). -/
def departed (s : State) (i p a : Nat) (clamped : Bool) : State :=
  let v := s.vals p
  let predicted := later a v.run
  (s.vacated i p a).1.modTrain i fun t =>
    { t with lastDep := some a, holds := t.holds.afterDeparture, depTime := none, depDl := none, permitReq := none,
             schedArr := later t.schedArr ((v.d0 + v.run : Nat) : Int), predicted := some predicted,
             overdueDl := some (s.overdueDeadline predicted), timeClamped := clamped, state := .running }

omit passage tr in
theorem departFrom_eq (s : State) (i : Nat) (t : Train) (p a : Nat) (clamped : Bool) : s.departFrom i t p a clamped =
    (((s.departed i p a clamped).modSect (s.runSectionOf t) fun x => { x with occupants := x.occupants + 1 }).judgeConflict i p
      ((s.vacated i p a).2 || waitsAt t p)).approachCheck i (s.next p) := rfl

omit passage tr in
/-- The departing train and the gate as its platform is left. -/
theorem vacated_self (s : State) (i p a : Nat) : (s.vacated i p a).1.train? i = s.train? i ∧ (s.vacated i p a).1.handle i = s.handle i ∧
    (s.vacated i p a).1.substations = s.substations := by
  unfold vacated
  dsimp only
  split
  · exact promote_self _ i p
  · exact ⟨rfl, rfl, rfl⟩

theorem does_vacated (departs : on .departs) (s : State) (i p a : Nat) : Does on s (s.vacated i p a).1 := by
  have left : Does on s (s.modPlatform p fun x => { x with lastDep := some a }) :=
    .of_record (.ring p _ passage (fun _ => ⟨rfl, rfl, rfl, rfl⟩) (.inl departs) (.inr fun _ => rfl))
  unfold vacated
  dsimp only
  split
  · exact left.trans (does_promote passage tr _ i p)
  · exact left

theorem does_departed (departs : on .departs) (s : State) (i p a : Nat) (clamped : Bool) (h : MayLeave on s i) :
    Does on s (s.departed i p a clamped) := by
  obtain ⟨train, -, subs⟩ := s.vacated_self i p a
  exact (does_vacated passage tr departs s i p a).trans
    (does_setOff passage tr (h.congr train subs) _ (fun _ => ⟨rfl, rfl, rfl, rfl, rfl⟩) fun _ => rfl)

theorem does_departFrom (departs : on .departs) (ends : on .ends) (s : State) (i : Nat) (t : Train) (p a : Nat) (clamped : Bool) (h : MayLeave on s i) :
    Does on s (s.departFrom i t p a clamped) := by
  refine .of_ready fun r => ?_
  rw [departFrom_eq]
  exact .trans (.trans (.trans (does_departed passage tr departs s i p a clamped h) (does_occupants passage _ _ (· + 1)))
    (does_judgeConflict ends _ i p _)) (does_approachCheck passage tr _ i (ready_or on r fun r => r.next_lt p))

end

/-- A train whose entries have gone has none. -/
theorem noEntry_dropEntries {s : State} (hs : s.Sized) (h : s.QueuesOk) (i : Nat) : (s.dropEntries (s.handle i)).NoEntry i := by
  intro k e he own
  rw [queue_dropEntries s hs] at he
  obtain ⟨mem, other⟩ := List.mem_filter.mp he
  exact absurd (h.train_eq mem own) (by simpa using other)

/-- A train WAITING PERMIT leaves its queue, which is served (R55). -/
def outOfWait (s : State) (i : Nat) (t : Train) : State :=
  if t.state = .waiting then serveChanged s (s.dropEntries (s.handle i)) else s

theorem departTrain_eq (s : State) (i : Nat) (t : Train) (p a : Nat) (clamped : Bool) : s.departTrain i t p a clamped =
    if t.state = .released then (s.outOfWait i t).departFrom i t p a clamped
    else ((s.outOfWait i t).departFrom i t p a clamped).autoRaise .unauthorised (.train (s.handle i)) 5 := rfl

section
variable (serve : on .serve) (withdraw : on .withdraw) (ends : on .ends) (passage : on .passage) (tr : on .trains)
include serve withdraw ends passage tr

omit withdraw ends passage tr in
theorem does_outOfWait (s : State) (i : Nat) (t : Train) (leave : on (.leave i)) : Does on s (s.outOfWait i t) := by
  unfold outOfWait
  split
  · exact .trans (.of_gate (.dropEntries _ leave)) (does_serveChanged serve s _)
  · exact .refl s

omit serve withdraw ends passage tr in
/-- Out of the queues a train WAITING PERMIT stays as it is, with no entry. -/
theorem outOfWait_waiting {s : State} {i : Nat} {t : Train} (r : s.Ready) (q : s.QueuesOk) (hx : s.train? i = some t)
    (waiting : t.state = .waiting) : (s.outOfWait i t).NoEntry i ∧ ∃ o, (s.outOfWait i t).train? i = some { t with owed := o } := by
  have drop : Edit (fun w => w = .leave i) s (s.dropEntries (s.handle i)) := .gate (.dropEntries _ rfl)
  have mid : (s.dropEntries (s.handle i)).Ready := drop.ready Work.noConfusion r
  have run := does_serveChanged (on := serveWork fun _ => False) trivial s (s.dropEntries (s.handle i)) (.inr mid)
  rw [outOfWait, if_pos waiting]
  exact run.waits_unqueued id id mid id id ((train?_dropEntries ..).trans hx) waiting (noEntry_dropEntries r.1.sized q i)

omit serve withdraw ends passage tr in
theorem mayLeave_outOfWait {s : State} {i : Nat} {t : Train} (hx : s.train? i = some t) (leave : on (.leave i))
    (h : on .rough ∨ on .loose ∨ s.QueuesOk) (fit : on .rough ∨ s.Ready) : MayLeave on (s.outOfWait i t) i := by
  by_cases waiting : t.state = .waiting
  · refine or_iff_not_imp_left.mpr fun smooth => .inr ⟨leave, or_iff_not_imp_left.mpr fun tight => ?_⟩
    exact (outOfWait_waiting (fit.resolve_left smooth) ((h.resolve_left smooth).resolve_left tight) hx waiting).1
  · rw [outOfWait, if_neg waiting]
    exact .inr (.inl ⟨t, hx, waiting⟩)

theorem does_departTrain (departs : on .departs) (s : State) {i : Nat} {t : Train} (hx : s.train? i = some t) (p a : Nat) (clamped : Bool)
    (leave : on (.leave i)) (h : on .rough ∨ on .loose ∨ s.QueuesOk) : Does on s (s.departTrain i t p a clamped) := by
  intro fit
  have mid := (does_outOfWait serve s i t leave).trans
    (does_departFrom passage tr departs ends _ i t p a clamped (mayLeave_outOfWait hx leave h fit))
  rw [departTrain_eq]
  split
  · exact mid fit
  · exact (mid.trans (does_autoRaise serve withdraw _ _ _ _)) fit

omit withdraw in
theorem does_retireFromGate (s : State) (i : Nat) (t : Train) (leave : on (.leave i)) : Does on s (s.retireFromGate i t) := by
  unfold retireFromGate
  dsimp only
  have first : Does on s (serveChanged s ((s.dropEntries (s.handle i)).dropLeaseOf i)) :=
    .trans (.trans (.of_gate (.dropEntries _ leave)) (does_dropLeaseOf tr _ i)) (does_serveChanged serve s _)
  generalize serveChanged s ((s.dropEntries (s.handle i)).dropLeaseOf i) = s1 at first ⊢
  split
  · exact first.trans (does_occupants passage _ _ (· - 1))
  · split
    · refine .trans (first.trans ?_) (does_judgeConflict ends _ i _ _)
      split
      · exact does_promote passage tr _ i _
      · exact .refl _
    · exact first

end

end State

end Sys2Proof.Machine

/-! The requests, the status frames and the dropped reports as work of edits. -/

namespace Sys2Proof.Machine
open Sys2Proof

namespace State
variable {on : Work → Prop}

/-! ### Trains (R46 to R48) -/

theorem within_amendFields {s : State} {x : Train} {origin : Option Nat} (hp : okIfGiven s.originOk origin = true)
    {ok : Nat → Prop} (all : ∀ p, s.platformOk p = true → ok p) (h : x.Within ok) {u : Train} (place : u.position = x.position)
    (from_ : u.origin = origin.getD x.origin) : u.Within ok := by
  refine ⟨?_, fun p hx => h.2 p (place ▸ hx)⟩
  rw [from_]
  cases origin with
  | none => exact h.1
  | some o => exact all o (Bool.and_eq_true_iff.mp hp).1

section
variable (tr : on .trains)
include tr

theorem does_amendFields (s : State) (i : Nat) {service origin tripStart : Option Nat} (hs : okIfGiven serviceOk service = true)
    (ho : okIfGiven s.originOk origin = true) : Does on s (s.amendFields i service origin tripStart) := by
  refine .of_gate (.train i _ (.inr fun x _ => ⟨⟨.inl tr, rfl, rfl, fun range => ?_, ?_, fun _ hy hd => .inl ⟨hy, hd⟩,
    fun _ hy hd => .inl ⟨hy, hd⟩, fun _ hy hd => .inl ⟨hy, hd⟩, rfl⟩, Iff.rfl⟩))
  · cases service with
    | none => exact range
    | some n =>
      obtain ⟨low, high⟩ := Bool.and_eq_true_iff.mp hs
      exact ⟨of_decide_eq_true low, of_decide_eq_true high⟩
  · exact .inr fun _ all within => within_amendFields ho all within rfl rfl

/-- The manual hold of a train set or cleared where the gate is not concerned. -/
theorem does_manualHold (s : State) (i : Nat) (b : Bool) :
    Does on s (s.modTrain i fun t => { t with holds := { t.holds with manual := b } }) :=
  does_modTrain tr s i _ (fun _ => ⟨rfl, rfl, rfl, rfl, rfl⟩) (fun _ => rfl) (fun _ => .inl rfl) (fun _ => .inl rfl) fun _ => .inl rfl

variable (serve : on .serve) (withdraw : on .withdraw)
include serve withdraw

theorem does_amendManual (s : State) (i : Nat) (manual : Option Bool) : Does on s (s.amendManual i manual) := by
  unfold amendManual
  split
  · exact .refl s
  · unfold setManual
    split
    · exact .refl s
    · next t hx =>
      split
      · exact .refl s
      · split
        · next waiting => exact (s.does_withdraw withdraw i _ (.inr ⟨t, hx, waiting⟩)).trans (does_serveChanged serve s _)
        · exact does_manualHold tr s i true
  · unfold clearManual
    split
    · exact .refl s
    · split
      · exact does_manualHold tr s i false
      · exact .refl s

omit serve in
theorem does_forceDeparture (s : State) {i : Nat} {t : Train} (hx : s.train? i = some t) (may : mayForce t = true) :
    Does on s (s.forceDeparture i t) := by
  unfold forceDeparture
  have amended : Does on s (s.modTrain i fun t => { t with holds := { t.holds with manual := false }, depTime := some s.lineTime }) :=
    does_modTrain tr s i _ (fun _ => ⟨rfl, rfl, rfl, rfl, rfl⟩) (fun _ => rfl) (fun _ => .inl rfl) (fun _ => .inl rfl) fun _ => .inl rfl
  have train := train?_modTrain_of hx fun t => { t with holds := { t.holds with manual := false }, depTime := some s.lineTime }
  dsimp only
  split
  · next dwelling =>
    refine amended.trans (does_scheduleCheckUnder _ _ (.inr ⟨_, train, ?_, .inl tr⟩))
    show t.state ≠ .waiting
    rw [dwelling]; decide
  · next other =>
    have isHeld : t.state = .held := by
      simp only [mayForce, Bool.or_eq_true, beq_iff_eq, Bool.and_eq_true] at may
      exact (may.resolve_left other).1.1
    split
    · exact amended.trans (does_holdRemovalCheck withdraw _ _ (.inr ⟨_, train, isHeld⟩))
    · exact amended

end

/-! ### Incidents (R124 to R136) -/

section
variable (command : on .command)
include command

theorem does_amendSeverity (s : State) {i : Nat} (live : on .rough ∨ (s.incident? i).isSome = true) (v : Option Nat) :
    Does on s (s.amendSeverity i v) := by
  unfold amendSeverity
  split
  · exact .refl s
  · split
    · exact .refl s
    · exact s.does_changeSeverity i _ live (.inr (.inl command))

theorem does_amendAnnouncement (s : State) (i : Nat) (ann : Option (Option IncidentAnn)) : Does on s (s.amendAnnouncement i ann) := by
  unfold amendAnnouncement
  split
  · exact .refl s
  · next a =>
    refine .of_record (.incident i _ fun c _ => ⟨.inr fun old p hp => ?_, fun _ hs he => .inl ⟨hs, he⟩, fun _ => .inl command, .inl command,
      fun _ => .inr (.inl command)⟩)
    cases a with
    | none => exact absurd hp List.not_mem_nil
    | some a => exact old p (List.mem_filter.mp hp).1

theorem does_acknowledgeIncident (s : State) (i : Nat) (c : Incident) : Does on s (s.acknowledgeIncident i c) := by
  have first : Does on s (s.modIncident i fun c => { c with ackTime := some s.lineTime, escDl := none }) :=
    .of_record (.incident i _ fun c _ => ⟨.inr fun old => old, fun _ _ he => (nomatch he), fun _ => .inl command, .inl command,
      fun _ => .inr (.inl command)⟩)
  unfold acknowledgeIncident
  dsimp only
  split
  · exact first.trans (does_enterCleared _ i (.inl command))
  · exact first.trans (.of_record (.incident i _ fun c _ => ⟨.inr fun old => old, fun _ hs _ => (nomatch hs), fun _ => .inl command, .inl command,
      fun _ => .inr (.inl command)⟩))

theorem does_retireIncident (s : State) {i : Nat} (live : (s.incident? i).isSome = true) : Does on s (s.retireIncident i) := by
  have same : ∀ f, (s.mapAnns f).incident? i = s.incident? i := fun f =>
    foldl_keeps (P := fun t : State => t.incident? i = s.incident? i)
      (fun t e ht => (incident?_modAnn t e.1 f i).trans ht) _ rfl
  refine .trans (s.does_mapAnns (fun a => ?_) fun a => ?_) (.of_record (.dropIncident i command (same _ ▸ live)))
  · split <;> rfl
  · split <;> exact ⟨rfl, rfl⟩

omit command in
theorem does_amendRestriction (serve : on .serve) (withdraw : on .withdraw) (s : State) (i : Nat) (r : Option (Option Restriction)) :
    Does on s (s.amendRestriction i r) := by
  unfold amendRestriction
  split
  · exact .refl s
  · refine .trans (.trans ?_ (does_holdsBegin serve withdraw s _)) (does_holdsStop s _)
    exact s.does_modIncident i _ (fun _ => ⟨rfl, rfl, rfl, rfl⟩) fun _ => .inr fun _ => .inl

/-! ### Announcements (R147, R148) -/

omit command in
theorem does_amendAnn (s : State) (i : Nat) (message minutes : Option Nat) (mode : Option Mode) :
    Does on s (s.amendAnn i message minutes mode) := by
  unfold amendAnn
  split
  · exact .refl s
  · exact s.does_modAnn i _ (fun _ => rfl) fun _ h => ⟨h, rfl⟩

end

/-! ### Reports that no train takes, and PLATFORM ALARM (R49, R127) -/

theorem does_dropReport (s : State) : Does on s s.dropReport := s.does_latch _

theorem does_foreignPassage (passage : on .passage) (foreign : on .foreign) (s : State) (v p t : Nat) :
    Does on s (s.foreignPassage v p t) :=
  .trans (.of_record (.ring p (fun x => { x with lastForeign := some (v, t) }) passage (fun _ => ⟨rfl, rfl, rfl, rfl⟩) (.inr fun _ => rfl)
    (.inl foreign))) (does_latch _ _)

theorem does_takeAlarm (serve : on .serve) (withdraw : on .withdraw) (ends : on .ends) (s : State) (p : Nat) (b : Bool) (v : Nat) :
    Does on s (s.takeAlarm p b v) := by
  unfold takeAlarm
  split
  · split
    · exact does_autoRaise serve withdraw _ _ _ _
    · exact s.does_dropReport
  · exact s.does_endCause _ _ (.inl ends)

theorem does_takeArrive (serve : on .serve) (withdraw : on .withdraw) (ends : on .ends) (passage : on .passage) (tr : on .trains) (s : State) {p i : Nat}
    {t : Train} (hx : s.train? i = some t) (a : Nat) (clamped : Bool) (hp : on .rough ∨ s.platformOk p = true) :
    Does on s (s.takeArrive p i t a clamped) := by
  unfold takeArrive
  split
  · next awaiting =>
    split
    · next here => subst here; exact does_arriveAtOrigin serve withdraw passage tr s hx awaiting a clamped hp
    · exact s.does_dropReport
  · next running =>
    split
    · exact does_arriveRunning serve withdraw ends passage tr s hx (by rw [running]; rfl) a clamped hp
    · exact s.does_dropReport
  · next overdue =>
    split
    · exact does_arriveRunning serve withdraw ends passage tr s hx (by rw [overdue]; rfl) a clamped hp
    · exact s.does_dropReport
  all_goals exact s.does_dropReport

/-! ### Pattern Control (R117) -/

theorem does_setBudgets (budgets : on .budgets) (s : State) (q : Nat) : Does on s (s.setBudgets q) :=
  .foldl (f := fun (t : State) k => t.modSubstation k fun b => { b with budget := (s.patternLine q).budgets.getD k 0 }) _
    (fun _ k _ => .of_record (.substation k _ (fun _ => ⟨rfl, rfl, rfl⟩) (.inr fun _ => rfl) (.inl budgets))) s

end State

end Sys2Proof.Machine

/-! What a command keeps (R14, R16, R18, R28, R43 to R45, R162), and which parts of the ring it moves. -/

namespace Sys2Proof.Machine
open Sys2Proof

/-- The invariants of the trains, the queues and the tables, from `s` to `t`. -/
structure Keeps (s t : State) : Prop where
  sound      : s.Sound → t.Sound
  queues     : s.Sound → s.QueuesOk → t.QueuesOk
  configured : s.Sound → s.Configured → t.Configured
  waiters    : s.Sound → s.QueuesOk → s.Configured → s.WaitersQueued → t.WaitersQueued
  vehicles   : s.Sound → s.VehiclesOnce → s.CapsOk → t.VehiclesOnce
  caps       : s.Sound → s.CapsOk → t.CapsOk
  saves      : s.Sound → s.Configured → s.SavesOk → t.SavesOk

theorem Keeps.trans {s t u : State} (a : Keeps s t) (b : Keeps t u) : Keeps s u where
  sound h := b.sound (a.sound h)
  queues h q := b.queues (a.sound h) (a.queues h q)
  configured h c := b.configured (a.sound h) (a.configured h c)
  waiters h q c w := b.waiters (a.sound h) (a.queues h q) (a.configured h c) (a.waiters h q c w)
  vehicles h v c := b.vehicles (a.sound h) (a.vehicles h v c) (a.caps h c)
  caps h c := b.caps (a.sound h) (a.caps h c)
  saves h c v := b.saves (a.sound h) (a.configured h c) (a.saves h c v)

/-- The platforms keep their occupants, last departures and last foreign passages, but for what `on` allows. -/
structure RingKept (on : Work → Prop) (s t : State) : Prop where
  occupant    : on .passage ∨ ∀ p, (t.platform p).occupant = (s.platform p).occupant
  lastDep     : on .departs ∨ ∀ p, (t.platform p).lastDep = (s.platform p).lastDep
  lastForeign : on .foreign ∨ ∀ p, (t.platform p).lastForeign = (s.platform p).lastForeign

theorem RingKept.trans {on : Work → Prop} {s t u : State} (a : RingKept on s t) (b : RingKept on t u) : RingKept on s u where
  occupant := a.occupant.elim .inl fun h => b.occupant.imp_right fun k p => (k p).trans (h p)
  lastDep := a.lastDep.elim .inl fun h => b.lastDep.imp_right fun k p => (k p).trans (h p)
  lastForeign := a.lastForeign.elim .inl fun h => b.lastForeign.imp_right fun k p => (k p).trans (h p)

theorem RingKept.of_same {on : Work → Prop} {s t : State} (h : ∀ p, (t.platform p).occupant = (s.platform p).occupant ∧
    (t.platform p).lastDep = (s.platform p).lastDep ∧ (t.platform p).lastForeign = (s.platform p).lastForeign) : RingKept on s t :=
  ⟨.inr fun p => (h p).1, .inr fun p => (h p).2.1, .inr fun p => (h p).2.2⟩

namespace State
variable {on : Work → Prop}

theorem platforms_of_same {s t : State} (h : t.platforms = s.platforms) : RingKept on s t :=
  .of_same fun p => by rw [platform, platform, h]; exact ⟨rfl, rfl, rfl⟩

theorem ring_modPlatform (s : State) (p : Nat) (f : Platform → Platform) (occupant : on .passage ∨ ∀ x, (f x).occupant = x.occupant)
    (dep : on .departs ∨ ∀ x, (f x).lastDep = x.lastDep) (foreign : on .foreign ∨ ∀ x, (f x).lastForeign = x.lastForeign) :
    RingKept on s (s.modPlatform p f) where
  occupant := occupant.imp_right fun h => platform_modPlatform_part Platform.occupant s p h
  lastDep := dep.imp_right fun h => platform_modPlatform_part Platform.lastDep s p h
  lastForeign := foreign.imp_right fun h => platform_modPlatform_part Platform.lastForeign s p h

theorem ring_putOwed (s : State) (k : Kind) (loc : Location) (v : Option Nat) : RingKept on s (s.putOwed k loc v) := by
  unfold putOwed
  split
  · exact ring_modPlatform s _ _ (.inr fun _ => rfl) (.inr fun _ => rfl) (.inr fun _ => rfl)
  · exact platforms_of_same rfl
  · exact platforms_of_same rfl
  · split <;> exact platforms_of_same rfl

theorem ring_recordEdit {s t : State} (e : RecordEdit on s t) : RingKept on s t := by
  cases e with
  | player p f h =>
    exact ring_modPlatform s p f (.inr fun x => (h x).occupant) (.inr fun x => (h x).lastDep) (.inr fun x => (h x).lastForeign)
  | ring p f h _ dep foreign => exact ring_modPlatform s p f (.inl h) dep foreign
  | putOwed k loc v => exact s.ring_putOwed k loc v
  | newIncident c t i h | newAnn a t i h => exact platforms_of_same (allocate_rest h).1
  | _ => exact platforms_of_same rfl

theorem ring_gateEdit {s t : State} (e : GateEdit on s t) : RingKept on s t := by
  refine platforms_of_same ?_
  cases e with
  | withdraw i reason => rw [withdrawn, modTrain_platforms]; exact s.platforms_dropEntries _
  | dropEntries h => exact s.platforms_dropEntries h
  | dropLease k h => unfold dropLease; dsimp only; split <;> rfl
  | grantEntry k e => unfold grant; dsimp only; split <;> rfl
  | grantAsked k i w => unfold grant; dsimp only; split <;> rfl
  | _ => rfl

end State

/-- The sections and the substations keep their parts, but for what `on` allows. -/
structure SupplyKept (on : Work → Prop) (s t : State) : Prop where
  parts     : ∀ p, on (.part p) ∨ ∀ i, p.agree (s.sect i) (t.sect i)
  occupants : on .passage ∨ ∀ i, (t.sect i).occupants = (s.sect i).occupants
  up        : on .up ∨ ∀ k, (t.substation k).up = (s.substation k).up
  budget    : on .budgets ∨ ∀ k, (t.substation k).budget = (s.substation k).budget

theorem SectPart.agree_trans {p : SectPart} {x y z : Sect} (a : p.agree x y) (b : p.agree y z) : p.agree x z := by
  cases p <;> exact Eq.trans b a

theorem SectPart.agree_of_core {p : SectPart} {x y : Sect} (h : y.core = x.core) : p.agree x y := by
  have cores : p.agree x.core y.core := by rw [h]; cases p <;> rfl
  cases p <;> exact cores

theorem Calm.substation_core {s t : State} (c : Calm s t) (k : Nat) : (t.substation k).core = (s.substation k).core := by
  have core : ∀ l : List Substation, (l.getD k {}).core = (l.map Substation.core).getD k (true, 1) := fun l => by
    simp only [List.getD_eq_getElem?_getD, List.getElem?_map]
    cases l[k]? <;> rfl
  simp only [State.substation, core, c.supply]

namespace SupplyKept
variable {on : Work → Prop} {s t u : State}

theorem trans (a : SupplyKept on s t) (b : SupplyKept on t u) : SupplyKept on s u where
  parts p := (a.parts p).elim .inl fun h => (b.parts p).imp_right fun k i => SectPart.agree_trans (h i) (k i)
  occupants := a.occupants.elim .inl fun h => b.occupants.imp_right fun k i => (k i).trans (h i)
  up := a.up.elim .inl fun h => b.up.imp_right fun k i => (k i).trans (h i)
  budget := a.budget.elim .inl fun h => b.budget.imp_right fun k i => (k i).trans (h i)

theorem of_cores (sects : ∀ i, (t.sect i).core = (s.sect i).core) (subs : ∀ k, (t.substation k).core = (s.substation k).core) :
    SupplyKept on s t where
  parts _ := .inr fun i => SectPart.agree_of_core (sects i)
  occupants := .inr fun i => (by rw [sects] : (t.sect i).core.occupants = (s.sect i).core.occupants)
  up := .inr fun k => congrArg Prod.fst (subs k)
  budget := .inr fun k => congrArg Prod.snd (subs k)

theorem of_same (sects : t.sects = s.sects) (subs : t.substations = s.substations) : SupplyKept on s t :=
  of_cores (fun i => by rw [State.sect, State.sect, sects]) fun k => by rw [State.substation, State.substation, subs]

theorem of_calm (c : Calm s t) : SupplyKept on s t := of_cores c.sect_core c.substation_core

end SupplyKept

/-- The links keep their parts, but for what `on` allows. -/
def LinksKept (on : Work → Prop) (s t : State) : Prop := ∀ p, on (.link p) ∨ p.agree s.links t.links

theorem LinksKept.trans {on : Work → Prop} {s t u : State} (a : LinksKept on s t) (b : LinksKept on t u) : LinksKept on s u := fun p =>
  (a p).elim .inl fun h => (b p).imp_right fun k => by cases p <;> exact Eq.trans k h

theorem LinksKept.of_same {on : Work → Prop} {s t : State} (h : t.links = s.links) : LinksKept on s t := fun p =>
  .inr (by rw [h]; cases p <;> rfl)

/-- The work of events moves nothing of the links but the queue of directives. -/
theorem Steady.linksKept {on : Work → Prop} {s t : State} (c : Steady s t) : LinksKept on s t := fun p => by
  have links : p.agree { s.links with queue := [] } { t.links with queue := [] } := by rw [c.links]; cases p <;> rfl
  exact .inr (by cases p <;> exact links)

namespace State

theorem supply_edit {on : Work → Prop} {s t : State} (e : Edit on s t) : SupplyKept on s t := by
  cases e with
  | record e =>
    cases e with
    | sect i f parts occupants =>
      have same : (s.modSect i f).substations = s.substations := rfl
      refine ⟨fun p => ?_, occupants.imp_right fun h => sect_modSect_part (fun x : Sect => x.occupants) s i h,
        .inr fun k => rfl, .inr fun k => rfl⟩
      refine or_iff_not_imp_left.mpr fun off j => ?_
      rw [sect_modSect]
      split
      · exact (parts _ p).resolve_left off
      · cases p <;> rfl
    | substation k f _ up budget =>
      exact ⟨fun p => .inr fun _ => by cases p <;> rfl, .inr fun _ => rfl,
        up.imp_right fun h => substation_modSubstation_part (fun b : Substation => b.up) s k h,
        budget.imp_right fun h => substation_modSubstation_part (fun b : Substation => b.budget) s k h⟩
    | attention f mask lines => exact .of_same rfl rfl
    | putOwed k loc v => exact .of_calm (s.calm_putOwed k loc v)
    | newIncident c t i h | newAnn a t i h =>
      obtain ⟨-, sects, subs, -⟩ := allocate_rest h
      exact .of_same sects subs
    | _ => exact .of_same rfl rfl
  | gate e =>
    cases e with
    | train i f | leave i f => exact .of_same rfl rfl
    | grantEntry k e => exact .of_calm (s.calm_grant k e.train e.weight)
    | grantAsked k i w => exact .of_calm (s.calm_grant k (s.handle i) w)
    | enqueue k i w => exact .of_calm (s.calm_queueUp k i w)
    | withdraw i r => exact .of_calm (s.calm_withdrawn i r)
    | dropEntries h => exact .of_calm (s.calm_dropEntries h)
    | dropLease k h => exact .of_calm (s.calm_dropLease k h)
    | waitGone k h => exact .of_calm (s.calm_waitGone k h)
    | moveRequests i g r => exact .of_calm (s.calm_moveRequests i g r)

end State

theorem Run.supply {on : Work → Prop} {s t : State} (r : Run on s t) : SupplyKept on s t := by
  induction r with
  | refl => exact .of_same rfl rfl
  | tail _ e ih => exact ih.trans (State.supply_edit e)

theorem Run.ring {on : Work → Prop} {s t : State} (r : Run on s t) : RingKept on s t := by
  induction r with
  | refl => exact State.platforms_of_same rfl
  | tail _ e ih =>
    refine ih.trans ?_
    cases e with
    | record e => exact State.ring_recordEdit e
    | gate e => exact State.ring_gateEdit e

end Sys2Proof.Machine

/-! What a command comes to: work of edits while OPERATING, and moves of other parts of the state. -/

namespace Sys2Proof.Machine
open Sys2Proof

/-- What a command keeps, and what it moves of the ring, of the supply and of the train list. -/
structure Course (on : Work → Prop) (lists : Prop) (s t : State) : Prop where
  keeps  : Keeps s t
  ring   : RingKept on s t
  supply : SupplyKept on s t
  links  : LinksKept on s t
  list   : lists ∨ t.pool.trains = s.pool.trains

theorem Course.trans {on : Work → Prop} {lists : Prop} {s t u : State} (a : Course on lists s t) (b : Course on lists t u) :
    Course on lists s u :=
  ⟨a.keeps.trans b.keeps, a.ring.trans b.ring, a.supply.trans b.supply, a.links.trans b.links, a.list.elim .inl fun h => b.list.imp_right fun k => k.trans h⟩

/-- The kinds of work of an event: those on the ring and the supply that `ring` allows, those that leave a wait for the slots that `leaving` names. -/
def eventWork (ring : Work → Prop) (rough loose : Prop) (leaving : Nat → Prop) : Work → Prop
  | .rough => rough
  | .loose => loose
  | .leave i => leaving i
  | .passage => ring .passage
  | .departs => ring .departs
  | .foreign => ring .foreign
  | .part p => ring (.part p)
  | .up => ring .up
  | .budgets => ring .budgets
  | .link p => ring (.link p)
  | _ => True

/-- The work of an event, whatever is known of the wait queues it begins with. -/
def Works (ring : Work → Prop) (leaving : Nat → Prop) (s t : State) : Prop :=
  ∀ rough loose : Prop, rough ∨ loose ∨ s.QueuesOk → Does (eventWork ring rough loose leaving) s t

namespace Works
variable {ring : Work → Prop} {leaving : Nat → Prop} {s t : State}

/-- Work of a part that is ready. -/
theorem run (w : Works ring leaving s t) (r : s.Ready) : Run (eventWork ring False True leaving) s t := w False True (.inr (.inl trivial)) (.inr r)

/-- Work of a part that is ready, with its queues in order. -/
theorem tight (w : Works ring leaving s t) (r : s.Ready) (q : s.QueuesOk) : Run (eventWork ring False False leaving) s t :=
  w False False (.inr (.inr q)) (.inr r)

theorem ringKept (w : Works ring leaving s t) : RingKept ring s t := by
  have kept := (w True True (.inl trivial) (.inl trivial)).ring
  exact ⟨kept.occupant, kept.lastDep, kept.lastForeign⟩

theorem supplyKept (w : Works ring leaving s t) : SupplyKept ring s t := by
  have kept := (w True True (.inl trivial) (.inl trivial)).supply
  exact ⟨kept.parts, kept.occupants, kept.up, kept.budget⟩

theorem linksKept (w : Works ring leaving s t) : LinksKept ring s t :=
  (w True True (.inl trivial) (.inl trivial)).steady.linksKept

theorem trains (w : Works ring leaving s t) : t.pool.trains = s.pool.trains := (w True True (.inl trivial) (.inl trivial)).trains

theorem queuesOk (w : Works ring leaving s t) (r : s.Ready) (q : s.QueuesOk) : t.QueuesOk := (w.tight r q).queuesOk id id r q

theorem keeps (w : Works ring leaving s t) (op : s.part = .operating)
    (stop : s.Ready → s.QueuesOk → ∀ i, leaving i → ∀ y, t.train? i = some y → y.state ≠ .waiting) : Keeps s t where
  sound h := ((w.run ⟨h, op⟩).ready id ⟨h, op⟩).1
  queues h q := w.queuesOk ⟨h, op⟩ q
  configured h c := (w.run ⟨h, op⟩).configured id ⟨h, op⟩ c
  waiters h q c all := by
    have r : s.Ready := ⟨h, op⟩
    have but := (w.tight r q).waitersBut id r c ((State.waitersBut_none.mpr all).mono fun _ => False.elim)
    exact fun i y hy waiting => but i y hy waiting fun leaves => stop r q i leaves y hy waiting
  vehicles h v _ := (w.run ⟨h, op⟩).vehiclesOnce id ⟨h, op⟩ v
  caps h c := (w.run ⟨h, op⟩).capsOk id ⟨h, op⟩ c
  saves h _ v := (w.run ⟨h, op⟩).savesOk id ⟨h, op⟩ v

theorem course (w : Works ring (fun _ => False) s t) (op : s.part = .operating) {lists : Prop} : Course ring lists s t :=
  ⟨w.keeps op fun _ _ _ => False.elim, w.ringKept, w.supplyKept, w.linksKept, .inr w.trains⟩

end Works

/-- A move of the state that leaves the lists, the wait queues and the states and identities of the trains as they stand. -/
structure Alongside (s t : State) : Prop where
  sound      : s.Sound → t.Sound
  configured : s.Sound → s.Configured → t.Configured
  entries    : ∀ k, ((t.substation k).queue.map Entry.train).Sublist ((s.substation k).queue.map Entry.train)
  stay       : s.part = .unconfigured ∨ ∀ k, (t.substation k).queue.map Entry.train = (s.substation k).queue.map Entry.train
  forth      : ∀ i x, s.train? i = some x → ∃ y, t.train? i = some y ∧ y.state = x.state
  back       : ∀ i y, t.train? i = some y → ∃ x, s.train? i = some x ∧ y.state = x.state ∧ y.vehicle = x.vehicle
  handles    : ∀ i, t.handle i = s.handle i
  trains     : t.pool.trains = s.pool.trains
  incidents  : t.pool.incidents = s.pool.incidents
  queues     : t.pool.queues = s.pool.queues

namespace Alongside
variable {s t : State}

theorem queue (a : Alongside s t) (p : Nat) : t.queue p = s.queue p := by rw [State.queue, State.queue, a.queues]

theorem keeps (a : Alongside s t) (saves : s.Sound → s.Configured → s.SavesOk → t.SavesOk) : Keeps s t where
  sound := a.sound
  queues _ q := State.queuesOk_of_stay q a.entries fun k e _ ⟨handle, x, hx, waiting⟩ => by
    obtain ⟨y, hy, state⟩ := a.forth _ x hx
    exact ⟨(a.handles _).trans handle, y, hy, state.trans waiting⟩
  configured := a.configured
  waiters h _ c w i y hy waiting := by
    obtain ⟨x, hx, state, -⟩ := a.back i y hy
    rcases a.stay with unconfigured | stay
    · have listed := (h.pooled.trains i).mpr (Option.isSome_of_eq_some hx)
      rw [(c.empty unconfigured).1] at listed
      exact absurd listed List.not_mem_nil
    · obtain ⟨k, e, he, own⟩ := w i x hx (state ▸ waiting)
      obtain ⟨f, hf, same⟩ := List.mem_map.mp (stay k ▸ List.mem_map_of_mem (f := Entry.train) he)
      exact ⟨k, f, hf, same.trans (own.trans (a.handles i).symm)⟩
  vehicles _ v _ i j x y hx hy same := by
    obtain ⟨x', hx', -, vx⟩ := a.back i x hx
    obtain ⟨y', hy', -, vy⟩ := a.back j y hy
    exact v i j x' y' hx' hy' (by rw [← vx, ← vy, same])
  caps _ c := ⟨by rw [State.trainCount, a.trains]; exact c.trains, by rw [State.incidentCount, a.incidents]; exact c.incidents,
    fun p => by rw [a.queue]; exact c.queues p⟩
  saves := saves

end Alongside

/-- A move of the state that leaves trains, lists, queues, tables and Pattern Control as they stand. -/
structure Aside (on : Work → Prop) (s t : State) : Prop where
  part        : t.part = s.part
  tables      : t.tables = s.tables
  control     : t.control = s.control
  sects       : t.sects = s.sects
  substations : t.substations = s.substations
  trains      : ∀ i, t.train? i = s.train? i
  handles     : ∀ i, t.handle i = s.handle i
  trainList   : t.pool.trains = s.pool.trains
  incidents   : t.pool.incidents = s.pool.incidents
  queues      : t.pool.queues = s.pool.queues
  ring        : ∀ p, (t.platform p).occupant = (s.platform p).occupant ∧ (t.platform p).lastDep = (s.platform p).lastDep ∧
    (t.platform p).lastForeign = (s.platform p).lastForeign
  links       : LinksKept on s t
  sound       : s.Sound → t.Sound

namespace Aside
variable {on : Work → Prop} {s t u : State}

theorem refl (s : State) : Aside on s s :=
  ⟨rfl, rfl, rfl, rfl, rfl, fun _ => rfl, fun _ => rfl, rfl, rfl, rfl, fun _ => ⟨rfl, rfl, rfl⟩, .of_same rfl, id⟩

theorem trans (a : Aside on s t) (b : Aside on t u) : Aside on s u where
  part := b.part.trans a.part
  tables := b.tables.trans a.tables
  control := b.control.trans a.control
  sects := b.sects.trans a.sects
  substations := b.substations.trans a.substations
  trains i := (b.trains i).trans (a.trains i)
  handles i := (b.handles i).trans (a.handles i)
  trainList := b.trainList.trans a.trainList
  incidents := b.incidents.trans a.incidents
  queues := b.queues.trans a.queues
  ring p := ⟨(b.ring p).1.trans (a.ring p).1, (b.ring p).2.1.trans (a.ring p).2.1, (b.ring p).2.2.trans (a.ring p).2.2⟩
  links := a.links.trans b.links
  sound h := b.sound (a.sound h)

theorem substation (a : Aside on s t) (k : Nat) : t.substation k = s.substation k := by rw [State.substation, State.substation, a.substations]

theorem queue (a : Aside on s t) (p : Nat) : t.queue p = s.queue p := by rw [State.queue, State.queue, a.queues]

theorem configured (a : Aside on s t) (c : s.Configured) : t.Configured where
  checked h := (State.startFailure_congr a.tables).trans (c.checked (a.part ▸ h))
  empty h := by
    obtain ⟨trains, incidents, queues⟩ := c.empty (a.part ▸ h)
    exact ⟨a.trainList.trans trains, a.incidents.trans incidents, fun p => (a.queue p).trans (queues p)⟩
  patterns := a.control.symm ▸ c.patterns
  trains i x hx := by
    simp only [State.platformOk, a.tables]
    exact c.trains i x (a.trains i ▸ hx)

theorem alongside (a : Aside on s t) : Alongside s t where
  sound := a.sound
  configured _ := a.configured
  entries k := by rw [a.substation]
  stay := .inr fun k => by rw [a.substation]
  forth i x hx := ⟨x, (a.trains i).trans hx, rfl⟩
  back i y hy := ⟨y, (a.trains i).symm.trans hy, rfl, rfl⟩
  handles := a.handles
  trains := a.trainList
  incidents := a.incidents
  queues := a.queues

theorem keeps (a : Aside on s t) : Keeps s t := a.alongside.keeps fun _ _ v =>
  { live := fun e he => by rw [a.handles, a.trains]; exact v.live e (a.control ▸ he)
    marked := fun i x hx => by rw [a.control, a.handles]; exact v.marked i x (a.trains i ▸ hx)
    once := a.control.symm ▸ v.once
    order := by rw [a.control, a.trainList]; exact v.order
    clear := a.control.symm ▸ v.clear
    values := a.control.symm ▸ v.values
    services := fun i x hx => v.services i x (a.trains i ▸ hx) }

theorem course (a : Aside on s t) {lists : Prop} : Course on lists s t := ⟨a.keeps, .of_same a.ring, .of_same a.sects a.substations, a.links, .inr a.trainList⟩

/-- Work on the links, the attention, the clock and the responses alone. -/
theorem of_pool (part : t.part = s.part) (tables : t.tables = s.tables) (control : t.control = s.control) (pool : t.pool = s.pool)
    (platforms : t.platforms = s.platforms) (sects : t.sects = s.sects) (substations : t.substations = s.substations)
    (shadows : t.links.shadows.length = s.links.shadows.length) (links : LinksKept on s t)
    (lines : s.attention.lines.length = Config.lineEntries → t.attention.lines.length = Config.lineEntries) : Aside on s t where
  part := part
  tables := tables
  control := control
  sects := sects
  substations := substations
  trains := State.train?_of_pool pool
  handles := State.handle_of_pool pool
  trainList := by rw [pool]
  incidents := by rw [pool]
  queues := by rw [pool]
  ring p := by rw [State.platform, State.platform, platforms]; exact ⟨rfl, rfl, rfl⟩
  links := links
  sound h := by
    obtain ⟨slots, queues, ps, ss, subs, shadowed, lined⟩ := h.sized
    refine State.sound_of_pool_of_sized ⟨by rw [pool]; exact slots, by rw [pool]; exact queues, by rw [platforms]; exact ps,
      by rw [sects]; exact ss, by rw [substations]; exact subs, shadows.trans shadowed, lines lined⟩ (fun op => ?_) pool h
    rw [State.headerGood, tables]
    exact h.header (part ▸ op)

theorem reply (s : State) (r : Response) : Aside on s (s.reply r) := .of_pool rfl rfl rfl rfl rfl rfl rfl rfl (.of_same rfl) id

/-- Work on the links but for the shadows. -/
theorem modLinks (s : State) {f : Links → Links} (h : (f s.links).shadows.length = s.links.shadows.length)
    (parts : ∀ p, on (.link p) ∨ p.agree s.links (f s.links)) : Aside on s (s.modLinks f) :=
  .of_pool rfl rfl rfl rfl rfl rfl rfl h parts id

theorem modAttention (s : State) {f : Attention → Attention}
    (h : s.attention.lines.length = Config.lineEntries → (f s.attention).lines.length = Config.lineEntries) : Aside on s (s.modAttention f) :=
  .of_pool rfl rfl rfl rfl rfl rfl rfl rfl (.of_same rfl) h

theorem judgeLines (s : State) : Aside on s s.judgeLines := .modAttention s fun _ => by simp [State.judgedLines]

theorem latch (s : State) (x : Latch) : Aside on s (s.latch x) := .modAttention s id

theorem foldl {α : Type} {f : State → α → State} (hf : ∀ t x, Aside on t (f t x)) (l : List α) (s : State) : Aside on s (l.foldl f s) :=
  State.foldl_keeps (P := Aside on s) (fun t x ht => ht.trans (hf t x)) l (refl s)

end Aside

end Sys2Proof.Machine

/-! Cold reset, the clock and the configuration (R11, R15 to R19). -/

namespace Sys2Proof.Machine
open Sys2Proof

namespace State

theorem no_train {s : State} (h : s.Sound) (none : s.pool.trains = []) (i : Nat) : s.train? i = .none := by
  cases hx : s.train? i with
  | none => rfl
  | some x =>
    have listed := (h.pooled.trains i).mpr (Option.isSome_of_eq_some hx)
    rw [none] at listed
    exact absurd listed List.not_mem_nil

theorem keeps_coldReset (s : State) : Keeps s s.coldReset := by
  obtain ⟨sound, queues, vehicles, caps, -, -, -, -, -, -, -, -, configured, -, -, waiters, -, saves⟩ :
    Obligations.ResetMeetsTheInvariants := resetMeetsTheInvariants
  have aside : Aside (fun _ => True) State.reset s.coldReset := .of_pool rfl rfl rfl rfl rfl rfl rfl rfl (fun _ => .inl trivial) id
  have kept := aside.keeps
  exact ⟨fun _ => kept.sound sound, fun _ _ => kept.queues sound queues, fun _ _ => kept.configured sound configured,
    fun _ _ _ _ => kept.waiters sound queues configured waiters, fun _ _ _ => kept.vehicles sound vehicles caps,
    fun _ _ => kept.caps sound caps, fun _ _ _ => kept.saves sound configured saves⟩

/-- A part that is not OPERATING needs no header. -/
theorem sound_setTables {s : State} (x : Tables) (h : s.Sound) (idle : s.part ≠ .operating) : (s.setTables x).Sound :=
  sound_of_pool_of_sized h.sized (fun op => absurd op idle) (show (s.setTables x).pool = s.pool from rfl) h

theorem part_cases {s : State} (h : s.part ≠ .operating) : s.part = .unconfigured := by
  cases hp : s.part with
  | unconfigured => rfl
  | operating => exact absurd hp h

theorem keeps_setTables (s : State) (x : Tables) (idle : s.part ≠ .operating) : Keeps s (s.setTables x) := by
  refine Alongside.keeps ⟨fun h => sound_setTables x h idle, fun h c => ?_, fun _ => .refl _, .inr fun _ => rfl,
    fun i y hy => ⟨y, hy, rfl⟩, fun i y hy => ⟨y, hy, rfl, rfl⟩, fun _ => rfl, rfl, rfl, rfl⟩
    fun _ _ v => ⟨v.live, v.marked, v.once, v.order, v.clear, v.values, v.services⟩
  refine ⟨fun op => absurd op idle, c.empty, c.patterns, fun i y hy => ?_⟩
  cases hy.symm.trans (no_train h (c.empty (part_cases idle)).1 i)

/-- CONFIG RELOAD of an empty pool (R18). -/
theorem keeps_unconfigure (s : State) (empty : s.poolEmpty = true) : Keeps s (s.setPart .unconfigured) := by
  simp only [poolEmpty, Bool.and_eq_true, beq_iff_eq] at empty
  obtain ⟨⟨trains, incidents⟩, anns⟩ := empty
  have noTrain := List.length_eq_zero_iff.mp trains
  refine Alongside.keeps ⟨fun h => sound_of_pool_of_sized h.sized (fun op => (nomatch op))
    (show (s.setPart .unconfigured).pool = s.pool from rfl) h, fun h c => ?_, fun _ => .refl _,
    .inr fun _ => rfl, fun i y hy => ⟨y, hy, rfl⟩, fun i y hy => ⟨y, hy, rfl, rfl⟩, fun _ => rfl, rfl, rfl, rfl⟩
    fun _ _ v => ⟨v.live, v.marked, v.once, v.order, v.clear, v.values, v.services⟩
  refine ⟨fun op => (nomatch op), fun _ => ⟨noTrain, List.length_eq_zero_iff.mp incidents, fun p => ?_⟩, c.patterns, fun i y hy => ?_⟩
  · have lengths := List.sum_eq_zero_iff.mp anns
    show s.pool.queues.getD p [] = []
    rw [List.getD_eq_getElem?_getD]
    cases hq : s.pool.queues[p]? with
    | none => rfl
    | some q => exact List.length_eq_zero_iff.mp (lengths _ (List.mem_map_of_mem (List.mem_of_getElem? hq)))
  · cases hy.symm.trans (no_train h noTrain i)

theorem startSubstation_queue (s : State) (k : Nat) :
    ((s.startLine.substation k).queue).Sublist (s.substation k).queue := by
  simp only [substation, startLine, List.getD_eq_getElem?_getD, List.getElem?_mapIdx]
  cases s.substations[k]? with
  | none => exact .refl _
  | some b =>
    simp only [Option.map_some, Option.getD_some, startSubstation]
    split
    · exact List.nil_sublist _
    · exact .refl _

/-- START of tables that pass (R17). -/
theorem keeps_startLine (s : State) (idle : s.part ≠ .operating) (pass : s.startFailure = none) : Keeps s s.startLine := by
  have none : s.Sound → s.Configured → ∀ i, s.train? i = .none := fun h c => no_train h (c.empty (part_cases idle)).1
  have good : s.headerGood = true := by
    unfold startFailure at pass
    split at pass
    · next h => exact h
    · cases pass
  refine Alongside.keeps ⟨fun h => sound_of_pool_of_sized ?_ (fun _ => good) (show s.startLine.pool = s.pool from rfl) h, fun h c => ?_, fun k => (s.startSubstation_queue k).map _,
    .inl (part_cases idle), fun i y hy => ⟨y, hy, rfl⟩, fun i y hy => ⟨y, hy, rfl, rfl⟩, fun _ => rfl, rfl, rfl, rfl⟩ fun h c _ => ?_
  · obtain ⟨slots, queues, platforms, sects, subs, shadows, lines⟩ := h.sized
    exact ⟨slots, queues, by simpa [startLine] using platforms, by simpa [startLine] using sects, by simpa [startLine] using subs,
      shadows, lines⟩
  · refine ⟨fun _ => pass, fun idle => (nomatch idle), ⟨Nat.succ_pos 3, Nat.succ_pos 3⟩, fun i y hy => ?_⟩
    cases hy.symm.trans (none h c i)
  · refine ⟨fun _ he => (nomatch he), fun i y hy => ?_, .nil, List.nil_sublist _, fun _ => rfl, fun _ he => (nomatch he), fun i y hy => ?_⟩ <;>
    cases hy.symm.trans (none h c i)

/-! ### SET TIME (R11) -/

theorem shiftDeadlines_train? (s : State) (d : Int) (i : Nat) : (s.shiftDeadlines d).train? i = (s.train? i).map (shiftTrain d) := by
  simp only [train?, shiftDeadlines_slot]
  cases (s.slot i).record <;> rfl

theorem sound_shiftDeadlines {s : State} (h : s.Sound) (d : Int) : (s.shiftDeadlines d).Sound := by
  obtain ⟨slots, queues, platforms, sects, subs, shadows, lines⟩ := h.sized
  have sized : (s.shiftDeadlines d).Sized := ⟨by simpa [shiftDeadlines] using slots, queues, by simpa [shiftDeadlines] using platforms,
    by simpa [shiftDeadlines] using sects, by simpa [shiftDeadlines] using subs, shadows, lines⟩
  have homes : ∀ i, (s.shiftDeadlines d).homeOf i = s.homeOf i := fun i => by
    rw [homeOf, homeOf, shiftDeadlines_slot]
    cases (s.slot i).record <;> rfl
  have lists : (s.shiftDeadlines d).listOf = s.listOf := by funext l; cases l <;> rfl
  refine ⟨sized, pooled_of_shelved sized ((shelved_of_pooled h.sized h.pooled).same homes (fun i => by rw [shiftDeadlines_slot])
    (fun l i => by rw [lists]) fun l once => by rw [lists]; exact once), ⟨?_, ?_, ?_, ?_⟩, h.header⟩
  · intro i y hy
    rw [shiftDeadlines_train?] at hy
    obtain ⟨x, hx, rfl⟩ := Option.map_eq_some_iff.mp hy
    exact h.placed.origins i x hx
  · intro i y p hy hp
    rw [shiftDeadlines_train?] at hy
    obtain ⟨x, hx, rfl⟩ := Option.map_eq_some_iff.mp hy
    exact h.placed.positions i x p hx hp
  · intro i b hb
    rw [shiftDeadlines_ann?] at hb
    obtain ⟨a, ha, rfl⟩ := Option.map_eq_some_iff.mp hb
    exact h.placed.anns i a ha
  · intro i b hb
    rw [shiftDeadlines_incident?] at hb
    obtain ⟨c, hc, rfl⟩ := Option.map_eq_some_iff.mp hb
    exact h.placed.copies i c hc

theorem keeps_shiftDeadlines (s : State) (d : Int) : Keeps s (s.shiftDeadlines d) := by
  have back : ∀ i y, (s.shiftDeadlines d).train? i = some y → ∃ x, s.train? i = some x ∧ y = shiftTrain d x := fun i y hy => by
    rw [shiftDeadlines_train?] at hy
    obtain ⟨x, hx, rfl⟩ := Option.map_eq_some_iff.mp hy
    exact ⟨x, hx, rfl⟩
  have handles : ∀ i, (s.shiftDeadlines d).handle i = s.handle i := fun i => by rw [handle, handle, shiftDeadlines_slot]
  have forth : ∀ i x, s.train? i = some x → (s.shiftDeadlines d).train? i = some (shiftTrain d x) := fun i x hx => by
    rw [shiftDeadlines_train?, hx]; rfl
  have entries : ∀ k, ((s.shiftDeadlines d).substation k).queue.map Entry.train = (s.substation k).queue.map Entry.train := fun k => by
    rw [shiftDeadlines_substation]
    simp [shiftSubstation, Function.comp_def]
  refine Alongside.keeps ⟨fun h => sound_shiftDeadlines h d, fun h c => ⟨c.checked, c.empty, c.patterns, fun i y hy => ?_⟩,
    fun k => entries k ▸ .refl _, .inr entries, fun i x hx => ⟨_, forth i x hx, rfl⟩, fun i y hy => ?_, handles, rfl, rfl, rfl⟩
    fun h c v => ⟨fun e he => ?_, fun i y hy => ?_, v.once, v.order, v.clear, v.values, fun i y hy => ?_⟩
  · obtain ⟨x, hx, rfl⟩ := back i y hy; exact c.trains i x hx
  · obtain ⟨x, hx, rfl⟩ := back i y hy; exact ⟨x, hx, rfl, rfl⟩
  · obtain ⟨handle, x, hx, saved⟩ := v.live e he
    exact ⟨(handles _).trans handle, _, forth _ x hx, saved⟩
  · obtain ⟨x, hx, rfl⟩ := back i y hy; rw [handles]; exact v.marked i x hx
  · obtain ⟨x, hx, rfl⟩ := back i y hy; exact v.services i x hx

theorem aside_setTime {on : Work → Prop} (s : State) (n : Nat) : Aside on s (s.setTime n) :=
  .of_pool rfl rfl rfl rfl rfl rfl rfl rfl (.of_same rfl) id

theorem supply_shiftDeadlines {on : Work → Prop} (op : on (.part .op)) (s : State) (d : Int) : SupplyKept on s (s.shiftDeadlines d) where
  parts p := by
    cases p with
    | op => exact .inl op
    | _ => exact .inr fun i => by rw [shiftDeadlines_sect]; rfl
  occupants := .inr fun i => by rw [shiftDeadlines_sect]; rfl
  up := .inr fun k => by rw [shiftDeadlines_substation]; rfl
  budget := .inr fun k => by rw [shiftDeadlines_substation]; rfl

theorem course_moveTime {on : Work → Prop} {lists : Prop} (op : on (.part .op)) (s : State) (n : Nat) : Course on lists s (s.moveTime n) := by
  refine .trans ⟨s.keeps_shiftDeadlines _, .of_same fun p => ?_, supply_shiftDeadlines op s _, .of_same rfl, .inr rfl⟩ (aside_setTime _ n).course
  rw [shiftDeadlines_platform]
  exact ⟨rfl, rfl, rfl⟩

/-! ### LINK RESTART (R197) -/

theorem aside_issue {on : Work → Prop} (s : State) (n : Nat) (d : Directive) : Aside on s (s.issue n d) :=
  .modLinks s rfl fun p => .inr (by cases p <;> rfl)

theorem aside_playerLost {on : Work → Prop} (s : State) (p : Nat) : Aside on s (s.playerLost p) := by
  have requeued : Aside on s (s.requeueCue p) := by
    unfold requeueCue
    split
    · next h _ =>
      exact ⟨rfl, rfl, rfl, rfl, rfl, fun i => train?_modAnn .., fun i => handle_modAnn .., rfl, rfl, rfl, fun _ => ⟨rfl, rfl, rfl⟩, .of_same rfl,
        fun sound => sound_modAnn sound h.slot _ fun _ _ => rfl⟩
    · exact .refl s
  have quiet : ∀ t : State, Aside on t (t.quietPlayer p .offline) := fun t =>
    ⟨rfl, rfl, rfl, rfl, rfl, fun _ => rfl, fun _ => rfl, rfl, rfl, rfl, fun q => by
      rw [quietPlayer, platform_modPlatform]; split <;> exact ⟨rfl, rfl, rfl⟩, .of_same rfl,
      fun h => sound_of_pool (t.calm_modPlatform p _).toSteady rfl h⟩
  exact (((requeued.trans (aside_issue _ _ _)).trans (quiet _))).trans (.latch _ _)

theorem aside_restart {on : Work → Prop} (links : ∀ p, on (.link p)) (s : State) : Aside on s s.restart := by
  have replayed : Aside on s s.restartLinks.replayShadows := (Aside.modLinks s rfl fun p => .inl (links p)).trans (.foldl (fun t n => by
    cases s.restartLinks.shadow n with
    | none => exact .refl t
    | some d => exact aside_issue t n d) _ _)
  unfold restart
  refine ((replayed.trans (.modAttention _ id)).trans (.foldl (fun t p => ?_) _ _)).trans (.judgeLines _)
  unfold restartPlayer
  split
  · exact t.aside_playerLost p
  · exact t.aside_playerLost p
  · exact t.aside_playerLost p
  · exact .refl t
  · exact .refl t

end State

end Sys2Proof.Machine

/-! A train that comes to the line (R45) and one that leaves it (R60, R61). -/

namespace Sys2Proof.Machine
open Sys2Proof

namespace State

/-! ### CREATE TRAIN -/

/-- A train that takes a free slot `i` and the tail of the train list. -/
structure Joins (s t : State) (i : Nat) (x : Train) : Prop where
  vacant      : s.train? i = none
  part        : t.part = s.part
  tables      : t.tables = s.tables
  control     : t.control = s.control
  sects       : t.sects = s.sects
  substations : t.substations = s.substations
  platforms   : t.platforms = s.platforms
  own         : t.train? i = some x
  others      : ∀ j, j ≠ i → t.slot j = s.slot j
  list        : t.pool.trains = s.pool.trains ++ [i]
  incidents   : t.pool.incidents = s.pool.incidents
  queues      : t.pool.queues = s.pool.queues
  sound       : t.Sound

theorem createTrain_cases {s : State} (h : s.Sound) (x : Train) (within : x.Within (· < Config.platformEntries)) :
    s.createTrain x = s ∨ ∃ i, Joins s (s.createTrain x) i x := by
  unfold createTrain
  split
  · exact .inl rfl
  · next u i a =>
    obtain ⟨rest, -, calm, pool⟩ := allocate_spec a
    obtain ⟨platforms, sects, substations, -⟩ := allocate_rest a
    obtain ⟨inPool, free⟩ := allocate_free a h
    have steady : Steady u (u.modPool fun q => { q with trains := q.trains ++ [i] }) := (u.calm_modPool _ rfl rfl).toSteady
    have list : u.pool.trains ++ [i] = s.pool.trains ++ [i] := by rw [pool]
    refine .inr ⟨i, ⟨by simp [train?, free], calm.part, calm.tables, calm.control, sects, substations, platforms, ?_, fun j hj => ?_, list,
      (by rw [pool] : u.pool.incidents = _), (by rw [pool] : u.pool.queues = _), ?_⟩⟩
    · exact train?_eq_some.mpr (congrArg Slot.record (allocate_slot_self a h))
    · exact (allocate_slot_ne a hj : u.slot j = _)
    · refine sound_allocated h a steady Rec.noConfusion rfl rfl (fun j => ?_) (fun absent once => ?_) (fun n hf hn => ?_) (fun y e => ?_)
        (fun _ e => (nomatch e)) fun _ e => (nomatch e)
      · show j ∈ u.pool.trains ++ [i] ↔ j = i ∨ j ∈ s.pool.trains
        rw [list, List.mem_append, List.mem_singleton, or_comm]
      · show (u.pool.trains ++ [i]).Nodup
        rw [list]
        exact List.nodup_append.mpr ⟨once, List.nodup_singleton i, fun b hb c hc => by
          rw [List.mem_singleton.mp hc]; rintro rfl; exact absent hb⟩
      · cases n with
        | free => exact absurd rfl hf
        | trains => exact absurd rfl hn
        | incidents => show u.pool.incidents = _; rw [pool]; rfl
        | queue p => show u.pool.queues.getD p [] = _; rw [pool]; rfl
      · cases e; exact within

namespace Joins
variable {s t : State} {i : Nat} {x : Train}

theorem train_of (j : Joins s t i x) {k : Nat} {y : Train} (hy : s.train? k = some y) : k ≠ i ∧ t.train? k = some y ∧ t.handle k = s.handle k := by
  have ne : k ≠ i := by rintro rfl; rw [j.vacant] at hy; cases hy
  exact ⟨ne, (train?_of_slot (j.others k ne)).trans hy, handle_of_slot (j.others k ne)⟩

theorem was (j : Joins s t i x) {k : Nat} {y : Train} (hy : t.train? k = some y) :
    k = i ∧ y = x ∨ k ≠ i ∧ s.train? k = some y ∧ t.handle k = s.handle k := by
  by_cases hk : k = i
  · subst hk; cases j.own.symm.trans hy; exact .inl ⟨rfl, rfl⟩
  · exact .inr ⟨hk, (train?_of_slot (j.others k hk)).symm.trans hy, handle_of_slot (j.others k hk)⟩

/-- A new train is AWAITING at its origin, unsaved, with an identity of its own. -/
theorem keeps (j : Joins s t i x) (op : s.part = .operating) (alone : s.trainByVehicle x.vehicle = none)
    (room : s.trainCount < Config.trainCap) (service : 1 ≤ x.service ∧ x.service ≤ 9999) (origin : s.platformOk x.origin = true)
    (awaiting : x.state = .awaiting) (nowhere : x.position = none) (unsaved : x.saved = false) : Keeps s t where
  sound _ := j.sound
  queues _ q := queuesOk_of_stay q (fun k => by rw [substation, substation, j.substations]) fun k e _ ⟨handle, y, hy, waiting⟩ => by
    obtain ⟨-, train, same⟩ := j.train_of hy
    exact ⟨same.trans handle, y, train, waiting⟩
  configured _ c :=
    { checked := fun h => (startFailure_congr j.tables).trans (c.checked (j.part ▸ h))
      empty := fun h => by have := j.part.symm.trans h; rw [op] at this; cases this
      patterns := j.control.symm ▸ c.patterns
      trains := fun k y hy => by
        simp only [platformOk, j.tables]
        rcases j.was hy with ⟨-, rfl⟩ | ⟨-, old, -⟩
        · exact ⟨origin, fun p hp => by rw [nowhere] at hp; cases hp⟩
        · exact c.trains k y old }
  waiters _ _ _ w k y hy waiting := by
    rcases j.was hy with ⟨-, rfl⟩ | ⟨-, old, same⟩
    · rw [awaiting] at waiting; cases waiting
    · obtain ⟨m, e, he, own⟩ := w k y old waiting
      exact ⟨m, e, by rw [substation, j.substations]; exact he, own.trans same.symm⟩
  vehicles h v _ k m y z hy hz same := by
    have other : ∀ {n u}, s.train? n = some u → u.vehicle ≠ x.vehicle := fun {n u} hu e => by
      have miss := List.find?_eq_none.mp alone (n, u) (mem_liveTrains.mpr ⟨(h.pooled.trains n).mpr (Option.isSome_of_eq_some hu), hu⟩)
      exact miss (by simpa using e)
    rcases j.was hy with ⟨rfl, rfl⟩ | ⟨-, oldY, -⟩ <;> rcases j.was hz with ⟨rfl, rfl⟩ | ⟨-, oldZ, -⟩
    · rfl
    · exact absurd same.symm (other oldZ)
    · exact absurd same (other oldY)
    · exact v k m y z oldY oldZ same
  caps _ c := ⟨by rw [trainCount, j.list, List.length_append]; exact room, by rw [incidentCount, j.incidents]; exact c.incidents,
    fun p => by rw [queue, j.queues]; exact c.queues p⟩
  saves _ _ v :=
    { live := fun e he => by
        obtain ⟨handle, y, hy, saved⟩ := v.live e (j.control ▸ he)
        obtain ⟨-, train, same⟩ := j.train_of hy
        exact ⟨same.trans handle, y, train, saved⟩
      marked := fun k y hy saved => by
        rcases j.was hy with ⟨-, rfl⟩ | ⟨-, old, same⟩
        · rw [unsaved] at saved; cases saved
        · rw [j.control, same]; exact v.marked k y old saved
      once := j.control.symm ▸ v.once
      order := by rw [j.control, j.list]; exact v.order.trans (List.sublist_append_left ..)
      clear := j.control.symm ▸ v.clear
      values := j.control.symm ▸ v.values
      services := fun k y hy => by
        rcases j.was hy with ⟨-, rfl⟩ | ⟨-, old, -⟩
        · exact service
        · exact v.services k y old }

end Joins

/-! ### RETIRE of a train -/

/-- The train of slot `i` off the list and its slot freed, with its save entry where it was saved. -/
structure Leaves (s t : State) (i : Nat) : Prop where
  live        : (s.train? i).isSome = true
  part        : t.part = s.part
  tables      : t.tables = s.tables
  saves       : t.control = s.control ∧ (∀ x, s.train? i = some x → x.saved = false) ∨
    t.control = { s.control with saves := s.control.saves.filter fun e => e.train != s.handle i }
  substations : t.substations = s.substations
  trains      : ∀ j, t.train? j = if i = j then none else s.train? j
  handles     : ∀ j, t.handle j = s.handle j
  list        : t.pool.trains = s.pool.trains.erase i
  incidents   : t.pool.incidents = s.pool.incidents
  queues      : t.pool.queues = s.pool.queues
  sound       : s.Sound → t.Sound

namespace Leaves
variable {s t : State} {i : Nat}

theorem was (l : Leaves s t i) {k : Nat} {y : Train} (hy : t.train? k = some y) : i ≠ k ∧ s.train? k = some y := by
  rw [l.trains] at hy
  split at hy
  · cases hy
  · next ne => exact ⟨ne, hy⟩

theorem stays (l : Leaves s t i) {k : Nat} {y : Train} (hy : s.train? k = some y) (ne : i ≠ k) : t.train? k = some y := by
  rw [l.trains, if_neg ne]; exact hy

theorem patterns (l : Leaves s t i) : t.control.active = s.control.active ∧ t.control.resume = s.control.resume ∧
    t.control.degraded = s.control.degraded := by
  rcases l.saves with ⟨h, -⟩ | h <;> rw [h] <;> exact ⟨rfl, rfl, rfl⟩

/-- The entries left are those of other trains, each where it stood. -/
theorem entries (l : Leaves s t i) (v : s.SavesOk) : t.control.saves.Sublist s.control.saves ∧
    (∀ e ∈ t.control.saves, e.train.slot ≠ i) ∧ ∀ e ∈ s.control.saves, e.train ≠ s.handle i → e ∈ t.control.saves := by
  rcases l.saves with ⟨h, unsaved⟩ | h <;> rw [h]
  · refine ⟨.refl _, fun e he own => ?_, fun e he _ => he⟩
    obtain ⟨-, x, hx, saved⟩ := v.live e he
    rw [unsaved x (own ▸ hx)] at saved
    cases saved
  · refine ⟨List.filter_sublist, fun e he own => ?_, fun e he ne => List.mem_filter.mpr ⟨he, by simpa using ne⟩⟩
    obtain ⟨mem, ne⟩ := List.mem_filter.mp he
    exact absurd ((v.live e mem).1.symm.trans (congrArg s.handle own)) (by simpa using ne)

theorem sound_queues (l : Leaves s t i) (q : s.QueuesOk) (gone : s.NoEntry i) : t.QueuesOk :=
  queuesOk_of_stay q (fun k => by rw [substation, substation, l.substations]) fun k e he ⟨handle, x, hx, waiting⟩ =>
    ⟨(l.handles _).trans handle, x, l.stays hx fun own => gone k e (by rwa [substation, ← l.substations, ← substation]) own.symm, waiting⟩

theorem configured (l : Leaves s t i) (op : s.part = .operating) (c : s.Configured) : t.Configured where
  checked h := (startFailure_congr l.tables).trans (c.checked (l.part ▸ h))
  empty h := by have := l.part.symm.trans h; rw [op] at this; cases this
  patterns := by rw [l.patterns.1, l.patterns.2.1]; exact c.patterns
  trains k y hy := by
    simp only [platformOk, l.tables]
    exact c.trains k y (l.was hy).2

theorem waiters (l : Leaves s t i) (w : s.WaitersBut (· = i)) : t.WaitersQueued := fun k y hy waiting => by
  obtain ⟨ne, old⟩ := l.was hy
  obtain ⟨m, e, he, own⟩ := w k y old waiting fun h => ne h.symm
  exact ⟨m, e, by rwa [substation, l.substations, ← substation], own.trans (l.handles k).symm⟩

theorem vehicles (l : Leaves s t i) (v : s.VehiclesOnce) : t.VehiclesOnce := fun k m y z hy hz same =>
  v k m y z (l.was hy).2 (l.was hz).2 same

theorem caps (l : Leaves s t i) (c : s.CapsOk) : t.CapsOk :=
  ⟨by rw [trainCount, l.list]; exact (List.erase_sublist.length_le).trans c.trains, by rw [incidentCount, l.incidents]; exact c.incidents,
    fun p => by rw [queue, l.queues]; exact c.queues p⟩

theorem savesOk (l : Leaves s t i) (v : s.SavesOk) : t.SavesOk := by
  obtain ⟨sub, others, kept⟩ := l.entries v
  have slots := sub.map fun e : SaveEntry => e.train.slot
  refine ⟨fun e he => ?_, fun k y hy saved => ?_, v.once.sublist slots, ?_, fun clear => ?_, fun e he => v.values e (sub.subset he),
    fun k y hy => v.services k y (l.was hy).2⟩
  · obtain ⟨handle, x, hx, saved⟩ := v.live e (sub.subset he)
    exact ⟨(l.handles _).trans handle, x, l.stays hx fun own => others e he own.symm, saved⟩
  · obtain ⟨ne, old⟩ := l.was hy
    obtain ⟨e, he, own⟩ := v.marked k y old saved
    exact ⟨e, kept e he fun h => ne (congrArg Handle.slot (h.symm.trans own)), own.trans (l.handles k).symm⟩
  · have absent : i ∉ t.control.saves.map fun e => e.train.slot := fun h => by
      obtain ⟨e, he, own⟩ := List.mem_map.mp h
      exact others e he own
    rw [l.list, ← List.erase_of_not_mem absent]
    exact (slots.trans v.order).erase i
  · have empty := v.clear (l.patterns.2.2 ▸ clear)
    rw [empty] at sub
    exact List.sublist_nil.mp sub

end Leaves

end State

end Sys2Proof.Machine

/-! The commands of the Passage Tracker: arrivals, departures and the retirement of a train. -/

namespace Sys2Proof.Machine
open Sys2Proof

/-- Work that gives no permits to be asked for gives no train an entry. -/
theorem Run.noEntry {on : Work → Prop} {s t : State} (r : Run on s t) (smooth : ¬ on .rough) (calm : ¬ on .trains) (firm : ¬ on .withdraw)
    (ready : s.Ready) {i : Nat} (none : s.NoEntry i) : t.NoEntry i :=
  r.keeps_ready (P := fun u => u.NoEntry i) smooth (fun u v e ru none => by
    cases e with
    | record e => exact fun k e' he' => none k e' ((State.queue_recordEdit e k).1 ▸ he')
    | gate e => exact State.noEntry_gateEdit e smooth ru (fun _ _ may => may.2.elim calm fun h => firm h.1) none) ready none

namespace State

/-- The kinds of ring work of an arrival, a departure and a retirement. -/
def arrivalRing : Work → Prop
  | .passage | .foreign | .link .badCount => True
  | _ => False

def departureRing : Work → Prop
  | .passage | .foreign | .departs | .link .badCount => True
  | _ => False

def retirementRing : Work → Prop
  | .passage => True
  | _ => False

/-! ### RETIRE -/

/-- The effects of a train's retirement on other records (R61). -/
def parted (s : State) (h : Handle) : State :=
  (((s.retireAnns fun a => a.origin == .approach && a.train == some h).mapAnns fun a =>
    if a.train = some h then { a with train := none } else a).endCause .trainOverdue (.train h)).endCause .unauthorised (.train h)

theorem does_parted {on : Work → Prop} (ends : on .ends) (s : State) (h : Handle) : Does on s (s.parted h) := by
  refine .trans (.trans (.trans (s.does_retireAnns _) (does_mapAnns _ (fun a => ?_) fun a => ?_)) (does_endCause _ _ _ (.inl ends))) (does_endCause _ _ _ (.inl ends))
  · split <;> rfl
  · split <;> exact ⟨rfl, rfl⟩

/-- The work of a retirement, before the train leaves the list. -/
def beforeLeaving (s : State) (i : Nat) (t : Train) : State := (s.retireFromGate i t).parted ((s.retireFromGate i t).handle i)

theorem works_beforeLeaving (s : State) (i : Nat) (t : Train) : Works retirementRing (· = i) s (s.beforeLeaving i t) := fun rough loose _ =>
  .trans (does_retireFromGate (on := eventWork retirementRing rough loose (· = i)) trivial trivial trivial trivial s i t rfl) (does_parted trivial _ _)

/-- The train that leaves has no entry from the moment it has left the gate. -/
theorem noEntry_beforeLeaving {s : State} {i : Nat} (t : Train) (r : s.Ready) (q : s.QueuesOk) : (s.beforeLeaving i t).NoEntry i := by
  have tags : ¬ serveWork (· = .ends) .rough := Work.noConfusion
  have drop : Edit (eventWork retirementRing False False (· = i)) s (s.dropEntries (s.handle i)) := .gate (.dropEntries _ rfl)
  have dropped := drop.ready id r
  have off : Does (eventWork retirementRing False False (· = i)) (s.dropEntries (s.handle i)) ((s.dropEntries (s.handle i)).dropLeaseOf i) :=
    does_dropLeaseOf trivial _ i
  have leased : ((s.dropEntries (s.handle i)).dropLeaseOf i).NoEntry i := by
    have none := noEntry_dropEntries r.1.sized q i
    unfold dropLeaseOf
    split
    · split
      · exact fun k e he => none k e (queue_dropLease .. ▸ he)
      · exact none
    · exact none
  have mid := (off (.inr dropped)).ready id dropped
  have serve := does_serveChanged (on := serveWork (· = .ends)) trivial s ((s.dropEntries (s.handle i)).dropLeaseOf i) (.inr mid)
  have served := serve.noEntry tags id id mid leased
  have readyServed := serve.ready tags mid
  have gate : (s.retireFromGate i t).NoEntry i := by
    unfold retireFromGate
    dsimp only
    generalize serveChanged s ((s.dropEntries (s.handle i)).dropLeaseOf i) = s1 at served readyServed
    split
    · exact served
    · split
      · have promoted : ∀ pr : State × Bool, pr = (if s1.isOccupant i (placeOf t) then s1.promote i (placeOf t) else (s1, false)) →
            pr.1.NoEntry i ∧ pr.1.Ready := by
          rintro pr rfl
          split
          · have run := does_promote (on := eventWork retirementRing False False (· = i)) trivial trivial s1 i (placeOf t) (.inr readyServed)
            exact ⟨noEntry_of_substations (s1.promote_self i _).2.2 served, run.ready id readyServed⟩
          · exact ⟨served, readyServed⟩
        obtain ⟨none, ready⟩ := promoted _ rfl
        exact (does_judgeConflict (on := serveWork (· = .ends)) rfl _ i _ _ (.inr ready)).noEntry tags id id ready none
      · exact served
  have ready := (does_retireFromGate (on := eventWork retirementRing False False (· = i)) trivial trivial trivial trivial s i t rfl (.inr r)).ready id r
  exact (does_parted (on := serveWork (· = .ends)) rfl _ _ (.inr ready)).noEntry tags id id ready gate

/-- The save entry struck out where the train was saved (R61). -/
def struck (s : State) (h : Handle) (saved : Bool) : State :=
  if saved then s.modControl fun c => { c with saves := c.saves.filter fun e => e.train != h } else s

theorem retireFromRecords_eq (s : State) (i : Nat) (t : Train) (b : Bool) : s.retireFromRecords i t b =
    if t.state.atPlatform && b then ((s.parted (s.handle i)).struck (s.handle i) t.saved).issueIndicator (placeOf t) .clearIndicator
    else (s.parted (s.handle i)).struck (s.handle i) t.saved := rfl

theorem struck_rest (s : State) (h : Handle) (saved : Bool) : (s.struck h saved).pool = s.pool ∧ (s.struck h saved).part = s.part ∧
    (s.struck h saved).tables = s.tables ∧ (s.struck h saved).substations = s.substations ∧ (s.struck h saved).platforms = s.platforms ∧
    (s.struck h saved).sects = s.sects ∧ Steady s (s.struck h saved) := by
  unfold struck
  split
  · exact ⟨rfl, rfl, rfl, rfl, rfl, rfl, s.steady_modControl _⟩
  · exact ⟨rfl, rfl, rfl, rfl, rfl, rfl, .refl s⟩

/-- A live train off the list, its slot freed, after what moves neither pool nor queues. -/
theorem leaves_released {s u : State} {i : Nat} {x : Train} (hx : s.train? i = some x) (c : Steady s u) (pool : u.pool = s.pool)
    (substations : u.substations = s.substations)
    (saves : u.control = s.control ∧ x.saved = false ∨
      u.control = { s.control with saves := s.control.saves.filter fun e => e.train != s.handle i }) :
    Leaves s ((u.unlist i).release i) i where
  live := Option.isSome_of_eq_some hx
  part := c.part
  tables := c.tables
  saves := saves.imp_left fun h => ⟨h.1, fun y hy => by cases hx.symm.trans hy; exact h.2⟩
  substations := substations
  trains j := by
    rw [train?_release]
    split
    · rfl
    · exact train?_of_pool (t := u) pool j
  handles j := (handle_release ..).trans (handle_of_pool (t := u) pool j)
  list := by show u.pool.trains.erase i = _; rw [pool]
  incidents := by show u.pool.incidents = _; rw [pool]
  queues := by show u.pool.queues = _; rw [pool]
  sound h := by
    have home : s.homeOf i = .trains := homeOf_eq_trains.mpr (Option.isSome_of_eq_some hx)
    refine sound_released h (fun hf => ?_) (c.trans (u.calm_modPool _ rfl rfl).toSteady) (by show u.pool.slots = _; rw [pool]) ?_ fun n hn => ?_
    · rw [train?_eq_some, hf] at hx; cases hx
    · rw [home]; show u.pool.trains.erase i = s.pool.trains.erase i; rw [pool]
    · cases n with
      | trains => exact absurd home.symm hn
      | free => show u.pool.free = _; rw [pool]; rfl
      | incidents => show u.pool.incidents = _; rw [pool]; rfl
      | queue p => show u.pool.queues.getD p [] = _; rw [pool]; rfl

theorem leaves_retireTrain {s : State} {i : Nat} {t : Train} (r : s.Ready) (hx : s.train? i = some t) :
    Leaves (s.beforeLeaving i t) (s.retireTrain i t) i := by
  obtain ⟨handle, y, hy, kin⟩ := ((works_beforeLeaving s i t).run r).kin id r hx
  have gate := does_retireFromGate (on := eventWork retirementRing False True (· = i)) trivial trivial trivial trivial s i t rfl (.inr r)
  have same : (s.retireFromGate i t).handle i = (s.beforeLeaving i t).handle i := ((gate.kin id r hx).1).trans handle.symm
  rw [retireTrain, retireFromRecords_eq]
  change Leaves (s.beforeLeaving i t) (((if _ then ((s.beforeLeaving i t).struck _ t.saved).issueIndicator _ _ else
    (s.beforeLeaving i t).struck _ t.saved).unlist i).release i) i
  rw [same]
  generalize s.beforeLeaving i t = b at hy kin handle
  obtain ⟨pool, -, -, substations, -, -, steady⟩ := b.struck_rest (b.handle i) t.saved
  have saves : (b.struck (b.handle i) t.saved).control = b.control ∧ y.saved = false ∨
      (b.struck (b.handle i) t.saved).control = { b.control with saves := b.control.saves.filter fun e => e.train != b.handle i } := by
    unfold struck
    split
    · exact .inr rfl
    · next unsaved => exact .inl ⟨rfl, by rw [kin.saved]; simpa using unsaved⟩
  split
  · exact leaves_released hy (steady.trans (calm_issueIndicator _ _ _).toSteady) pool substations saves
  · exact leaves_released hy steady pool substations saves

theorem leaves_substations (s : State) (i : Nat) (t : Train) :
    (s.retireTrain i t).substations = (s.beforeLeaving i t).substations := by
  rw [retireTrain, retireFromRecords_eq]
  show (if _ then (_ : State) else _).substations = _
  split <;> exact ((s.beforeLeaving i t).struck_rest _ _).2.2.2.1

theorem course_retireTrain {s : State} {i : Nat} {t : Train} (op : s.part = .operating) (hx : s.train? i = some t) :
    Course retirementRing True s (s.retireTrain i t) := by
  have works := works_beforeLeaving s i t
  refine ⟨⟨fun h => ?_, fun h q => ?_, fun h c => ?_, fun h q c w => ?_, fun h v _ => ?_, fun h c => ?_, fun h _ v => ?_⟩, ?_, ?_, ?_, .inl trivial⟩
  · exact (leaves_retireTrain ⟨h, op⟩ hx).sound ((works.run ⟨h, op⟩).ready id ⟨h, op⟩).1
  · exact (leaves_retireTrain ⟨h, op⟩ hx).sound_queues (works.queuesOk ⟨h, op⟩ q) (noEntry_beforeLeaving t ⟨h, op⟩ q)
  · have run := works.run ⟨h, op⟩
    exact (leaves_retireTrain ⟨h, op⟩ hx).configured (run.steady.part.trans op) (run.configured id ⟨h, op⟩ c)
  · have but := (works.tight ⟨h, op⟩ q).waitersBut id ⟨h, op⟩ c ((waitersBut_none.mpr w).mono fun _ => False.elim)
    exact (leaves_retireTrain ⟨h, op⟩ hx).waiters but
  · exact (leaves_retireTrain ⟨h, op⟩ hx).vehicles ((works.run ⟨h, op⟩).vehiclesOnce id ⟨h, op⟩ v)
  · exact (leaves_retireTrain ⟨h, op⟩ hx).caps ((works.run ⟨h, op⟩).capsOk id ⟨h, op⟩ c)
  · exact (leaves_retireTrain ⟨h, op⟩ hx).savesOk ((works.run ⟨h, op⟩).savesOk id ⟨h, op⟩ v)
  · refine works.ringKept.trans (platforms_of_same ?_)
    rw [retireTrain, retireFromRecords_eq]
    show (if _ then (_ : State) else _).platforms = _
    split <;> exact ((s.beforeLeaving i t).struck_rest _ _).2.2.2.2.1
  · refine works.supplyKept.trans (.of_same ?_ (leaves_substations s i t))
    rw [retireTrain, retireFromRecords_eq]
    show (if _ then (_ : State) else _).sects = _
    split <;> exact ((s.beforeLeaving i t).struck_rest _ _).2.2.2.2.2.1
  · exact (s.steady_retireTrain i t).linksKept

end State

end Sys2Proof.Machine

/-! The reports of passages, and what every report, status frame and expiry comes to. -/

namespace Sys2Proof.Machine
open Sys2Proof

namespace State

section
variable {on : Work → Prop} (serve : on .serve) (withdraw : on .withdraw) (passage : on .passage) (tr : on .trains)
include serve withdraw passage tr

omit passage in
theorem spares_announceApproach (s : State) (i : Nat) {n : Nat} (hn : n < Config.platformEntries) : Spares on i s (s.announceApproach i n) := by
  unfold announceApproach
  split
  · exact .of_same (.refl s) rfl
  · have first : Spares on i s (s.modTrain i fun t => { t with approachDl := none }) :=
      .of_modTrain (does_modTrain tr s i _ (fun _ => ⟨rfl, rfl, rfl, rfl, rfl⟩) (fun _ => rfl) (fun _ => .inl rfl) (fun _ => .inl rfl)
        fun _ => .inr rfl) fun _ => rfl
    split
    · next room =>
      refine .trans (.trans first (.of_gateWork serve withdraw (does_createAnn _ ?_ (.inr hn) rfl))) (.of_modTrain ?_ fun _ => rfl)
      · exact (Bool.and_eq_true_iff.mp room).2
      · exact does_modTrain tr _ i _ (fun _ => ⟨rfl, rfl, rfl, rfl, rfl⟩) (fun _ => rfl) (fun _ => .inl rfl) (fun _ => .inl rfl)
          fun _ => .inl rfl
    · exact first

theorem spares_approachCheck (s : State) (i : Nat) {n : Nat} (hn : n < Config.platformEntries) : Spares on i s (s.approachCheck i n) := by
  have same : Spares on i s s := .of_same (.refl s) rfl
  unfold approachCheck
  split
  · exact same
  · dsimp only
    split
    · exact same
    · split
      · exact same
      · split
        · exact spares_announceApproach serve withdraw tr s i hn
        · exact .of_modTrain (.of_gate (.train i _ (.inr fun y _ => ⟨⟨.inl tr, rfl, rfl, fun h => h, .inr fun _ _ h => h,
            fun _ _ _ => .inr (.inr passage), fun _ _ _ => .inr passage, fun _ _ _ => .inr passage, rfl⟩, Iff.rfl⟩))) fun _ => rfl

/-- A departed train is of no concern to the gate. -/
theorem aloof_departFrom {s : State} (ends : on .ends) (departs : on .departs) (smooth : ¬ on .rough) (r : s.Ready) {i : Nat} {t : Train}
    (hx : s.train? i = some t) (may : MayLeave on s i) (u : Train) (p a : Nat) (clamped : Bool) :
    ∃ y, (s.departFrom i u p a clamped).train? i = some y ∧ Aloof y := by
  have ready := (does_departed passage tr departs s i p a clamped may (.inr r)).ready smooth r
  rw [departFrom_eq]
  refine Spares.aloof (on := on) (.trans (.trans (.of_same (does_occupants passage _ _ (· + 1)) rfl)
    (.of_gateWork serve withdraw (does_judgeConflict (on := gateWork on) ends _ i p _))) (spares_approachCheck serve withdraw passage tr _ i (r.next_lt p)))
    smooth ready ⟨_, train?_modTrain_of ((s.vacated_self i p a).1.trans hx) _, ?_, ?_⟩
  · exact TrainState.noConfusion
  · exact TrainState.noConfusion

end

theorem aloof_departTrain {s : State} {i : Nat} {t : Train} (r : s.Ready) (q : s.QueuesOk) (hx : s.train? i = some t) (p a : Nat)
    (clamped : Bool) : ∃ y, (s.departTrain i t p a clamped).train? i = some y ∧ Aloof y := by
  have fit : eventWork departureRing False False (· = i) .rough ∨ s.Ready := .inr r
  have may := mayLeave_outOfWait (on := eventWork departureRing False False (· = i)) hx rfl (.inr (.inr q)) fit
  have out := (does_outOfWait (on := eventWork departureRing False False (· = i)) trivial s i t rfl fit)
  have ready := out.ready id r
  obtain ⟨-, y, hy, -⟩ := out.kin id r hx
  have gone := aloof_departFrom trivial trivial trivial trivial trivial trivial id ready hy may t p a clamped
  have after := ((does_departFrom trivial trivial trivial trivial (s.outOfWait i t) i t p a clamped may) (.inr ready)).ready id ready
  rw [departTrain_eq]
  split
  · exact gone
  · obtain ⟨z, hz, aloof⟩ := gone
    exact (does_autoRaise (on := gateWork fun _ => False) trivial trivial _ _ _ _ (.inr after)).aloof id id after id hz aloof

theorem trainByVehicle_live {s : State} {v i : Nat} {t : Train} (h : s.trainByVehicle v = some (i, t)) :
    s.train? i = some t ∧ t.vehicle = v := by
  have live := mem_liveTrains.mp (List.mem_of_find?_eq_some h)
  have own := List.find?_some h
  exact ⟨live.2, by simpa using own⟩

theorem course_dropReport {ring : Work → Prop} {lists : Prop} (s : State) : Course ring lists s s.dropReport := (Aside.latch s _).course

/-- The work of an event ends (R11): what its end does is work of any event. -/
theorem course_endEvent {ring : Work → Prop} {lists : Prop} {s t : State} (c : Course ring lists s t) (op : s.part = .operating)
    (part : t.part = s.part) (b : State) : Course ring lists s (endEvent b t) :=
  c.trans (Works.course (fun rough loose _ => does_endEvent (on := eventWork ring rough loose _) trivial trivial trivial b t) (part.trans op))

theorem course_takeArrive {s : State} {p i : Nat} {t : Train} (op : s.part = .operating) (hx : s.train? i = some t) (a : Nat)
    (clamped : Bool) (hp : s.platformOk p = true) {lists : Prop} : Course arrivalRing lists s (s.takeArrive p i t a clamped) :=
  Works.course (fun rough loose _ => does_takeArrive (on := eventWork arrivalRing rough loose _) trivial trivial trivial trivial trivial s hx a
    clamped (.inr hp)) op

theorem course_takeDepart {s : State} {p i : Nat} {t : Train} (op : s.part = .operating) (hx : s.train? i = some t) (a : Nat)
    (clamped : Bool) {lists : Prop} : Course departureRing lists s (s.takeDepart p i t a clamped) := by
  unfold takeDepart
  split
  · have works : Works departureRing (· = i) s (s.departTrain i t p a clamped) := fun rough loose q =>
      does_departTrain (on := eventWork departureRing rough loose _) trivial trivial trivial trivial trivial trivial s hx p a clamped rfl q
    refine ⟨works.keeps op fun r q j hj y hy => ?_, works.ringKept, works.supplyKept, works.linksKept, .inr works.trains⟩
    cases hj
    obtain ⟨z, hz, aloof⟩ := aloof_departTrain r q hx p a clamped
    cases hy.symm.trans hz
    exact aloof.2
  · exact s.course_dropReport

theorem course_takePassage {ring : Work → Prop} {lists : Prop} {s : State} (op : s.part = .operating) (passage : ring .passage)
    (foreign : ring .foreign) (v p time : Nat) {owner : State → Nat → Train → Nat → Bool → State}
    (h : ∀ i t a c, s.train? i = some t → Course ring lists s (owner s i t a c)) : Course ring lists s (s.takePassage v p time owner) := by
  unfold takePassage
  dsimp only
  split
  · split
    · next i t found => exact h i t _ _ (trainByVehicle_live found).1
    · exact Works.course (fun rough loose _ => does_foreignPassage (on := eventWork ring rough loose _) passage foreign s v p _) op
  · exact s.course_dropReport

/-- The bad-frame count of the Field Link moves (R190). -/
theorem aside_counted {on : Work → Prop} (counts : on (.link .badCount)) (s : State) (f : Links → Nat) :
    Aside on s (s.modLinks fun l => { l with badCount := f l }) :=
  .modLinks s rfl fun p => by
    cases p with
    | badCount => exact .inl counts
    | _ => exact .inr rfl

theorem course_badFieldFrame {ring : Work → Prop} {lists : Prop} (counts : ring (.link .badCount)) (s : State) : Course ring lists s s.badFieldFrame := by
  unfold badFieldFrame
  split
  · exact (((aside_counted counts s _).trans (.latch _ _)).trans (.judgeLines _)).course
  · exact (aside_counted counts s _).course

/-- A report comes to what its owner does with it. -/
theorem course_takeReport {ring : Work → Prop} {lists : Prop} (counts : ring (.link .badCount)) (s : State) (time : Nat) (indexOk : Bool) {owner : State → State}
    (part : ∀ t, (owner t).part = t.part)
    (h : ∀ t : State, t.part = .operating → t.tables = s.tables → indexOk = true → Course ring lists t (owner t)) :
    Course ring lists s (s.takeReport time indexOk owner) := by
  have counted : Course ring lists s (s.modLinks fun l => { l with badCount := 0 }) := (aside_counted counts s fun _ => 0).course
  have tables : (s.modLinks fun l => { l with badCount := 0 }).tables = s.tables := rfl
  unfold takeReport
  dsimp only
  generalize (s.modLinks fun l => { l with badCount := 0 }) = u at counted tables ⊢
  split
  · split
    · exact counted
    · next op =>
      have operating : u.part = .operating := by cases hp : u.part with | operating => rfl | unconfigured => exact absurd hp op
      refine counted.trans ?_
      split
      · next ok => exact course_endEvent (h u operating tables ok) operating (part u) _
      · exact course_endEvent (course_dropReport u) operating rfl _
  · exact course_badFieldFrame counts s

end State

end Sys2Proof.Machine

/-! Pattern Control: the change of the pattern, degraded working and the save area (R163 to R172). -/

namespace Sys2Proof.Machine
open Sys2Proof

namespace State

/-! ### Pattern Control alone -/

theorem keeps_modControl (s : State) (f : PatternControl → PatternControl)
    (patterns : s.Configured → (f s.control).active < Config.patternEntries ∧ (f s.control).resume < Config.patternEntries)
    (saves : s.SavesOk → (s.modControl f).SavesOk) : Keeps s (s.modControl f) :=
  Alongside.keeps ⟨fun h => sound_of_pool_of_sized h.sized h.header (show (s.modControl f).pool = s.pool from rfl) h,
    fun _ c => ⟨c.checked, c.empty, patterns c, c.trains⟩, fun _ => .refl _, .inr fun _ => rfl, fun _ x hx => ⟨x, hx, rfl⟩,
    fun _ y hy => ⟨y, hy, rfl, rfl⟩, fun _ => rfl, rfl, rfl, rfl⟩ fun _ _ v => saves v

theorem course_modControl {ring : Work → Prop} {lists : Prop} (s : State) (f : PatternControl → PatternControl)
    (patterns : s.Configured → (f s.control).active < Config.patternEntries ∧ (f s.control).resume < Config.patternEntries)
    (saves : s.SavesOk → (s.modControl f).SavesOk) : Course ring lists s (s.modControl f) :=
  ⟨s.keeps_modControl f patterns saves, platforms_of_same rfl, .of_same rfl rfl, .of_same rfl, .inr rfl⟩

/-- The save area as it stands, under new patterns. -/
theorem savesOk_patterns {s : State} {f : PatternControl → PatternControl} (v : s.SavesOk) (saves : (f s.control).saves = s.control.saves)
    (degraded : (f s.control).degraded = s.control.degraded) : (s.modControl f).SavesOk where
  live e he := v.live e (saves ▸ he)
  marked i x hx m := by
    obtain ⟨e, he, own⟩ := v.marked i x hx m
    exact ⟨e, saves.symm ▸ he, own⟩
  once := saves.symm ▸ v.once
  order := saves.symm ▸ v.order
  clear h := saves.trans (v.clear (degraded ▸ h))
  values e he := v.values e (saves ▸ he)
  services := v.services

/-- The budgets of a pattern come into force and the queues are served (R117). -/
theorem course_budgets {ring : Work → Prop} {lists : Prop} {s : State} (budgets : ring .budgets) (op : s.part = .operating) (q : Nat) :
    Course ring lists s (s.setBudgets q).serveAll :=
  Works.course (fun rough loose _ => (does_setBudgets (on := eventWork ring rough loose _) budgets s q).trans (does_serveAll trivial _)) op

theorem course_setPattern {ring : Work → Prop} {lists : Prop} {s : State} (budgets : ring .budgets) (op : s.part = .operating) {q : Nat}
    (hq : s.Configured → q < Config.patternEntries) : Course ring lists s (s.setPattern q) :=
  .trans (s.course_modControl (fun c => { c with active := q }) (fun c => ⟨hq c, c.patterns.2⟩) fun v => savesOk_patterns v rfl rfl)
    (course_budgets budgets (s := s.modControl fun c => { c with active := q }) op q)

/-! ### AMEND SAVE ENTRY (R171) -/

theorem clampLateness_range (x : Int) : -36000 ≤ clampLateness x ∧ clampLateness x ≤ 36000 := by
  unfold clampLateness clampInt; split
  · omega
  · split <;> omega

theorem course_amendSave {ring : Work → Prop} {lists : Prop} (s : State) (h : Handle) (lateness : Option Int) {service : Option Nat}
    (hs : okIfGiven serviceOk service = true) : Course ring lists s (s.amendSave h lateness service) := by
  refine s.course_modControl _ (fun c => c.patterns) fun v => ?_
  have amended : ∀ e : SaveEntry, (if e.train = h then { e with
      lateness := (lateness.map clampLateness).getD e.lateness, service := service.getD e.service } else e).train = e.train := fun e => by
    split <;> rfl
  have slots : ((s.amendSave h lateness service).control.saves.map fun e => e.train.slot) = s.control.saves.map fun e => e.train.slot := by
    simp only [amendSave, modControl_control, List.map_map]
    exact List.map_congr_left fun e _ => congrArg Handle.slot (amended e)
  refine ⟨fun e he => ?_, fun i x hx m => ?_, slots ▸ v.once, slots ▸ v.order, fun clear => ?_, fun e he => ?_, v.services⟩
  · obtain ⟨f, hf, rfl⟩ := List.mem_map.mp he
    rw [amended]
    exact v.live f hf
  · obtain ⟨e, he, own⟩ := v.marked i x hx m
    exact ⟨_, List.mem_map_of_mem he, (amended e).trans own⟩
  · exact (congrArg (List.map _) (v.clear clear)).trans List.map_nil
  · obtain ⟨f, hf, rfl⟩ := List.mem_map.mp he
    obtain ⟨low, high, early, late⟩ := v.values f hf
    split
    · refine ⟨?_, ?_, ?_, ?_⟩
      · cases service with
        | none => exact low
        | some n => exact of_decide_eq_true (Bool.and_eq_true_iff.mp hs).1
      · cases service with
        | none => exact high
        | some n => exact of_decide_eq_true (Bool.and_eq_true_iff.mp hs).2
      · cases lateness with
        | none => exact early
        | some d => exact (clampLateness_range d).1
      · cases lateness with
        | none => exact late
        | some d => exact (clampLateness_range d).2
    · exact ⟨low, high, early, late⟩

/-! ### Trains rebased -/

/-- Trains amended in what neither the gate nor the ring reads, and Pattern Control moved. -/
structure Rebased (s t : State) : Prop where
  part        : t.part = s.part
  tables      : t.tables = s.tables
  sects       : t.sects = s.sects
  links       : t.links = s.links
  substations : t.substations = s.substations
  platforms   : t.platforms = s.platforms
  list        : t.pool.trains = s.pool.trains
  incidents   : t.pool.incidents = s.pool.incidents
  queues      : t.pool.queues = s.pool.queues
  handles     : ∀ i, t.handle i = s.handle i
  forth       : ∀ i x, s.train? i = some x → ∃ y, t.train? i = some y ∧ y.state = x.state
  back        : ∀ i y, t.train? i = some y → ∃ x, s.train? i = some x ∧ y.state = x.state ∧ y.vehicle = x.vehicle ∧
    y.origin = x.origin ∧ y.position = x.position
  sound       : s.Sound → t.Sound

namespace Rebased
variable {s t u : State}

theorem refl (s : State) : Rebased s s :=
  ⟨rfl, rfl, rfl, rfl, rfl, rfl, rfl, rfl, rfl, fun _ => rfl, fun _ x hx => ⟨x, hx, rfl⟩, fun _ y hy => ⟨y, hy, rfl, rfl, rfl, rfl⟩, id⟩

theorem trans (a : Rebased s t) (b : Rebased t u) : Rebased s u where
  part := b.part.trans a.part
  tables := b.tables.trans a.tables
  sects := b.sects.trans a.sects
  links := b.links.trans a.links
  substations := b.substations.trans a.substations
  platforms := b.platforms.trans a.platforms
  list := b.list.trans a.list
  incidents := b.incidents.trans a.incidents
  queues := b.queues.trans a.queues
  handles i := (b.handles i).trans (a.handles i)
  forth i x hx := by
    obtain ⟨y, hy, state⟩ := a.forth i x hx
    obtain ⟨z, hz, state'⟩ := b.forth i y hy
    exact ⟨z, hz, state'.trans state⟩
  back i z hz := by
    obtain ⟨y, hy, state, vehicle, origin, position⟩ := b.back i z hz
    obtain ⟨x, hx, state', vehicle', origin', position'⟩ := a.back i y hy
    exact ⟨x, hx, state.trans state', vehicle.trans vehicle', origin.trans origin', position.trans position'⟩
  sound h := b.sound (a.sound h)

theorem modControl (s : State) (f : PatternControl → PatternControl) : Rebased s (s.modControl f) :=
  ⟨rfl, rfl, rfl, rfl, rfl, rfl, rfl, rfl, rfl, fun _ => rfl, fun _ x hx => ⟨x, hx, rfl⟩, fun _ y hy => ⟨y, hy, rfl, rfl, rfl, rfl⟩,
    fun h => sound_of_pool_of_sized h.sized h.header (show (s.modControl f).pool = s.pool from rfl) h⟩

theorem modTrain (s : State) (i : Nat) {f : Train → Train}
    (same : ∀ x, (f x).state = x.state ∧ (f x).vehicle = x.vehicle ∧ (f x).origin = x.origin ∧ (f x).position = x.position) :
    Rebased s (s.modTrain i f) where
  part := rfl
  tables := rfl
  sects := rfl
  links := rfl
  substations := rfl
  platforms := rfl
  list := rfl
  incidents := rfl
  queues := rfl
  handles j := handle_modTrain ..
  forth j x hx := by
    refine ⟨_, (train_of_modTrain rfl hx).2, ?_⟩
    split
    · exact (same x).1
    · rfl
  back j y hy := by
    rw [train?_modTrain] at hy
    split at hy
    · obtain ⟨x, hx, rfl⟩ := Option.map_eq_some_iff.mp hy
      exact ⟨x, hx, same x⟩
    · exact ⟨y, hy, rfl, rfl, rfl, rfl⟩
  sound h := sound_modTrain h i f fun x hx => by
    rw [Train.Within, (same x).2.2.1, (same x).2.2.2]; exact h.within hx

theorem foldl {α : Type} {f : State → α → State} (hf : ∀ t x, Rebased t (f t x)) (l : List α) (s : State) : Rebased s (l.foldl f s) :=
  foldl_keeps (P := Rebased s) (fun t x ht => ht.trans (hf t x)) l (refl s)

/-- What remains to be said of a rebase: the patterns and the save area. -/
theorem course {ring : Work → Prop} {lists : Prop} (r : Rebased s t)
    (patterns : s.Configured → t.control.active < Config.patternEntries ∧ t.control.resume < Config.patternEntries)
    (saves : s.Sound → s.SavesOk → t.SavesOk) : Course ring lists s t := by
  refine ⟨Alongside.keeps ⟨r.sound, fun _ c => ⟨fun h => (startFailure_congr r.tables).trans (c.checked (r.part ▸ h)), fun h => ?_,
    patterns c, fun i y hy => ?_⟩, fun k => ?_, .inr fun k => ?_, r.forth, fun i y hy => ?_, r.handles, r.list, r.incidents, r.queues⟩
    fun h _ => saves h, platforms_of_same r.platforms, .of_same r.sects r.substations, .of_same r.links, .inr r.list⟩
  · obtain ⟨trains, incidents, queues⟩ := c.empty (r.part ▸ h)
    exact ⟨r.list.trans trains, r.incidents.trans incidents, fun p => by rw [queue, r.queues]; exact queues p⟩
  · obtain ⟨x, hx, -, -, origin, position⟩ := r.back i y hy
    simp only [platformOk, r.tables, origin, position]
    exact c.trains i x hx
  · rw [substation, substation, r.substations]
  · rw [substation, substation, r.substations]
  · obtain ⟨x, hx, state, vehicle, -⟩ := r.back i y hy
    exact ⟨x, hx, state, vehicle⟩

end Rebased

/-! ### ENTER DEGRADED from the clear flag (R166) -/

/-- The save entry made for a train. -/
def entryOf (s : State) (e : Nat × Train) : SaveEntry := ⟨s.handle e.1, e.2.service, clampLateness e.2.lateness⟩

theorem rebased_saveTrain (s : State) (i : Nat) (t : Train) : Rebased s (s.saveTrain i t) :=
  (Rebased.modControl s _).trans (.modTrain _ i fun _ => ⟨rfl, rfl, rfl, rfl⟩)

theorem saveTrains_spec (l : List (Nat × Train)) (s : State) :
    (l.foldl (fun u e => u.saveTrain e.1 e.2) s).control = { s.control with saves := s.control.saves ++ l.map s.entryOf } ∧
    ∀ i y, (l.foldl (fun u e => u.saveTrain e.1 e.2) s).train? i = some y →
      ∃ x, s.train? i = some x ∧ y.service = x.service ∧ (y.saved = true ↔ x.saved = true ∨ i ∈ l.map Prod.fst) := by
  induction l generalizing s with
  | nil => exact ⟨by simp, fun i y hy => ⟨y, hy, rfl, by simp⟩⟩
  | cons e l ih =>
    obtain ⟨control, trains⟩ := ih (s.saveTrain e.1 e.2)
    have entries : (s.saveTrain e.1 e.2).entryOf = s.entryOf := by
      funext d
      rw [entryOf, (s.rebased_saveTrain e.1 e.2).handles, ← entryOf]
    refine ⟨?_, fun i y hy => ?_⟩
    · rw [List.foldl_cons, control, entries, List.map_cons]
      show { s.control with saves := (s.control.saves ++ [s.entryOf e]) ++ l.map s.entryOf } = _
      rw [List.append_assoc]; rfl
    · obtain ⟨z, hz, service, marked⟩ := trains i y hy
      rw [saveTrain, train?_modTrain] at hz
      rw [List.map_cons, List.mem_cons, marked]
      split at hz
      · next own =>
        obtain ⟨x, hx, rfl⟩ := Option.map_eq_some_iff.mp hz
        exact ⟨x, hx, service, by simp [own]⟩
      · next other => exact ⟨z, hz, service, by simp [Ne.symm other]⟩

theorem course_saveTrains {ring : Work → Prop} {lists : Prop} (s : State) (clear : s.control.degraded = false) : Course ring lists s
    ((s.savedTrains.foldl (fun u e => u.saveTrain e.1 e.2) s).modControl fun c => { c with degraded := true }) := by
  obtain ⟨control, trains⟩ := saveTrains_spec s.savedTrains s
  have rebased : Rebased s (s.savedTrains.foldl (fun u e => u.saveTrain e.1 e.2) s) := .foldl (f := fun (u : State) (e : Nat × Train) => u.saveTrain e.1 e.2)
    (fun t e => t.rebased_saveTrain e.1 e.2) _ s
  generalize s.savedTrains.foldl (fun u e => u.saveTrain e.1 e.2) s = t at control trains rebased ⊢
  have all := rebased.trans (.modControl t fun c => { c with degraded := true })
  refine all.course (fun c => ?_) fun h v => ?_
  · rw [modControl_control, control]; exact c.patterns
  have none := v.clear clear
  have unmarked : ∀ i x, s.train? i = some x → x.saved ≠ true := fun i x hx m => by
    obtain ⟨e, he, -⟩ := v.marked i x hx m
    rw [none] at he; cases he
  have saves : (t.modControl fun c => { c with degraded := true }).control.saves = s.savedTrains.map s.entryOf := by
    rw [modControl_control, control, none]; rfl
  have slots : ((t.modControl fun c => { c with degraded := true }).control.saves.map fun e => e.train.slot) = s.savedTrains.map Prod.fst := by
    rw [saves, List.map_map]; rfl
  have order : (s.savedTrains.map Prod.fst).Sublist s.pool.trains := (List.filter_sublist.map _).trans s.liveTrains_slots_sublist
  have entry : ∀ e ∈ (t.modControl fun c => { c with degraded := true }).control.saves, ∃ d, d ∈ s.savedTrains ∧ s.entryOf d = e :=
    fun e he => List.mem_map.mp (saves ▸ he)
  refine ⟨fun e he => ?_, fun i y hy m => ?_, slots ▸ liveTrains_once h _, slots ▸ rebased.list ▸ order, fun e => (nomatch e),
    fun e he => ?_, fun i y hy => ?_⟩
  · obtain ⟨d, hd, rfl⟩ := entry e he
    obtain ⟨y, hy, -⟩ := rebased.forth d.1 d.2 (mem_liveTrains.mp (List.mem_filter.mp hd).1).2
    obtain ⟨x, hx, -, marked⟩ := trains d.1 y hy
    exact ⟨rebased.handles _, y, hy, marked.mpr (.inr (List.mem_map_of_mem hd))⟩
  · obtain ⟨x, hx, -, marked⟩ := trains i y hy
    obtain ⟨d, hd, rfl⟩ := List.mem_map.mp ((marked.mp m).resolve_left (unmarked i x hx))
    exact ⟨s.entryOf d, saves.symm ▸ List.mem_map_of_mem hd, (rebased.handles _).symm⟩
  · obtain ⟨d, hd, rfl⟩ := entry e he
    have range := v.services d.1 d.2 (mem_liveTrains.mp (List.mem_filter.mp hd).1).2
    exact ⟨range.1, range.2, clampLateness_range _⟩
  · obtain ⟨x, hx, service, -⟩ := trains i y hy
    rw [service]; exact v.services i x hx

theorem course_enterFromClear {ring : Work → Prop} {lists : Prop} {s : State} (budgets : ring .budgets) (op : s.part = .operating) {q : Nat}
    (hq : q < Config.patternEntries) (clear : s.control.degraded = false) : Course ring lists s (s.enterFromClear q) := by
  have resumed : Course ring lists s (s.modControl fun c => { c with resume := c.active }) :=
    s.course_modControl _ (fun c => ⟨c.patterns.1, c.patterns.1⟩) fun v => savesOk_patterns v rfl rfl
  have saved : Rebased (s.modControl fun c => { c with resume := c.active })
      ((s.modControl fun c => { c with resume := c.active }).savedTrains.foldl (fun u e => u.saveTrain e.1 e.2)
        (s.modControl fun c => { c with resume := c.active })) := .foldl (f := fun (u : State) (e : Nat × Train) =>
          u.saveTrain e.1 e.2) (fun t e => t.rebased_saveTrain e.1 e.2) _ _
  refine (resumed.trans (course_saveTrains _ clear)).trans (course_setPattern budgets ?_ fun _ => hq)
  exact saved.part.trans op

/-! ### RESUME (R172) -/

theorem rebased_restoreTrain (s : State) (e : SaveEntry) : Rebased s (s.restoreTrain e) := .modTrain s _ fun _ => ⟨rfl, rfl, rfl, rfl⟩

theorem restoreTrains_spec (l : List SaveEntry) (s : State) (values : ∀ e ∈ l, 1 ≤ e.service ∧ e.service ≤ 9999) :
    ∀ i y, (l.foldl restoreTrain s).train? i = some y →
      ∃ x, s.train? i = some x ∧ (1 ≤ x.service ∧ x.service ≤ 9999 → 1 ≤ y.service ∧ y.service ≤ 9999) ∧
        (y.saved = true → x.saved = true ∧ ∀ e ∈ l, e.train.slot ≠ i) := by
  induction l generalizing s with
  | nil => exact fun i y hy => ⟨y, hy, id, fun m => ⟨m, fun _ he => (nomatch he)⟩⟩
  | cons e l ih =>
    intro i y hy
    obtain ⟨z, hz, service, marked⟩ := ih (s.restoreTrain e) (fun f hf => values f (List.mem_cons_of_mem _ hf)) i y hy
    rw [restoreTrain, train?_modTrain] at hz
    split at hz
    · obtain ⟨x, hx, rfl⟩ := Option.map_eq_some_iff.mp hz
      exact ⟨x, hx, fun _ => service (values e (List.mem_cons_self ..)), fun m => (nomatch (marked m).1)⟩
    · next other =>
      refine ⟨z, hz, service, fun m => ⟨(marked m).1, fun f hf => ?_⟩⟩
      rcases List.mem_cons.mp hf with rfl | later
      · exact other
      · exact (marked m).2 f later

theorem course_restoreTrains {ring : Work → Prop} {lists : Prop} (s : State) : Course ring lists s
    ((s.control.saves.foldl restoreTrain s).modControl fun c => { c with saves := [], degraded := false }) := by
  have rebased : Rebased s (s.control.saves.foldl restoreTrain s) := .foldl rebased_restoreTrain _ s
  have control : (s.control.saves.foldl restoreTrain s).control = s.control :=
    foldl_keeps (f := restoreTrain) (P := fun t : State => t.control = s.control) (fun _ _ ht => ht) _ rfl
  refine (rebased.trans (.modControl _ _)).course (fun c => ?_) fun h v => ?_
  · rw [modControl_control, control]; exact c.patterns
  have trains := restoreTrains_spec s.control.saves s fun e he => ⟨(v.values e he).1, (v.values e he).2.1⟩
  refine ⟨fun _ he => (nomatch he), fun i y hy m => ?_, .nil, List.nil_sublist _, fun _ => rfl, fun _ he => (nomatch he), fun i y hy => ?_⟩
  · obtain ⟨x, hx, -, marked⟩ := trains i y hy
    obtain ⟨e, he, own⟩ := v.marked i x hx (marked m).1
    exact absurd (congrArg Handle.slot own) ((marked m).2 e he)
  · obtain ⟨x, hx, service, -⟩ := trains i y hy
    exact service (v.services i x hx)

theorem course_leaveDegraded {ring : Work → Prop} {lists : Prop} {s : State} (budgets : ring .budgets) (op : s.part = .operating) :
    Course ring lists s s.leaveDegraded :=
  .trans (course_setPattern budgets op fun c => c.patterns.2) (course_restoreTrains _)

end State

end Sys2Proof.Machine

/-! What every command comes to: the requests. -/

namespace Sys2Proof.Machine
open Sys2Proof

/-! ### What the checks of a request have found -/

section Checks
variable {P : State → Prop} {s : State}

theorem operating_state (hs : P s) {r : Reply} (hr : s.part = .operating → P r.state) : P (whenOperating s r).state :=
  need_state hs fun h => hr (by simpa using h)

theorem liveTrain_state (hs : P s) {h : Handle} {r : Train → Reply} (hr : ∀ x, s.train? h.slot = some x → P (r x).state) :
    P (withTrain s h r).state := by
  refine withCurrent_state hs ?_
  split
  · next hx => exact hr _ hx
  · exact hs

theorem liveIncident_state (hs : P s) {h : Handle} {r : Incident → Reply} (hr : ∀ c, s.incident? h.slot = some c → P (r c).state) :
    P (withIncident s h r).state := by
  refine withCurrent_state hs ?_
  split
  · next hc => exact hr _ hc
  · exact hs

end Checks

section Requests
open State
variable {ring : Work → Prop} {lists : Prop} {s t : State}

theorem Course.refl (s : State) : Course ring lists s s := (Aside.refl s).course

theorem course_next {u : State} (e : Host.Outcome.next u = (.next t : Out)) (h : Course ring lists s u) : Course ring lists s t :=
  Host.Outcome.next.inj e ▸ h

theorem course_answer {code tag : Nat} {r : Reply} (e : answer code tag r = .next t) (h : Course ring lists s r.state) :
    Course ring lists s t := course_next e (h.trans (Aside.reply _ _).course)

/-- An event of which the work is work of edits, up to its end. -/
theorem course_event {u : State} (op : s.part = .operating) (w : ∀ on : Work → Prop, on .serve → on .withdraw → on .trains → on .command →
    on .supply → on .ends → (∀ p, ring (.part p) → on (.part p)) → Does on s u) (b : State) : Course ring lists s (endEvent b u) :=
  Works.course (fun rough loose _ => (w (eventWork ring rough loose _) trivial trivial trivial trivial trivial trivial fun _ => id).trans
    (does_endEvent trivial trivial trivial b u)) op

theorem course_execWalk {tag list platform : Nat} {after : Handle} (e : execWalk tag list platform after s = .next t) :
    Course ring lists s t := by
  have same : Course ring lists s s := .refl s
  refine course_answer e (whenOperating_state same (withOptional_state same (withValue_state same fun l => ?_)))
  exact need_state same fun _ => by rw [found_state]; exact same

theorem course_execFindTrain {tag keyKind key : Nat} {after : Handle} (e : execFindTrain tag keyKind key after s = .next t) :
    Course ring lists s t := by
  have same : Course ring lists s s := .refl s
  refine course_answer e (whenOperating_state same (withOptional_state same (need_state same fun _ => ?_)))
  exact need_state same fun _ => by rw [found_state]; exact same

theorem course_execFindIncident {tag kind locKind loc : Nat} {after : Handle}
    (e : execFindIncident tag kind locKind loc after s = .next t) : Course ring lists s t := by
  have same : Course ring lists s s := .refl s
  refine course_answer e (whenOperating_state same (withOptional_state same (withValue_state same fun k => ?_)))
  refine withValue_state same fun l => need_state same fun _ => ?_
  rw [found_state]; exact same

theorem course_execCreateTrain {tag vehicle service origin tripStart : Nat} {manual : Option Bool}
    (e : execCreateTrain tag vehicle service origin tripStart manual s = .next t) : Course ring True s t := by
  have same : Course ring True s s := .refl s
  refine course_answer e (operating_state same fun op => need_state same fun ranges => need_state same fun alone => ?_)
  refine need_state same fun room => need_state same fun _ => ?_
  simp only [Bool.and_eq_true] at ranges
  obtain ⟨⟨⟨-, service'⟩, -⟩, origin'⟩ := ranges
  obtain ⟨low, high⟩ := Bool.and_eq_true_iff.mp service'
  have place := (Bool.and_eq_true_iff.mp origin').1
  let x := s.newTrain vehicle service origin tripStart (manual.getD false)
  have created : ∀ h : s.Sound, s.createTrain x = s ∨ ∃ i, Joins s (s.createTrain x) i x := fun h =>
    createTrain_cases h x ⟨(State.Ready.platform_lt ⟨h, op⟩ place : origin < _), fun _ hp => (nomatch hp)⟩
  have keeps : ∀ h : s.Sound, Keeps s (s.createTrain x) := fun h => by
    rcases created h with none | ⟨i, joins⟩
    · rw [none]; exact (Aside.refl (on := ring) s).keeps
    · exact joins.keeps op (Option.isNone_iff_eq_none.mp alone) (of_decide_eq_true room) ⟨of_decide_eq_true low, of_decide_eq_true high⟩
        place rfl rfl rfl
  dsimp only [done]
  refine course_endEvent ⟨⟨fun h => (keeps h).sound h, fun h => (keeps h).queues h,
    fun h => (keeps h).configured h, fun h => (keeps h).waiters h, fun h => (keeps h).vehicles h, fun h => (keeps h).caps h,
    fun h => (keeps h).saves h⟩, platforms_of_same ?_, .of_calm (calm_createTrain s x), (calm_createTrain s x).linksKept, .inl trivial⟩ op (calm_createTrain s x).part s
  unfold createTrain
  split
  · rfl
  · next a => exact (allocate_rest a).1

theorem course_execAmendTrain {tag : Nat} {h : Handle} {service origin tripStart : Option Nat} {manual : Option Bool}
    (e : execAmendTrain tag h service origin tripStart manual s = .next t) : Course ring lists s t := by
  have same : Course ring lists s s := .refl s
  refine course_answer e (operating_state same fun op => withTrain_state same fun x => need_state same fun ranges => ?_)
  simp only [Bool.and_eq_true] at ranges
  exact need_state same fun _ => course_event op (fun _ serve withdraw tr _ _ _ _ =>
    .trans (does_amendFields tr s h.slot ranges.1.1 ranges.2) (does_amendManual tr serve withdraw _ h.slot manual)) s

theorem course_execForceDepart {tag : Nat} {h : Handle} (e : execForceDepart tag h s = .next t) : Course ring lists s t := by
  have same : Course ring lists s s := .refl s
  refine course_answer e (operating_state same fun op => liveTrain_state same fun x hx => need_state same fun may => ?_)
  exact course_event op (fun _ _ withdraw tr _ _ _ _ => does_forceDeparture tr withdraw s hx may) s

theorem course_retireRecord {i : Nat} (op : s.part = .operating) : Course retirementRing True s (s.retireRecord i).state := by
  have same : Course retirementRing True s s := .refl s
  unfold retireRecord
  split
  · exact same
  · next x hx => exact course_endEvent (course_retireTrain op (train?_eq_some.mpr hx)) op (s.steady_retireTrain i x).part s
  · next c hc => exact need_state same fun _ => course_event op (fun _ _ _ _ command _ _ _ =>
      does_retireIncident command s (Option.isSome_of_eq_some (incident?_eq_some.mpr hc))) s
  · exact course_event op (fun _ _ _ _ _ _ _ _ => s.does_retireAnn i) s

theorem course_execRaiseIncident {tag severity locKind loc : Nat} {restr : RestrictionArg} {ann : AnnouncementArg}
    (e : execRaiseIncident tag severity locKind loc restr ann s = .next t) : Course ring lists s t := by
  have same : Course ring lists s s := .refl s
  refine course_answer e (operating_state same fun op => need_state same fun _ => withValue_state same fun l => ?_)
  refine withValue_state same fun r => withValue_state same fun a => need_state same fun room => need_state same fun _ => ?_
  dsimp only [done]
  exact course_event op (fun _ serve withdraw _ _ _ _ _ => does_createWith (fun b u => does_holdsBegin serve withdraw b u) s _
    (of_decide_eq_true room) rfl) s

theorem course_execAmendIncident {tag : Nat} {h : Handle} {severity : Option Nat} {restr : Option RestrictionArg}
    {ann : Option AnnouncementArg} (e : execAmendIncident tag h severity restr ann s = .next t) : Course ring lists s t := by
  have same : Course ring lists s s := .refl s
  refine course_answer e (operating_state same fun op => liveIncident_state same fun c hc => need_state same fun _ => ?_)
  refine need_state same fun _ => withValue_state same fun r => withValue_state same fun a => ?_
  exact course_event op (fun _ serve withdraw _ command _ _ _ =>
    .trans (.trans (does_amendSeverity command s (.inr (Option.isSome_of_eq_some hc)) severity)
      (does_amendRestriction serve withdraw _ h.slot r)) (does_amendAnnouncement command _ h.slot a)) s

theorem course_execAcknowledge {tag : Nat} {h : Handle} (e : execAcknowledge tag h s = .next t) : Course ring lists s t := by
  have same : Course ring lists s s := .refl s
  refine course_answer e (operating_state same fun op => withIncident_state same fun c => need_state same fun _ => ?_)
  exact course_event op (fun _ _ _ _ command _ _ _ => does_acknowledgeIncident command s h.slot c) s

theorem course_execClear {tag : Nat} {h : Handle} (e : execClear tag h s = .next t) : Course ring lists s t := by
  have same : Course ring lists s s := .refl s
  refine course_answer e (operating_state same fun op => withIncident_state same fun c => need_state same fun _ => ?_)
  exact course_event op (fun _ _ _ _ command _ _ _ => s.does_enterCleared h.slot (.inl command)) s

theorem course_execCreateAnnouncement {tag platform message priority : Nat} {train : Handle} {minutes : Option Nat} {mode : ModeArg}
    (e : execCreateAnnouncement tag platform message priority train minutes mode s = .next t) : Course ring lists s t := by
  have same : Course ring lists s s := .refl s
  refine course_answer e (operating_state same fun op => withTrainArg_state same fun x => need_state same fun ranges => ?_)
  refine withValue_state same fun m => need_state same fun room => need_state same fun _ => ?_
  simp only [Bool.and_eq_true] at ranges
  have place := (Bool.and_eq_true_iff.mp ranges.1.1.1).1
  exact course_event op (fun on _ _ _ _ _ _ _ => .of_ready fun r =>
    s.does_createAnn room (ready_or on r fun r => (r.platform_lt place : platform < _)) rfl) s

theorem course_execAmendAnnouncement {tag : Nat} {h : Handle} {message minutes : Option Nat} {mode : Option ModeArg}
    (e : execAmendAnnouncement tag h message minutes mode s = .next t) : Course ring lists s t := by
  have same : Course ring lists s s := .refl s
  refine course_answer e (operating_state same fun op => withAnn_state same fun a => need_state same fun _ => ?_)
  exact withValue_state same fun m => course_event op (fun _ _ _ _ _ _ _ _ => s.does_amendAnn h.slot message minutes m) s

theorem course_execIsolate (may : ∀ p ∈ orderParts, ring (.part p)) {tag sect : Nat} {emergency : Bool} (e : execIsolate tag sect emergency s = .next t) : Course ring lists s t := by
  have same : Course ring lists s s := .refl s
  refine course_answer e (operating_state same fun op => need_state same fun _ => need_state same fun _ => ?_)
  refine need_state same fun _ => need_state same fun _ => ?_
  exact course_event op (fun _ serve withdraw _ _ supply ends part =>
    does_isolateSect serve withdraw ends supply (fun p hp => part p (may p hp)) s sect) s

theorem course_execEnergise (may : ∀ p ∈ orderParts, ring (.part p)) {tag sect : Nat} (e : execEnergise tag sect s = .next t) : Course ring lists s t := by
  have same : Course ring lists s s := .refl s
  refine course_answer e (operating_state same fun op => need_state same fun _ => need_state same fun _ => ?_)
  exact need_state same fun _ => course_event op (fun _ _ _ _ _ _ _ part =>
    does_energiseSect (fun p hp => part p (may p hp)) s sect) s

theorem course_execRestore (may : ∀ p ∈ orderParts, ring (.part p)) {tag sect : Nat} (e : execRestore tag sect s = .next t) : Course ring lists s t := by
  have same : Course ring lists s s := .refl s
  refine course_answer e (operating_state same fun op => need_state same fun _ => need_state same fun _ => ?_)
  exact need_state same fun _ => course_event op (fun _ _ _ _ _ _ _ part =>
    does_restoreSect (fun p hp => part p (may p hp)) s sect) s

theorem course_execSetWarningLevel (warning : ring (.part .warning)) {tag sect level : Nat} (e : execSetWarningLevel tag sect level s = .next t) : Course ring lists s t := by
  have same : Course ring lists s s := .refl s
  refine course_answer e (operating_state same fun op => need_state same fun _ => ?_)
  exact course_event op (fun _ _ _ _ _ _ _ part => does_setWarning (part _ warning) s sect _) s

theorem course_execSelectPattern (budgets : ring .budgets) {tag pattern : Nat} (e : execSelectPattern tag pattern s = .next t) : Course ring lists s t := by
  have same : Course ring lists s s := .refl s
  refine course_answer e (operating_state same fun op => need_state same fun ok => need_state same fun _ => ?_)
  exact need_state same fun _ => course_endEvent (course_setPattern budgets op fun _ => of_decide_eq_true ok) op (s.steady_setPattern pattern).part s

theorem course_execEnterDegraded (budgets : ring .budgets) {tag pattern : Nat} (e : execEnterDegraded tag pattern s = .next t) : Course ring lists s t := by
  have same : Course ring lists s s := .refl s
  refine course_answer e (operating_state same fun op => need_state same fun ok => need_state same fun _ => ?_)
  have entered : Course ring lists s (if s.control.degraded then s.setPattern pattern else s.enterFromClear pattern) ∧
      (if s.control.degraded then s.setPattern pattern else s.enterFromClear pattern).part = s.part := by
    split
    · exact ⟨course_setPattern budgets op fun _ => of_decide_eq_true ok, (s.steady_setPattern pattern).part⟩
    · next clear => exact ⟨course_enterFromClear budgets op (of_decide_eq_true ok) (by simpa using clear), (s.steady_enterFromClear pattern).part⟩
  exact course_endEvent entered.1 op entered.2 s

theorem course_execResume (budgets : ring .budgets) {tag : Nat} (e : execResume tag s = .next t) : Course ring lists s t := by
  have same : Course ring lists s s := .refl s
  refine course_answer e (operating_state same fun op => need_state same fun _ => ?_)
  exact course_endEvent (course_leaveDegraded budgets op) op s.steady_leaveDegraded.part s

theorem course_execReadSaveEntry {tag : Nat} {h : Handle} (e : execReadSaveEntry tag h s = .next t) : Course ring lists s t := by
  have same : Course ring lists s s := .refl s
  refine course_answer e (whenOperating_state same (withTrain_state same fun x => need_state same fun _ => ?_))
  split <;> exact same

theorem course_execAmendSaveEntry {tag : Nat} {h : Handle} {lateness : Option Int} {service : Option Nat}
    (e : execAmendSaveEntry tag h lateness service s = .next t) : Course ring lists s t := by
  have same : Course ring lists s s := .refl s
  refine course_answer e (whenOperating_state same (withTrain_state same fun x => need_state same fun _ => ?_))
  refine need_state same fun _ => need_state same fun ok => ?_
  dsimp only
  split
  · exact course_amendSave s h lateness ok
  · exact same

theorem course_execSetTime (op : ring (.part .op)) {tag time : Nat} (e : execSetTime tag time s = .next t) : Course ring lists s t := by
  have same : Course ring lists s s := .refl s
  exact course_answer e (need_state same fun _ => need_state same fun _ => course_moveTime op s time)

theorem course_execLoadConfig {tag table first : Nat} {bytes : List Byte} (e : execLoadConfig tag table first bytes s = .next t) :
    Course ring lists s t := by
  have same : Course ring lists s s := .refl s
  refine course_answer e (need_state same fun _ => ?_)
  split
  · exact same
  · next idle =>
    exact need_state same fun _ => Course.trans (t := s.setTables (loadEntries s.tables table first (entriesOf table bytes)))
        ⟨s.keeps_setTables _ idle, platforms_of_same rfl, .of_same rfl rfl, .of_same rfl, .inr rfl⟩ (Aside.judgeLines _).course

/-- START moves every part of the ring and of the supply, and nothing of the links (R17). -/
def startWork : Work → Prop
  | .link _ => False
  | _ => True

theorem course_execStart {tag : Nat} (e : execStart tag s = .next t) : Course startWork lists s t := by
  have same : Course startWork lists s s := .refl s
  refine course_answer e ?_
  split
  · exact same
  · next idle =>
    split
    · exact same
    · next pass =>
      have started : Course startWork lists s s.startLine :=
        ⟨s.keeps_startLine idle pass, ⟨.inl trivial, .inl trivial, .inl trivial⟩,
          ⟨fun _ => .inl trivial, .inl trivial, .inl trivial, .inl trivial⟩, .of_same rfl, .inr rfl⟩
      exact started.trans (Aside.judgeLines _).course

theorem course_execConfigReload {tag : Nat} (e : execConfigReload tag s = .next t) : Course ring lists s t := by
  have same : Course ring lists s s := .refl s
  refine course_answer e ?_
  split
  · exact same
  · exact need_state same fun empty => Course.trans (t := s.setPart _) ⟨s.keeps_unconfigure empty, platforms_of_same rfl, .of_same rfl rfl, .of_same rfl, .inr rfl⟩
      (Aside.judgeLines _).course

theorem course_execReadAttention {tag : Nat} {cls : Option Nat} (e : execReadAttention tag cls s = .next t) : Course ring lists s t := by
  have same : Course ring lists s s := .refl s
  refine course_answer e (withValue_state same fun all => ?_)
  split
  · next b x _ =>
    cases x with
    | none => exact same
    | some x => exact ((Aside.modAttention s id).trans (.judgeLines _)).course
  · exact same

end Requests

end Sys2Proof.Machine

/-! What every command comes to: the clock, the reports, the status frames and the expiries; and the invariants of O56. -/

namespace Sys2Proof.Machine
open Sys2Proof

/-- Work on the given parts of the sections. -/
def partWork (l : List SectPart) : Work → Prop
  | .part p => p ∈ l
  | _ => False

/-- Work on the given parts of the links. -/
def linkWork (l : List LinkPart) : Work → Prop
  | .link p => p ∈ l
  | _ => False

theorem linkWork_of {l : List LinkPart} {p : LinkPart} (h : p ∈ l) : linkWork l (.link p) := h

/-- The work of a FEEDER report. -/
def feederWork : Work → Prop
  | .part p => p ∈ .breaker :: State.faultParts
  | .link .badCount => True
  | _ => False

/-- Work on the sections and substations as a substation goes UP or DOWN. -/
def transferWork : Work → Prop
  | .up | .link .badCount => True
  | .part p => p = .state ∨ p = .recovery
  | _ => False

/-- The work of a command on the ring, the supply and the links. -/
def ringOf : Instr → Work → Prop
  | .arrive .. => State.arrivalRing
  | .depart .. => State.departureRing
  | .retire .. => State.retirementRing
  | .coldReset => fun _ => True
  | .start _ => startWork
  | .feeder .. => feederWork
  | .operationExpiry _ | .lineTimeTick | .adjustTime .. => partWork State.faultParts
  | .isolate .. | .energise .. | .restore .. => partWork State.orderParts
  | .setWarningLevel .. => partWork [.warning]
  | .setTime .. => partWork [.op]
  | .substation .. => transferWork
  | .platformAlarm .. | .fieldBadFrame => linkWork [.badCount]
  | .fieldFrameByteGap => linkWork [.badCount, .fieldRx]
  | .controlFrameByteGap => linkWork [.controlRx, .waiting]
  | .statusFrameByteGap => linkWork [.statusRx]
  | .linkRestart _ => linkWork [.badCount, .controlRx, .fieldRx, .statusRx, .waiting]
  | .selectPattern .. | .enterDegraded .. | .resume _ => (· = .budgets)
  | _ => fun _ => False

/-- The commands that move the train list (R24). -/
def movesTrains : Instr → Prop
  | .coldReset | .createTrain .. | .retire .. => True
  | _ => False

section Events
open State
variable {ring : Work → Prop} {lists : Prop} {s t : State}

theorem course_expire {u : State} {isDue : Bool} (w : ∀ on : Work → Prop, on .serve → on .withdraw → on .ends → on .trains → on .supply →
    (∀ i, on (.escalate i)) → (∀ p, ring (.part p) → on (.part p)) → Does on s (s.expire isDue u)) : Course ring lists s (s.expire isDue u) := by
  cases op : s.part with
  | unconfigured => rw [expire_idle (.inl op)]; exact .refl s
  | operating =>
    exact Works.course (fun rough loose _ => w (eventWork ring rough loose _) trivial trivial trivial trivial trivial (fun _ => trivial) fun _ => id) op

theorem course_takeExpiry (due : Reach) (s : State) (c : Instr) (may : ∀ i, c = .operationExpiry i → ∀ p ∈ faultParts, ring (.part p)) :
    Course ring lists s (s.takeExpiry due c) := by
  cases c with
  | departureExpiry i => exact course_expire fun _ serve withdraw ends tr _ _ _ => does_takeDeparture serve withdraw ends tr due s i
  | overdueExpiry i => exact course_expire fun _ serve withdraw ends tr _ _ _ => does_takeOverdue serve withdraw ends tr due s i
  | approachExpiry i => exact course_expire fun _ serve withdraw ends tr _ _ _ => does_takeApproach serve withdraw ends tr due s i
  | waitExpiry k h => exact course_expire fun _ serve withdraw ends _ _ _ _ => does_takeWait serve withdraw ends due s k h
  | leaseExpiry k h => exact course_expire fun _ serve withdraw ends tr _ _ _ => does_takeLease serve withdraw ends tr due s k h
  | operationExpiry i =>
    exact course_expire fun _ serve withdraw ends tr supply _ part =>
      does_takeOperation serve withdraw ends supply (fun p hp => part p (may i rfl p hp)) tr due s i
  | escalationExpiry i => exact course_expire fun _ serve withdraw ends _ _ up _ => does_takeEscalation serve withdraw ends due s i (up i)
  | restExpiry i => exact course_expire fun _ serve withdraw ends _ _ _ _ => does_takeRest serve withdraw ends due s i
  | startExpiry p => exact course_expire fun _ serve withdraw ends _ _ _ _ => does_takeStart serve withdraw ends due s p
  | stopExpiry p => exact course_expire fun _ serve withdraw ends _ _ _ _ => does_takeStop serve withdraw ends due s p
  | _ => exact .refl s

section
variable (may : ∀ p ∈ faultParts, ring (.part p))
include may

theorem course_takeDue (due : Reach) (s : State) : Course ring lists s (s.takeDue due) :=
  takeDue_keeps (P := Course ring lists s) (fun c u h => h.trans (course_takeExpiry due u c fun _ _ => may)) (.refl s)

theorem course_tick (s : State) : Course ring lists s s.tick := (course_takeDue may _ s).trans (aside_setTime _ _).course

theorem course_adjustTime (s : State) (d : Int) : Course ring lists s (s.adjustTime d) := by
  unfold adjustTime
  split
  · exact .refl s
  · exact ((course_takeDue may _ s).trans (aside_setTime _ _).course).trans (course_takeDue may _ _)

end

theorem course_takeStatus {p : Nat} {owner : State → State} (w : s.platformOk p = true → ∀ on : Work → Prop, on .command → Does on s (owner s)) :
    Course ring lists s (s.takeStatus p owner) := by
  unfold takeStatus
  split
  · exact .refl s
  · next op =>
    have operating : s.part = .operating := by cases hp : s.part with | operating => rfl | unconfigured => exact absurd hp op
    split
    · next ok => exact course_event operating (fun on _ _ _ command _ _ _ => w (Bool.and_eq_true_iff.mp ok).1 on command) s
    · exact ((Aside.latch s _).trans (.judgeLines _)).course

theorem course_execArrive {v p time : Nat} (e : execArrive v p time s = .next t) : Course arrivalRing lists s t := by
  refine course_next e (course_takeReport trivial s time _ (fun u => ?_) fun u op tables ok => ?_)
  · exact (u.still_takePassage v p time fun b i x a c => b.still_takeArrive p i x a c).part
  · exact course_takePassage op trivial trivial v p time fun i x a c hx =>
      course_takeArrive op hx a c (by rw [platformOk, tables]; exact ok)

theorem course_execDepart {v p time : Nat} (e : execDepart v p time s = .next t) : Course departureRing lists s t := by
  refine course_next e (course_takeReport trivial s time _ (fun u => ?_) fun u op _ _ => ?_)
  · exact (u.still_takePassage v p time fun b i x a c => b.still_takeDepart p i x a c).part
  · exact course_takePassage op trivial trivial v p time fun i x a c hx => course_takeDepart op hx a c

/-- A report whose work is work of edits. -/
theorem course_report (counts : ring (.link .badCount)) {time : Nat} {indexOk : Bool} {owner : State → State}
    (w : ∀ (on : Work → Prop) (u : State), on .serve → on .withdraw → on .ends → on .trains → on .supply →
      (∀ p, ring (.part p) → on (.part p)) → (ring .up → on .up) → Does on u (owner u)) :
    Course ring lists s (s.takeReport time indexOk owner) :=
  course_takeReport counts s time indexOk (fun u => ((w (fun _ => True) u trivial trivial trivial trivial trivial (fun _ _ => trivial) fun _ => trivial)
    (.inl trivial)).steady.part) fun u op _ _ =>
    Works.course (fun rough loose _ => w (eventWork ring rough loose _) u trivial trivial trivial trivial trivial (fun _ => id) id) op

theorem course_execControlFrameByteGap (control : ring (.link .controlRx)) (waiting : ring (.link .waiting)) (e : execControlFrameByteGap s = .next t) : Course ring lists s t := by
  have hunting : Aside ring s s.huntControl := .modLinks s rfl fun p => by
    cases p with
    | controlRx => exact .inl control
    | _ => exact .inr rfl
  refine course_next e ?_
  split
  · exact (hunting.trans (.reply _ _)).course
  · exact (hunting.trans (.modLinks _ rfl fun p => by
      cases p with
      | waiting => exact .inl waiting
      | _ => exact .inr rfl)).course

theorem aside_huntField (field : ring (.link .fieldRx)) (s : State) : Aside ring s s.huntField :=
  .modLinks s rfl fun p => by
    cases p with
    | fieldRx => exact .inl field
    | _ => exact .inr rfl

theorem aside_huntStatus (status : ring (.link .statusRx)) (s : State) : Aside ring s s.huntStatus :=
  .modLinks s rfl fun p => by
    cases p with
    | statusRx => exact .inl status
    | _ => exact .inr rfl

theorem course_execDirectiveSent (e : execDirectiveSent s = .next t) : Course ring lists s t := by
  refine course_next e ?_
  split
  · unfold sendHead
    split
    · exact .refl s
    · exact (Aside.modLinks s (List.length_set ..) fun p => .inr (by cases p <;> rfl)).course
  · exact .refl s

/-- What a command comes to, by the operation of its arm. -/
theorem course_exec {c : Instr} (e : exec c s = .next t) : Course (ringOf c) (movesTrains c) s t := by
  cases c with
  | coldReset =>
    exact course_next e ⟨s.keeps_coldReset, ⟨.inl trivial, .inl trivial, .inl trivial⟩,
      ⟨fun _ => .inl trivial, .inl trivial, .inl trivial, .inl trivial⟩, fun _ => .inl trivial, .inl trivial⟩
  | lineTimeTick => exact course_next e (course_tick (fun _ => id) s)
  | lookup _ _ => exact course_answer e (whenOperating_state (.refl s) (withCurrent_state (.refl s) (.refl s)))
  | walk _ _ _ _ => exact course_execWalk e
  | findTrain _ _ _ _ => exact course_execFindTrain e
  | findIncident _ _ _ _ _ => exact course_execFindIncident e
  | createTrain _ _ _ _ _ _ => exact course_execCreateTrain e
  | amendTrain _ _ _ _ _ _ => exact course_execAmendTrain e
  | forceDepart _ _ => exact course_execForceDepart e
  | retire _ h =>
    exact course_answer e (operating_state (.refl s) fun op => withCurrent_state (.refl s) (course_retireRecord op))
  | raiseIncident _ _ _ _ _ _ => exact course_execRaiseIncident e
  | amendIncident _ _ _ _ _ => exact course_execAmendIncident e
  | acknowledge _ _ => exact course_execAcknowledge e
  | clear _ _ => exact course_execClear e
  | createAnnouncement _ _ _ _ _ _ _ => exact course_execCreateAnnouncement e
  | amendAnnouncement _ _ _ _ _ => exact course_execAmendAnnouncement e
  | readPlatform _ _ => exact course_answer e (whenOperating_state (.refl s) (need_state (.refl s) fun _ => .refl s))
  | readSection _ _ => exact course_answer e (whenOperating_state (.refl s) (need_state (.refl s) fun _ => .refl s))
  | readSubstation _ _ => exact course_answer e (whenOperating_state (.refl s) (need_state (.refl s) fun _ => .refl s))
  | isolate _ _ _ => exact course_execIsolate (fun _ => id) e
  | energise _ _ => exact course_execEnergise (fun _ => id) e
  | restore _ _ => exact course_execRestore (fun _ => id) e
  | setWarningLevel _ _ _ => exact course_execSetWarningLevel (List.mem_singleton.mpr rfl) e
  | selectPattern _ _ => exact course_execSelectPattern rfl e
  | enterDegraded _ _ => exact course_execEnterDegraded rfl e
  | resume _ => exact course_execResume rfl e
  | readSaveEntry _ _ => exact course_execReadSaveEntry e
  | amendSaveEntry _ _ _ _ => exact course_execAmendSaveEntry e
  | setTime _ _ => exact course_execSetTime (List.mem_singleton.mpr rfl) e
  | adjustTime _ _ => exact course_answer e (course_adjustTime (fun _ => id) s _)
  | readTime _ => exact course_answer e (.refl s)
  | loadConfig _ _ _ _ => exact course_execLoadConfig e
  | start _ => exact course_execStart e
  | configReload _ => exact course_execConfigReload e
  | linkRestart _ => exact course_answer e (aside_restart (fun p => linkWork_of (l := [.badCount, .controlRx, .fieldRx, .statusRx, .waiting]) (by cases p <;> decide)) s).course
  | readAttention _ _ => exact course_execReadAttention e
  | setAttentionMask _ mask => exact course_answer e ((Aside.modAttention s id).trans (.judgeLines _)).course
  | readStatus _ => exact course_answer e (.refl s)
  | readShadow _ _ => exact course_answer e (need_state (.refl s) fun _ => .refl s)
  | unknownRequestCode _ _ _ => exact course_answer e (.refl s)
  | badFrame => exact course_next e (Aside.reply s _).course
  | controlFrameByteGap =>
    exact course_execControlFrameByteGap (linkWork_of (l := [.controlRx, .waiting]) (by decide))
      (linkWork_of (l := [.controlRx, .waiting]) (by decide)) e
  | frameNotKept => exact course_next e (Aside.reply s _).course
  | arrive _ _ _ => exact course_execArrive e
  | depart _ _ _ => exact course_execDepart e
  | feeder i cls pos _ =>
    exact course_next e (course_report trivial fun _ u serve withdraw ends tr supply part _ =>
      does_takeFeeder serve withdraw ends supply (fun p hp => part p (List.mem_cons_of_mem _ hp)) tr (part _ (List.mem_cons_self ..)) u i cls pos)
  | substation k up _ =>
    exact course_next e (course_report trivial fun _ u serve withdraw ends _ supply part b =>
      does_takeSubstation serve withdraw ends supply (part _ (.inl rfl)) (part _ (.inr rfl)) (b trivial) u k up)
  | platformAlarm p b v _ =>
    exact course_next e (course_report (linkWork_of (l := [.badCount]) (by decide)) fun _ u serve withdraw ends _ _ _ _ =>
      does_takeAlarm serve withdraw ends u p b v)
  | fieldBadFrame => exact course_next e (course_badFieldFrame (linkWork_of (l := [.badCount]) (by decide)) s)
  | fieldFrameByteGap =>
    exact course_next e (.trans (aside_huntField (linkWork_of (l := [.badCount, .fieldRx]) (by decide)) s).course
      (course_badFieldFrame (linkWork_of (l := [.badCount, .fieldRx]) (by decide)) s.huntField))
  | directiveSent => exact course_execDirectiveSent e
  | ready p => exact course_next e (course_takeStatus fun _ _ _ => s.does_playerReady p)
  | started p =>
    exact course_next e (course_takeStatus fun ok _ _ => .of_ready fun r => s.does_playerStarted (ready_or _ r fun r => r.platform_lt ok))
  | refused p => exact course_next e (course_takeStatus fun _ _ _ => s.does_playerRefused p)
  | ended p => exact course_next e (course_takeStatus fun _ _ command => s.does_playerEnded p command)
  | statusFrameBad => exact course_next e (.refl s)
  | statusFrameByteGap => exact course_next e (aside_huntStatus (linkWork_of (l := [.statusRx]) (by decide)) s).course
  | departureExpiry i | overdueExpiry i | approachExpiry i | escalationExpiry i | restExpiry i | startExpiry i | stopExpiry i =>
    exact course_next ((exec_of_isExpiry rfl s).symm.trans e) (course_takeExpiry _ s _ fun _ h => (nomatch h))
  | operationExpiry i => exact course_next ((exec_of_isExpiry rfl s).symm.trans e) (course_takeExpiry _ s _ fun _ _ _ => id)
  | waitExpiry k h | leaseExpiry k h =>
    exact course_next ((exec_of_isExpiry rfl s).symm.trans e) (course_takeExpiry _ s _ fun _ h => (nomatch h))

end Events

/-- A step takes a command from one of two queues that nothing here reads, or idles. -/
theorem keeps_step {s t : State} (e : step s = .next t) : Keeps s t := by
  unfold step at e
  split at e
  · next c rest _ =>
    have taken : Aside (fun _ => True) s { s with pending := rest } := .of_pool rfl rfl rfl rfl rfl rfl rfl rfl (.of_same rfl) id
    exact taken.keeps.trans (course_exec e).keeps
  · next c rest _ _ =>
    have taken : Aside (fun _ => True) s (s.modLinks fun l => { l with waiting := rest }) := .modLinks s rfl fun _ => .inl trivial
    exact taken.keeps.trans (course_exec e).keeps
  · cases e; exact (Aside.refl (on := fun _ => True) s).keeps

/-- Settles O56: the work of every event is a run of edits, each of which keeps the invariants, but for the trains that come, set off
from their wait or leave the line, the rebase of degraded working and the work of the configuration, which are taken each on its own. -/
theorem waitingTrainsAndVehiclesAreKept : Obligations.WaitingTrainsAndVehiclesAreKept := by
  unfold Obligations.WaitingTrainsAndVehiclesAreKept
  exact ⟨fun s t h q e => (keeps_step e).queues h q, fun s t h c e => (keeps_step e).configured h c,
    fun s t h q c w e => (keeps_step e).waiters h q c w, fun s t h v c e => ⟨(keeps_step e).vehicles h v c, (keeps_step e).caps h c⟩,
    fun s t h c v e => (keeps_step e).saves h c v⟩

end Sys2Proof.Machine

/-! Sections, substations, platforms, the train list and the receivers move by their own commands only. -/

namespace Sys2Proof.Machine
open Sys2Proof

/-! ### The commands with each kind of work -/

namespace Instr

/-- Cold reset and START. -/
def Anew (c : Instr) : Prop := c = .coldReset ∨ ∃ tag, c = .start tag

/-- The commands that move line time past deadlines (R10, R12). -/
def ByTime (c : Instr) : Prop := c = .lineTimeTick ∨ ∃ tag d, c = .adjustTime tag d

/-- The requests on breakers (R93 to R95). -/
def Breaker (c : Instr) : Prop :=
  (∃ tag i e, c = .isolate tag i e) ∨ (∃ tag i, c = .energise tag i) ∨ ∃ tag i, c = .restore tag i

/-- The reports of passages (R49). -/
def Passage (c : Instr) : Prop := (∃ v p time, c = .arrive v p time) ∨ ∃ v p time, c = .depart v p time

end Instr

section Commands
variable {c : Instr}
open Instr

theorem works_counter (h : ringOf c (.part .counter)) :
    Anew c ∨ (∃ i cls pos time, c = .feeder i cls pos time) ∨ (∃ i, c = .operationExpiry i) ∨ ByTime c := by
  cases c with
  | coldReset => exact .inl (.inl rfl)
  | start tag => exact .inl (.inr ⟨tag, rfl⟩)
  | feeder i cls pos time => exact .inr (.inl ⟨i, cls, pos, time, rfl⟩)
  | operationExpiry i => exact .inr (.inr (.inl ⟨i, rfl⟩))
  | lineTimeTick => exact .inr (.inr (.inr (.inl rfl)))
  | adjustTime tag d => exact .inr (.inr (.inr (.inr ⟨tag, d, rfl⟩)))
  | _ => exact (nomatch h)

theorem works_breaker (h : ringOf c (.part .breaker)) : Anew c ∨ ∃ i cls pos time, c = .feeder i cls pos time := by
  cases c with
  | coldReset => exact .inl (.inl rfl)
  | start tag => exact .inl (.inr ⟨tag, rfl⟩)
  | feeder i cls pos time => exact .inr ⟨i, cls, pos, time, rfl⟩
  | _ => exact (nomatch h)

theorem works_warning (h : ringOf c (.part .warning)) : Anew c ∨ ∃ tag j n, c = .setWarningLevel tag j n := by
  cases c with
  | coldReset => exact .inl (.inl rfl)
  | start tag => exact .inl (.inr ⟨tag, rfl⟩)
  | setWarningLevel tag j n => exact .inr ⟨tag, j, n, rfl⟩
  | _ => exact (nomatch h)

theorem works_state (h : ringOf c (.part .state)) : Anew c ∨ (∃ i cls pos time, c = .feeder i cls pos time) ∨
    (∃ i, c = .operationExpiry i) ∨ ByTime c ∨ Breaker c ∨ ∃ k up time, c = .substation k up time := by
  cases c with
  | coldReset => exact .inl (.inl rfl)
  | start tag => exact .inl (.inr ⟨tag, rfl⟩)
  | feeder i cls pos time => exact .inr (.inl ⟨i, cls, pos, time, rfl⟩)
  | operationExpiry i => exact .inr (.inr (.inl ⟨i, rfl⟩))
  | lineTimeTick => exact .inr (.inr (.inr (.inl (.inl rfl))))
  | adjustTime tag d => exact .inr (.inr (.inr (.inl (.inr ⟨tag, d, rfl⟩))))
  | isolate tag i e => exact .inr (.inr (.inr (.inr (.inl (.inl ⟨tag, i, e, rfl⟩)))))
  | energise tag i => exact .inr (.inr (.inr (.inr (.inl (.inr (.inl ⟨tag, i, rfl⟩))))))
  | restore tag i => exact .inr (.inr (.inr (.inr (.inl (.inr (.inr ⟨tag, i, rfl⟩))))))
  | substation k up time => exact .inr (.inr (.inr (.inr (.inr ⟨k, up, time, rfl⟩))))
  | _ => exact (nomatch h)

theorem works_op (h : ringOf c (.part .op)) : Anew c ∨ (∃ i cls pos time, c = .feeder i cls pos time) ∨
    (∃ i, c = .operationExpiry i) ∨ ByTime c ∨ Breaker c ∨ ∃ tag n, c = .setTime tag n := by
  cases c with
  | coldReset => exact .inl (.inl rfl)
  | start tag => exact .inl (.inr ⟨tag, rfl⟩)
  | feeder i cls pos time => exact .inr (.inl ⟨i, cls, pos, time, rfl⟩)
  | operationExpiry i => exact .inr (.inr (.inl ⟨i, rfl⟩))
  | lineTimeTick => exact .inr (.inr (.inr (.inl (.inl rfl))))
  | adjustTime tag d => exact .inr (.inr (.inr (.inl (.inr ⟨tag, d, rfl⟩))))
  | isolate tag i e => exact .inr (.inr (.inr (.inr (.inl (.inl ⟨tag, i, e, rfl⟩)))))
  | energise tag i => exact .inr (.inr (.inr (.inr (.inl (.inr (.inl ⟨tag, i, rfl⟩))))))
  | restore tag i => exact .inr (.inr (.inr (.inr (.inl (.inr (.inr ⟨tag, i, rfl⟩))))))
  | setTime tag n => exact .inr (.inr (.inr (.inr (.inr ⟨tag, n, rfl⟩))))
  | _ => exact (nomatch h)

theorem works_passage (h : ringOf c .passage) : Anew c ∨ Passage c ∨ ∃ tag h, c = .retire tag h := by
  cases c with
  | coldReset => exact .inl (.inl rfl)
  | start tag => exact .inl (.inr ⟨tag, rfl⟩)
  | arrive v p time => exact .inr (.inl (.inl ⟨v, p, time, rfl⟩))
  | depart v p time => exact .inr (.inl (.inr ⟨v, p, time, rfl⟩))
  | retire tag g => exact .inr (.inr ⟨tag, g, rfl⟩)
  | _ => exact (nomatch h)

theorem works_departs (h : ringOf c .departs) : Anew c ∨ ∃ v q time, c = .depart v q time := by
  cases c with
  | coldReset => exact .inl (.inl rfl)
  | start tag => exact .inl (.inr ⟨tag, rfl⟩)
  | depart v p time => exact .inr ⟨v, p, time, rfl⟩
  | _ => exact (nomatch h)

theorem works_foreign (h : ringOf c .foreign) : Anew c ∨ Passage c := by
  cases c with
  | coldReset => exact .inl (.inl rfl)
  | start tag => exact .inl (.inr ⟨tag, rfl⟩)
  | arrive v p time => exact .inr (.inl ⟨v, p, time, rfl⟩)
  | depart v p time => exact .inr (.inr ⟨v, p, time, rfl⟩)
  | _ => exact (nomatch h)

theorem works_up (h : ringOf c .up) : Anew c ∨ ∃ j up time, c = .substation j up time := by
  cases c with
  | coldReset => exact .inl (.inl rfl)
  | start tag => exact .inl (.inr ⟨tag, rfl⟩)
  | substation k up time => exact .inr ⟨k, up, time, rfl⟩
  | _ => exact (nomatch h)

theorem works_budgets (h : ringOf c .budgets) :
    Anew c ∨ ∃ tag, c = .resume tag ∨ (∃ q, c = .selectPattern tag q) ∨ ∃ q, c = .enterDegraded tag q := by
  cases c with
  | coldReset => exact .inl (.inl rfl)
  | start tag => exact .inl (.inr ⟨tag, rfl⟩)
  | resume tag => exact .inr ⟨tag, .inl rfl⟩
  | selectPattern tag q => exact .inr ⟨tag, .inr (.inl ⟨q, rfl⟩)⟩
  | enterDegraded tag q => exact .inr ⟨tag, .inr (.inr ⟨q, rfl⟩)⟩
  | _ => exact (nomatch h)

theorem moves_trains (h : movesTrains c) :
    c = .coldReset ∨ (∃ tag v n o b m, c = .createTrain tag v n o b m) ∨ ∃ tag h, c = .retire tag h := by
  cases c with
  | coldReset => exact .inl rfl
  | createTrain tag v n o b m => exact .inr (.inl ⟨tag, v, n, o, b, m, rfl⟩)
  | retire tag g => exact .inr (.inr ⟨tag, g, rfl⟩)
  | _ => exact (nomatch h)

theorem works_badCount (h : ringOf c (.link .badCount)) : c = .coldReset ∨ (∃ tag, c = .linkRestart tag) ∨ c = .fieldBadFrame ∨
    c = .fieldFrameByteGap ∨ (∃ i cls pos time, c = .feeder i cls pos time) ∨ Passage c ∨ (∃ k up time, c = .substation k up time) ∨
    ∃ p on n time, c = .platformAlarm p on n time := by
  cases c with
  | coldReset => exact .inl rfl
  | linkRestart tag => exact .inr (.inl ⟨tag, rfl⟩)
  | fieldBadFrame => exact .inr (.inr (.inl rfl))
  | fieldFrameByteGap => exact .inr (.inr (.inr (.inl rfl)))
  | feeder i cls pos time => exact .inr (.inr (.inr (.inr (.inl ⟨i, cls, pos, time, rfl⟩))))
  | arrive v p time => exact .inr (.inr (.inr (.inr (.inr (.inl (.inl ⟨v, p, time, rfl⟩))))))
  | depart v p time => exact .inr (.inr (.inr (.inr (.inr (.inl (.inr ⟨v, p, time, rfl⟩))))))
  | substation k up time => exact .inr (.inr (.inr (.inr (.inr (.inr (.inl ⟨k, up, time, rfl⟩))))))
  | platformAlarm p on n time => exact .inr (.inr (.inr (.inr (.inr (.inr (.inr ⟨p, on, n, time, rfl⟩))))))
  | _ => exact (nomatch h)

/-- The receiver and the frames that wait of the Control Link move together. -/
theorem works_control (h : ringOf c (.link .controlRx) ∨ ringOf c (.link .waiting)) :
    c = .coldReset ∨ (∃ tag, c = .linkRestart tag) ∨ c = .controlFrameByteGap := by
  cases c with
  | coldReset => exact .inl rfl
  | linkRestart tag => exact .inr (.inl ⟨tag, rfl⟩)
  | controlFrameByteGap => exact .inr (.inr rfl)
  | _ => rcases h with h | h <;> exact (nomatch h)

theorem works_fieldRx (h : ringOf c (.link .fieldRx)) : c = .coldReset ∨ (∃ tag, c = .linkRestart tag) ∨ c = .fieldFrameByteGap := by
  cases c with
  | coldReset => exact .inl rfl
  | linkRestart tag => exact .inr (.inl ⟨tag, rfl⟩)
  | fieldFrameByteGap => exact .inr (.inr rfl)
  | _ => exact (nomatch h)

theorem works_statusRx (h : ringOf c (.link .statusRx)) : c = .coldReset ∨ (∃ tag, c = .linkRestart tag) ∨ c = .statusFrameByteGap := by
  cases c with
  | coldReset => exact .inl rfl
  | linkRestart tag => exact .inr (.inl ⟨tag, rfl⟩)
  | statusFrameByteGap => exact .inr (.inr rfl)
  | _ => exact (nomatch h)

end Commands

/-- Settles O58: the course of a command keeps every part but those of its kinds of work, so a part that has moved names the commands
with that kind of work. -/
theorem supplyRingAndLinksHaveTheirCommands : Obligations.SupplyRingAndLinksHaveTheirCommands := by
  unfold Obligations.SupplyRingAndLinksHaveTheirCommands
  intro c s t e
  have course := course_exec e
  have part : ∀ p i, ¬ SectPart.agree p (s.sect i) (t.sect i) → ringOf c (.part p) := fun p i moved =>
    (course.supply.parts p).resolve_right fun same => moved (same i)
  have link : ∀ p, ¬ LinkPart.agree p s.links t.links → ringOf c (.link p) := fun p moved => (course.links p).resolve_right moved
  exact ⟨fun i => ⟨fun moved => works_counter (part .counter i moved), fun moved => works_breaker (part .breaker i moved),
      fun moved => works_warning (part .warning i moved), fun moved => works_state (part .state i moved),
      fun moved => works_op (part .op i moved),
      fun moved => works_passage (course.supply.occupants.resolve_right fun same => moved (same i))⟩,
    fun k => ⟨fun moved => works_up (course.supply.up.resolve_right fun same => moved (same k)),
      fun moved => works_budgets (course.supply.budget.resolve_right fun same => moved (same k))⟩,
    fun moved => moves_trains (course.list.resolve_right moved),
    fun p => ⟨fun moved => works_departs (course.ring.lastDep.resolve_right fun same => moved (same p)),
      fun moved => works_foreign (course.ring.lastForeign.resolve_right fun same => moved (same p)),
      fun moved => works_passage (course.ring.occupant.resolve_right fun same => moved (same p))⟩,
    fun moved => works_badCount (link .badCount moved), fun moved => works_control (.inl (link .controlRx moved)),
    fun moved => works_fieldRx (link .fieldRx moved), fun moved => works_statusRx (link .statusRx moved),
    fun moved => works_control (.inr (link .waiting moved))⟩

end Sys2Proof.Machine

/-! The end of an event that has freed no train and retired no record: it makes the selections and judges the lines, no more. -/

namespace Sys2Proof.Machine
open Sys2Proof

/-- A platform but for its player. -/
def Platform.ring (x : Platform) : Platform := { x with player := .idle, cue := none, playerDl := none }

/-- What the selections leave of a part (R146). -/
structure Selecting (s t : State) : Prop where
  calm       : Calm s t
  handles    : ∀ i, t.handle i = s.handle i
  trains     : ∀ i, t.train? i = s.train? i
  trainList  : t.pool.trains = s.pool.trains
  incidents  : ∀ i, t.incident? i = s.incident? i
  list       : t.pool.incidents = s.pool.incidents
  anns       : ∀ i a, s.ann? i = some a → ∃ b : Ann, t.ann? i = some { a with state := b.state, updated := b.updated }
  queues     : t.pool.queues = s.pool.queues
  ring       : ∀ p, (t.platform p).ring = (s.platform p).ring
  fixed      : FixedKept s t
  latches    : t.attention.latches = s.attention.latches
  directives : ∀ e ∈ s.links.queue, e.1 < Config.playerBase ∨ Config.breakerBase ≤ e.1 → e ∈ t.links.queue

namespace Selecting

theorem refl (s : State) : Selecting s s where
  calm := .refl s
  handles _ := rfl
  trains _ := rfl
  trainList := rfl
  incidents _ := rfl
  list := rfl
  anns _ a h := ⟨a, h⟩
  queues := rfl
  ring _ := rfl
  fixed := ⟨rfl, rfl, rfl⟩
  latches := rfl
  directives _ h _ := h

theorem trans {s t u : State} (a : Selecting s t) (b : Selecting t u) : Selecting s u where
  calm := a.calm.trans b.calm
  handles i := (b.handles i).trans (a.handles i)
  trains i := (b.trains i).trans (a.trains i)
  trainList := b.trainList.trans a.trainList
  incidents i := (b.incidents i).trans (a.incidents i)
  list := b.list.trans a.list
  anns i x h := by
    obtain ⟨y, hy⟩ := a.anns i x h
    obtain ⟨z, hz⟩ := b.anns i _ hy
    exact ⟨z, hz⟩
  queues := b.queues.trans a.queues
  ring p := (b.ring p).trans (a.ring p)
  fixed := ⟨b.fixed.sects.trans a.fixed.sects, b.fixed.substations.trans a.fixed.substations, b.fixed.control.trans a.fixed.control⟩
  latches := b.latches.trans a.latches
  directives e h n := b.directives e (a.directives e h n) n

theorem queue {s t : State} (h : Selecting s t) (p : Nat) : t.queue p = s.queue p := by rw [State.queue, h.queues]; rfl

end Selecting

namespace State

/-- A directive stays queued while none is issued for its target (R193). -/
theorem mem_issueInto {q : List (Nat × Directive)} {e : Nat × Directive} (h : e ∈ q) {n : Nat} (d : Directive) (ne : e.1 ≠ n) :
    e ∈ issueInto q n d := by
  unfold issueInto
  split
  · exact List.mem_map.mpr ⟨e, h, by simp [ne]⟩
  · exact List.mem_append_left _ h

/-- A directive that is issued is queued (R193). -/
theorem mem_issueInto_self (q : List (Nat × Directive)) (n : Nat) (d : Directive) : (n, d) ∈ issueInto q n d := by
  unfold issueInto
  split
  · next queued =>
    obtain ⟨e, he, same⟩ := List.any_eq_true.mp queued
    exact List.mem_map.mpr ⟨e, he, by simp [same]⟩
  · exact List.mem_append_right _ (List.mem_singleton.mpr rfl)

theorem selecting_modAnn (s : State) (i : Nat) (x : AnnState) (u : Bool) :
    Selecting s (s.modAnn i fun a => { a with state := x, updated := u }) where
  calm := s.calm_modAnn i _
  handles j := handle_modAnn ..
  trains j := train?_modAnn ..
  trainList := rfl
  incidents j := incident?_modAnn ..
  list := rfl
  anns j a h := by
    rw [ann?_modAnn, h]
    split
    · exact ⟨{ a with state := x, updated := u }, rfl⟩
    · exact ⟨a, rfl⟩
  queues := rfl
  ring _ := rfl
  fixed := ⟨rfl, rfl, rfl⟩
  latches := rfl
  directives _ h _ := h

theorem selecting_issuePlayer (s : State) {p : Nat} (hp : p < Config.platformEntries) (d : Directive) : Selecting s (s.issuePlayer p d) where
  calm := s.calm_issuePlayer p d
  handles _ := rfl
  trains _ := rfl
  trainList := rfl
  incidents _ := rfl
  list := rfl
  anns _ a h := ⟨a, h⟩
  queues := rfl
  ring _ := rfl
  fixed := ⟨rfl, rfl, rfl⟩
  latches := rfl
  directives e h n := by
    refine mem_issueInto h d fun same => ?_
    simp only [Config.playerBase, Config.breakerBase, Config.platformEntries] at n same hp
    omega

theorem selecting_player (s : State) (p : Nat) {f : Platform → Platform} (hf : ∀ x, (f x).ring = x.ring) : Selecting s (s.modPlatform p f) where
  calm := s.calm_modPlatform p f
  handles _ := rfl
  trains _ := rfl
  trainList := rfl
  incidents _ := rfl
  list := rfl
  anns _ a h := ⟨a, h⟩
  queues := rfl
  ring := platform_modPlatform_part Platform.ring s p hf
  fixed := ⟨rfl, rfl, rfl⟩
  latches := rfl
  directives _ h _ := h

theorem selecting_select (s : State) {p : Nat} (hp : p < Config.platformEntries) : Selecting s (s.select p) := by
  unfold select
  split
  · split
    · exact .refl s
    · split
      · exact .refl s
      · exact ((s.selecting_modAnn _ _ _).trans (selecting_issuePlayer _ hp _)).trans (selecting_player _ p fun _ => rfl)
  · exact .refl s

theorem selecting_selections (s : State) : Selecting s s.selections := by
  have fold : ∀ (l : List Nat), (∀ p ∈ l, p < Config.platformEntries) → ∀ t, Selecting s t → Selecting s (l.foldl select t) := fun l => by
    induction l with
    | nil => exact fun _ _ h => h
    | cons p ps ih =>
      exact fun all t h => ih (fun q hq => all q (List.mem_cons_of_mem _ hq)) _ (h.trans (t.selecting_select (all p (List.mem_cons_self ..))))
  exact fold _ (fun p hp => List.mem_range.mp hp) s (.refl s)

theorem selecting_judgeLines (s : State) : Selecting s s.judgeLines :=
  { Selecting.refl s with calm := s.calm_judgeLines, fixed := ⟨rfl, rfl, rfl⟩ }

/-- No train is found without a reason that was not so before. -/
theorem freedSince_eq_nil {b s : State} (h : ∀ i x, s.train? i = some x → reasonless x = true → ∃ y, b.train? i = some y ∧ reasonless y = true) :
    freedSince b s = [] := by
  rw [freedSince, List.map_eq_nil_iff, List.filter_eq_nil_iff]
  intro e he free
  obtain ⟨now, before⟩ := Bool.and_eq_true_iff.mp free
  obtain ⟨y, hy, was⟩ := h e.1 e.2 (mem_liveTrains.mp he).2 now
  rw [hy] at before
  simp [was] at before

/-- No record is retired where every live slot stays live in its epoch. -/
theorem retiredBetween_eq_false {b s : State}
    (h : ∀ i, (b.slot i).record.kind ≠ .free → (s.slot i).record.kind ≠ .free ∧ (s.slot i).epoch = (b.slot i).epoch) :
    retiredBetween b s = false := by
  rw [retiredBetween, List.any_eq_false]
  intro i _ retired
  obtain ⟨live, gone⟩ := Bool.and_eq_true_iff.mp retired
  obtain ⟨stays, epoch⟩ := h i (by simpa using live)
  simp [stays, epoch] at gone

/-- An event that has freed no train and retired no record ends with the selections and the lines (R146, R183). -/
theorem endEvent_of_quiet {b s : State} (freed : freedSince b s = []) (retired : retiredBetween b s = false) :
    endEvent b s = s.selections.judgeLines := by
  unfold endEvent checkFreed
  simp only [freed, List.foldl_nil, retired, Bool.false_eq_true, if_false]

theorem selecting_endEvent {b s : State} (freed : freedSince b s = []) (retired : retiredBetween b s = false) :
    Selecting s (endEvent b s) := by
  rw [endEvent_of_quiet freed retired]
  exact s.selecting_selections.trans (selecting_judgeLines _)

/-- An event that leaves the pool as it was ends so. -/
theorem selecting_endEvent_of_pool {b s : State} (pool : s.pool = b.pool) : Selecting s (endEvent b s) :=
  selecting_endEvent (freedSince_eq_nil fun i x hx free => ⟨x, (train?_of_pool pool i).symm.trans hx, free⟩)
    (retiredBetween_eq_false fun i live => by rw [slot, pool]; exact ⟨live, rfl⟩)

/-! ### Reports that no train takes -/

/-- The part as a good report has been counted (R190). -/
def counted (s : State) : State := s.modLinks fun l => { l with badCount := 0 }

/-- A good report that the part takes: it is counted, and its owner's work is the event (R190). -/
theorem takeReport_taken {s : State} {time : Nat} (op : s.part = .operating) (ht : time < 864000) (indexOk : Bool) (owner : State → State) :
    s.takeReport time indexOk owner = endEvent s.counted
      (if indexOk then owner s.counted else s.counted.dropReport) := by
  have ok : timeOk time = true := decide_eq_true ht
  unfold takeReport
  rw [if_pos ok]
  dsimp only
  rw [if_neg (by rw [modLinks_part, op]; decide)]
  rfl

/-- A round of the ring but one step leads back (R2). -/
theorem dist_next_self {s : State} (ring : 0 < s.ringSize) (q : Nat) : s.dist (s.next q) q = s.ringSize - 1 := by
  unfold dist next
  have back : ((q : Int) - ((q + 1) % s.ringSize : Nat)) % s.ringSize = (s.ringSize : Int) - 1 := by
    rw [Int.natCast_emod, Int.sub_emod_emod, show ((q : Int) - ((q + 1 : Nat) : Int)) = -1 by omega, ← Int.add_emod_right]
    exact Int.emod_eq_of_lt (by omega) (by omega)
  rw [back]
  omega

/-- A train that runs from `q` may not arrive at `q` itself, more than three platforms on, or past a terminus (R51). -/
theorem mayArrive_eq_false {s : State} {x : Train} {q p : Nat} (place : x.position = some q) (ring : 0 < s.ringSize)
    (h : p = q ∨ 3 < s.dist (s.next q) p ∨
      ∃ j, j < s.dist (s.next q) p ∧ (s.platformCfg ((s.next q + j) % s.ringSize)).terminus = true) : s.mayArrive x p = false := by
  have at_ : placeOf x = q := by rw [placeOf, place]; rfl
  unfold mayArrive
  rw [at_]
  dsimp only
  rcases h with rfl | far | ⟨j, near, terminus⟩
  · simp [dist_next_self ring]
  · have : ¬ s.dist (s.next q) p ≤ 3 := by omega
    simp [this]
  · have stopped : ((List.range (s.dist (s.next q) p)).any fun j => (s.platformCfg ((s.next q + j) % s.ringSize)).terminus) = true :=
      List.any_eq_true.mpr ⟨j, List.mem_range.mpr near, terminus⟩
    simp [stopped]

theorem takeArrive_dropped {s : State} {p i a : Nat} {x : Train} {clamped : Bool} (ring : 0 < s.ringSize)
    (h : x.state.atPlatform = true ∨ x.state = .awaiting ∧ x.origin ≠ p ∨ ∃ q, x.state.isRunning = true ∧ x.position = some q ∧
      (p = q ∨ 3 < s.dist (s.next q) p ∨ ∃ j, j < s.dist (s.next q) p ∧
        (s.platformCfg ((s.next q + j) % s.ringSize)).terminus = true)) : s.takeArrive p i x a clamped = s.dropReport := by
  unfold takeArrive
  rcases h with stands | ⟨awaiting, elsewhere⟩ | ⟨q, running, place, shut⟩
  · cases hx : x.state <;> rw [hx] at stands <;> first | rfl | cases stands
  · rw [awaiting]
    exact if_neg (Ne.symm elsewhere)
  · have no := mayArrive_eq_false place ring shut
    have drop : (if s.mayArrive x p then s.arriveRunning i x p a clamped else s.dropReport) = s.dropReport := if_neg (by simp [no])
    cases hx : x.state <;> rw [hx] at running <;> first | exact drop | cases running

theorem takeDepart_dropped {s : State} {p i a : Nat} {x : Train} {clamped : Bool} (h : x.state.atPlatform = false ∨ x.position ≠ some p) :
    s.takeDepart p i x a clamped = s.dropReport := by
  unfold takeDepart
  rcases h with away | elsewhere
  · simp [away]
  · simp [elsewhere]

theorem vehicleOk_iff {v : Nat} : vehicleOk v = true ↔ 1 ≤ v ∧ v ≤ 16777215 := by
  simp [vehicleOk]

/-- A passage report as it reaches its owner (R49). -/
theorem exec_passage {s : State} {c : Instr} {v p time : Nat} (op : s.part = .operating) (ht : time < 864000)
    (h : c = .arrive v p time ∨ c = .depart v p time) : ∃ owner : State → Nat → Train → Nat → Bool → State,
    (c = .arrive v p time ∧ owner = (fun u i x a b => u.takeArrive p i x a b) ∨
      c = .depart v p time ∧ owner = fun u i x a b => u.takeDepart p i x a b) ∧
    exec c s = .next (endEvent s.counted
      (if s.platformOk p then s.counted.takePassage v p time owner
        else s.counted.dropReport)) := by
  rcases h with rfl | rfl
  · exact ⟨_, .inl ⟨rfl, rfl⟩, congrArg Host.Outcome.next (takeReport_taken op ht (s.platformOk p) fun t => t.takePassage v p time fun u i x a b =>
      u.takeArrive p i x a b)⟩
  · exact ⟨_, .inr ⟨rfl, rfl⟩, congrArg Host.Outcome.next (takeReport_taken op ht (s.platformOk p) fun t => t.takePassage v p time fun u i x a b =>
      u.takeDepart p i x a b)⟩

end State

open State

/-- What an event that moves no pool and no fixed record but the platforms leaves once it has ended. -/
theorem passed_settled {s u t : State} (h : Selecting u t) (pool : u.pool = s.pool) (fixed : FixedKept s u) :
    (∀ q, t.train? q = s.train? q) ∧ FixedKept s t :=
  ⟨fun q => (h.trains q).trans (train?_of_pool pool q), h.fixed.sects.trans fixed.sects, h.fixed.substations.trans fixed.substations,
    h.fixed.control.trans fixed.control⟩

/-- Settles O31: no train takes the report, so that it latches, the pool stands, and the event ends with the selections. -/
theorem passagesNoTrainTakes : Obligations.PassagesNoTrainTakes := by
  intro s v p time c op ht hc
  obtain ⟨owner, kind, run⟩ := exec_passage op ht hc
  refine ⟨fun shut => ?_, fun hp inRange low high stranger => ?_⟩
  · have dropped : (if s.platformOk p then s.counted.takePassage v p time owner else s.counted.dropReport) = s.counted.dropReport := by
      split
      · next ok =>
        have ring : 0 < s.counted.ringSize := Nat.zero_lt_of_lt (of_decide_eq_true ok)
        unfold takePassage
        dsimp only
        split
        · next vehicle =>
          obtain ⟨low, high⟩ := vehicleOk_iff.mp vehicle
          rcases shut with beyond | below | above | ⟨i, x, carries, refused⟩
          · exact absurd (of_decide_eq_true ok) (by omega)
          · omega
          · omega
          · rw [show s.counted.trainByVehicle v = some (i, x) from carries]
            rcases kind with ⟨rfl, rfl⟩ | ⟨rfl, rfl⟩ <;> rcases refused with ⟨same, why⟩ | ⟨same, why⟩
            · cases same
            · exact takeArrive_dropped ring why
            · exact takeDepart_dropped why
            · cases same
        · rfl
      · rfl
    rw [dropped] at run
    have tail : Selecting s.counted.dropReport (endEvent s.counted s.counted.dropReport) := selecting_endEvent_of_pool rfl
    obtain ⟨trains, fixed⟩ := passed_settled (s := s) tail rfl ⟨rfl, rfl, rfl⟩
    exact ⟨_, run, tail.latches, trains, tail.ring, fixed⟩
  · have foreign : (if s.platformOk p then s.counted.takePassage v p time owner else s.counted.dropReport) =
        s.counted.foreignPassage v p (s.effective time).1 := by
      unfold takePassage
      rw [if_pos (show s.platformOk p = true from decide_eq_true hp)]
      dsimp only
      rw [if_pos (vehicleOk_iff.mpr ⟨low, high⟩), show s.counted.trainByVehicle v = none from stranger]
      rfl
    rw [foreign] at run
    have tail : Selecting (s.counted.foreignPassage v p (s.effective time).1)
        (endEvent s.counted (s.counted.foreignPassage v p (s.effective time).1)) := selecting_endEvent_of_pool rfl
    obtain ⟨trains, fixed⟩ := passed_settled (s := s) tail rfl ⟨rfl, rfl, rfl⟩
    have place := fun q => platform_modPlatform s p (fun x => { x with lastForeign := some (v, (s.effective time).1) }) q
    refine ⟨_, run, tail.latches, (tail.ring p).trans (congrArg Platform.ring ((place p).trans ?_)), fun q ne =>
      (tail.ring q).trans (congrArg Platform.ring ((place q).trans ?_)), trains, fixed⟩
    · exact if_pos ⟨rfl, inRange⟩
    · exact if_neg fun h => ne h.1.symm

end Sys2Proof.Machine

/-! FEEDER reports and the fault counter (R86 to R88). -/

namespace Sys2Proof.Machine
open Sys2Proof

/-- A section that has locked out (R88). -/
def Sect.locked (x : Sect) (now : Nat) : Sect :=
  { x with counter := Config.counterMax, state := .lockedOut, recovery := 0, op := some (.opening, later now Config.operationLimit) }

/-- The work that follows once the sections have moved: none moves, and no directive is issued to a breaker. -/
def afterSupply : Work → Prop
  | .serve | .withdraw | .supply | .ends => True
  | _ => False

namespace State

theorem links_putOwed (s : State) (k : Kind) (loc : Location) (v : Option Nat) : (s.putOwed k loc v).links = s.links := by
  unfold putOwed
  split
  · rfl
  · rfl
  · rfl
  · split <;> rfl

theorem links_dropLease (s : State) (k : Nat) (h : Handle) : (s.dropLease k h).links = s.links := by
  unfold dropLease
  dsimp only
  split <;> rfl

theorem links_dropEntries (s : State) (h : Handle) : (s.dropEntries h).links = s.links := by
  unfold dropEntries
  refine foldl_keeps (P := fun t : State => t.links = s.links) (fun t k ht => ?_) substationIndices rfl
  split <;> exact ht

theorem links_dropLeasesInto (s : State) (i : Nat) : (s.dropLeasesInto i).links = s.links := by
  unfold dropLeasesInto
  refine foldl_keeps (f := fun (t : State) (e : Nat × Train) => t.dropLeaseOf e.1) (P := fun t : State => t.links = s.links)
    (fun t e h => ?_) _ rfl
  unfold dropLeaseOf
  split
  · split
    · exact (t.links_dropLease ..).trans h
    · exact h
  · exact h

/-- A directive to a breaker stays queued in an edit that orders no operation (R193). -/
theorem breakerDirective_edit {on : Work → Prop} {s t : State} (step : Edit on s t) (smooth : ¬ on .rough) (still : ¬ on (.part .op))
    (r : s.Ready) {e : Nat × Directive} (breaker : Config.breakerBase ≤ e.1) (h : e ∈ s.links.queue) : e ∈ t.links.queue := by
  have granted : ∀ k g w, e ∈ (s.grant k g w).links.queue := fun k g w => by
    unfold grant
    dsimp only
    split
    · exact h
    · next x hx =>
      refine mem_issueInto h _ fun same => ?_
      exact absurd (r.1.place_lt hx) (by simp only [Config.breakerBase, Config.platformEntries] at breaker ⊢; omega)
  cases step with
  | record step =>
    cases step with
    | issue n d target => exact mem_issueInto h d fun same => absurd ((target.resolve_left still).resolve_left smooth) (by omega)
    | putOwed k loc v => rw [links_putOwed]; exact h
    | newIncident c u i new => obtain ⟨-, -, -, links⟩ := allocate_rest new; exact (congrArg Links.queue links) ▸ h
    | newAnn a u i new => obtain ⟨-, -, -, links⟩ := allocate_rest new; exact (congrArg Links.queue links) ▸ h
    | _ => exact h
  | gate step =>
    cases step with
    | grantEntry k g => exact granted k g.train g.weight
    | grantAsked k i w => exact granted k (s.handle i) w
    | dropLease k g => rw [links_dropLease]; exact h
    | dropEntries g => rw [links_dropEntries]; exact h
    | withdraw i =>
      rw [withdrawn, modTrain_links, links_dropEntries]; exact h
    | _ => exact h

end State

theorem Run.breakerDirective {on : Work → Prop} {s t : State} (r : Run on s t) (smooth : ¬ on .rough) (still : ¬ on (.part .op))
    (ready : s.Ready) {e : Nat × Directive} (breaker : Config.breakerBase ≤ e.1) (h : e ∈ s.links.queue) : e ∈ t.links.queue :=
  r.keeps_ready (P := fun u => e ∈ u.links.queue) smooth
    (fun _ _ step ru hu => State.breakerDirective_edit step smooth still ru breaker hu) ready h

/-- The part `u` stands as `s` but for the section `i`, which stands as `x`; the pool and the links are of no concern. -/
structure SectIs (s : State) (i : Nat) (x : Sect) (u : State) : Prop where
  tables      : u.tables = s.tables
  substations : u.substations = s.substations
  lineTime    : u.lineTime = s.lineTime
  size        : u.sects.length = s.sects.length
  mine        : u.sect i = x
  others      : ∀ j, j ≠ i → u.sect j = s.sect j

/-- The part `u` has the section `i` locked out that stood as `x`, with an opening operation ordered, and the others as in `s`. -/
structure LocksOut (s : State) (i : Nat) (x : Sect) (u : State) : Prop where
  mine      : (u.sect i).own = (x.locked s.lineTime).own
  others    : ∀ j, j ≠ i → (u.sect j).own = (s.sect j).own
  directive : (Config.breakerBase + i, Directive.breakerOpen) ∈ u.links.queue

namespace SectIs
variable {s u : State} {i : Nat} {x : Sect}

theorem refl (s : State) (i : Nat) : SectIs s i (s.sect i) s := ⟨rfl, rfl, rfl, rfl, rfl, fun _ _ => rfl⟩

theorem modSect (h : SectIs s i x u) (hi : i < s.sects.length) (f : Sect → Sect) : SectIs s i (f x) (u.modSect i f) where
  tables := h.tables
  substations := h.substations
  lineTime := h.lineTime
  size := (List.length_modify ..).trans h.size
  mine := by rw [State.sect_modSect, if_pos ⟨rfl, h.size ▸ hi⟩, h.mine]
  others j ne := by rw [State.sect_modSect, if_neg fun e => ne e.1.symm, h.others j ne]

/-- The supplier is judged by the state of the section (R83). -/
theorem supplier (h : SectIs s i x u) (state : x.state = (s.sect i).state) : u.supplier i = s.supplier i := by
  have cfg : u.sectCfg i = s.sectCfg i := by rw [State.sectCfg, h.tables]; rfl
  have up : ∀ k, u.up k = s.up k := fun k => by rw [State.up, State.substation, h.substations]; rfl
  have fallback : u.fallbackUp i = s.fallbackUp i := by
    unfold State.fallbackUp
    rw [cfg]
    cases (s.sectCfg i).fallback with
    | none => rfl
    | some f => exact up f
  simp only [State.supplier, cfg, up, fallback, h.mine, state]

theorem lockOut (h : SectIs s i x u) (hi : i < s.sects.length) : LocksOut s i x (u.lockOut i) := by
  have ordered := ((h.modSect hi fun x => { x with counter := Config.counterMax, state := .lockedOut, recovery := 0 }).modSect hi
    fun x => { x with op := some (.opening, later u.lineTime Config.operationLimit) })
  have core := fun j => (State.calm_dropLeasesInto ((u.modSect i fun x =>
    { x with counter := Config.counterMax, state := .lockedOut, recovery := 0 }).issueOperation i .opening) i).sect_core j
  refine ⟨(core i).trans ((congrArg Sect.core ordered.mine).trans ?_), fun j ne => (core j).trans (congrArg Sect.core (ordered.others j ne)), ?_⟩
  · rw [h.lineTime]; rfl
  · rw [State.lockOut, State.links_dropLeasesInto]
    exact State.mem_issueInto_self _ _ _

/-- An increment that stays within the limit (R87). -/
theorem addFault (h : SectIs s i x u) (hi : i < s.sects.length) (free : x.state ≠ .lockedOut) {n : Nat} (within : x.counter + n ≤ 255) :
    SectIs s i { x with counter := x.counter + n } (u.addFault i n) := by
  unfold State.addFault
  dsimp only
  rw [h.mine, if_neg free, if_pos within]
  exact h.modSect hi fun x => { x with counter := x.counter + n }

/-- An increment past the limit (R87, R88). -/
theorem addFault_past (h : SectIs s i x u) (hi : i < s.sects.length) (free : x.state ≠ .lockedOut) {n : Nat} (past : 255 < x.counter + n) :
    LocksOut s i x (u.addFault i n) := by
  unfold State.addFault
  dsimp only
  rw [h.mine, if_neg free, if_neg (Nat.not_le.mpr past)]
  exact h.lockOut hi

end SectIs

namespace State

theorem classPart_of_lockedOut {s : State} {i : Nat} (h : (s.sect i).state = .lockedOut) (cls : SupplyClass) (pos : Position) :
    s.classPart i cls pos = s := if_pos h

/-- With no operation in flight the breaker part of a report records the breaker (R86). -/
theorem breakerPart_of_idle {s : State} {i : Nat} (h : (s.sect i).op = none) (pos : Position) :
    s.breakerPart i pos = s.modSect i fun x => { x with breaker := reportedOf pos } := by
  have none : (s.sect i).completes pos = false := by rw [Sect.completes, h]
  unfold breakerPart
  rw [none]
  rfl

/-- What a report makes of a section that is not RECOVERING, before the supply is judged (R86, R87). -/
def reported (s : State) (i : Nat) (cls : SupplyClass) (pos : Position) : State :=
  (if (s.sect i).trips pos then (s.breakerPart i pos).addFault i 8 else s.breakerPart i pos).classPart i cls pos

/-- What follows at the supply, the trains and the incidents (R84, R88). -/
def reportedOn (s : State) (i : Nat) (pos : Position) (u : State) : State :=
  (thenIncidents s (supplyWork s u) fun v =>
    (if (s.sect i).completes pos then v.endCause .breakerFailure (.sect i) else v).judgeLockout (s.sect i) i).latchWarning (s.sect i) i

theorem takeFeeder_eq {s : State} {i : Nat} (h : (s.sect i).state ≠ .recovering) (cls : SupplyClass) (pos : Position) :
    s.takeFeeder i cls pos = s.reportedOn i pos (s.reported i cls pos) := by
  unfold takeFeeder reportedOn reported
  dsimp only
  rw [if_neg h]

theorem calm_reportedOn (s : State) (i : Nat) (pos : Position) (u : State) : Calm u (s.reportedOn i pos u) := by
  refine ((s.calm_supplyWork u).trans (calm_thenIncidents s _ fun v => ?_)).trans (calm_latchWarning _ _ i)
  split
  · exact (v.calm_endCause _ _).trans (calm_judgeLockout _ _ i)
  · exact v.calm_judgeLockout _ i

theorem does_reportedOn (s : State) (i : Nat) (pos : Position) (u : State) : Does afterSupply u (s.reportedOn i pos u) := by
  refine .trans (.trans (does_supplyWork trivial trivial trivial s u) (does_thenIncidents trivial s _ fun v => ?_)) (does_latchWarning _ _ i)
  refine .trans ?_ (does_judgeLockout trivial trivial trivial _ _ i)
  split
  · exact v.does_endCause _ _ (.inl trivial)
  · exact .refl v

theorem does_reported {on : Work → Prop} (may : ∀ p, on (.part p)) (tr : on .trains) (s : State) (i : Nat) (cls : SupplyClass)
    (pos : Position) : Does on s (s.reported i cls pos) := by
  refine .trans ?_ (does_classPart (fun p _ => may p) tr _ i cls pos)
  split
  · exact (does_breakerPart (fun p _ => may p) (may _) s i pos).trans (does_addFault (fun p _ => may p) tr _ i 8)
  · exact does_breakerPart (fun p _ => may p) (may _) s i pos

/-- The counter after the breaker part of a report (R86, R87). -/
def tripCount (x : Sect) (pos : Position) : Nat := if pos = .opened ∧ x.breaker = .closed then x.counter + 8 else x.counter

/-- The counter after the supply-class part of a report (R87). -/
def classCount (cls : SupplyClass) (pos : Position) (fed : Bool) (c : Nat) : Nat :=
  match cls with
  | .healthy => c - 1
  | .low => c + 1
  | .absent => if pos = .closed ∧ fed = true then c + 1 else c

end State

namespace SectIs
variable {s u : State} {i : Nat} {x : Sect}

/-- The supply-class part moves the counter within its limit, or locks the section out (R87). -/
theorem classPart (h : SectIs s i x u) (hi : i < s.sects.length) (free : x.state ≠ .lockedOut) (within : x.counter ≤ 255)
    (cls : SupplyClass) (pos : Position) :
    (State.classCount cls pos (u.supplier i).isSome x.counter ≤ 255 →
      SectIs s i { x with counter := State.classCount cls pos (u.supplier i).isSome x.counter } (u.classPart i cls pos)) ∧
    (255 < State.classCount cls pos (u.supplier i).isSome x.counter → LocksOut s i x (u.classPart i cls pos)) := by
  have added : (x.counter + 1 ≤ 255 → SectIs s i { x with counter := x.counter + 1 } (u.addFault i 1)) ∧
      (255 < x.counter + 1 → LocksOut s i x (u.addFault i 1)) := ⟨h.addFault hi free, h.addFault_past hi free⟩
  unfold State.classPart
  rw [h.mine, if_neg free]
  cases cls with
  | healthy => exact ⟨fun _ => h.modSect hi fun x => { x with counter := x.counter - 1 }, fun past => absurd past (by
      simp only [State.classCount]; omega)⟩
  | low => exact added
  | absent =>
    simp only [State.classCount]
    split
    · exact added
    · exact ⟨fun _ => h, fun past => absurd past (by omega)⟩

end SectIs

namespace State

/-- A report with no operation in flight, of a section neither LOCKED OUT nor RECOVERING (R86, R87). -/
theorem reported_of_idle {s : State} {i : Nat} (hi : i < s.sects.length) (idle : (s.sect i).op = none) (free : (s.sect i).state ≠ .lockedOut)
    (cls : SupplyClass) (pos : Position) (within : (s.sect i).counter ≤ 255) :
    let c1 := tripCount (s.sect i) pos
    let c2 := classCount cls pos (s.supplier i).isSome c1
    (c1 ≤ 255 → c2 ≤ 255 → SectIs s i { s.sect i with counter := c2, breaker := reportedOf pos } (s.reported i cls pos)) ∧
    (255 < c1 ∨ 255 < c2 → LocksOut s i { s.sect i with breaker := reportedOf pos } (s.reported i cls pos)) := by
  intro c1 c2
  have first : SectIs s i { s.sect i with breaker := reportedOf pos } (s.breakerPart i pos) := by
    rw [breakerPart_of_idle idle]
    exact (SectIs.refl s i).modSect hi fun x => { x with breaker := reportedOf pos }
  have trips : (s.sect i).trips pos = true ↔ pos = .opened ∧ (s.sect i).breaker = .closed := by
    simp [Sect.trips, Sect.completes, idle]
  have tripped : (c1 ≤ 255 → SectIs s i { s.sect i with counter := c1, breaker := reportedOf pos }
        (if (s.sect i).trips pos then (s.breakerPart i pos).addFault i 8 else s.breakerPart i pos)) ∧
      (255 < c1 → LocksOut s i { s.sect i with breaker := reportedOf pos }
        (if (s.sect i).trips pos then (s.breakerPart i pos).addFault i 8 else s.breakerPart i pos)) := by
    by_cases trip : pos = .opened ∧ (s.sect i).breaker = .closed
    · have count : c1 = (s.sect i).counter + 8 := if_pos trip
      rw [if_pos (trips.mpr trip), count]
      exact ⟨first.addFault hi free, first.addFault_past hi free⟩
    · have count : c1 = (s.sect i).counter := if_neg trip
      rw [if_neg fun t => trip (trips.mp t), count]
      exact ⟨fun _ => first, fun past => absurd past (by omega)⟩
  by_cases le : c1 ≤ 255
  · have is := tripped.1 le
    have class_ := is.classPart hi free le cls pos
    rw [is.supplier rfl] at class_
    exact ⟨fun _ => class_.1, fun past => have l := class_.2 (past.resolve_left (by omega)); ⟨l.mine, l.others, l.directive⟩⟩
  · have locked := tripped.2 (by omega)
    have state : (State.sect (if (s.sect i).trips pos then (s.breakerPart i pos).addFault i 8 else s.breakerPart i pos) i).state = .lockedOut :=
      congrArg Sect.state locked.mine
    rw [reported, classPart_of_lockedOut state]
    exact ⟨fun h => absurd h le, fun _ => locked⟩

/-- A report for a section that is LOCKED OUT moves no counter (R87). -/
theorem reported_of_lockedOut {s : State} {i : Nat} (hi : i < s.sects.length) (idle : (s.sect i).op = none)
    (locked : (s.sect i).state = .lockedOut) (cls : SupplyClass) (pos : Position) :
    SectIs s i { s.sect i with breaker := reportedOf pos } (s.reported i cls pos) := by
  have first : SectIs s i { s.sect i with breaker := reportedOf pos } (s.breakerPart i pos) := by
    rw [breakerPart_of_idle idle]
    exact (SectIs.refl s i).modSect hi fun x => { x with breaker := reportedOf pos }
  have state : ((s.breakerPart i pos).sect i).state = .lockedOut := by rw [first.mine]; exact locked
  have stands : (if (s.sect i).trips pos then (s.breakerPart i pos).addFault i 8 else s.breakerPart i pos) = s.breakerPart i pos := by
    split
    · exact if_pos state
    · rfl
  rw [reported, stands, classPart_of_lockedOut state]
  exact first

/-- The sections by the end of the event. -/
theorem ended_own (b : State) {s u : State} (i : Nat) (pos : Position) (j : Nat) :
    ((endEvent b (s.reportedOn i pos u)).sect j).own = (u.sect j).own :=
  ((s.calm_reportedOn i pos u).trans (calm_endEvent b _)).sect_core j

/-- The section and its breaker by the end of the event. -/
theorem ended_locksOut {s b u : State} {i : Nat} {x : Sect} (h : LocksOut s i x u) (ready : u.Ready) (pos : Position) :
    LocksOut s i x (endEvent b (s.reportedOn i pos u)) := by
  have run := ((s.does_reportedOn i pos u).trans (does_endEvent trivial trivial trivial b _)) (.inr ready)
  exact ⟨(ended_own b i pos i).trans h.mine, fun j ne => (ended_own b i pos j).trans (h.others j ne),
    run.breakerDirective id id ready (Nat.le_add_right ..) h.directive⟩

/-- A FEEDER report of a section that is not RECOVERING. -/
theorem exec_feeder {s : State} {i time : Nat} (op : s.part = .operating) (hi : i < s.tables.header.sections) (ht : time < 864000)
    (h : (s.sect i).state ≠ .recovering) (cls : SupplyClass) (pos : Position) : exec (.feeder i cls pos time) s =
      .next (endEvent s.counted (s.counted.reportedOn i pos (s.counted.reported i cls pos))) := by
  refine congrArg Host.Outcome.next ((takeReport_taken op ht (s.sectOk i) fun t => t.takeFeeder i cls pos).trans ?_)
  rw [if_pos (show s.sectOk i = true from decide_eq_true hi), takeFeeder_eq (s := s.counted) h]

end State

theorem Steady.badCount {s t : State} (h : Steady s t) : t.links.badCount = s.links.badCount := by
  simpa using congrArg Links.badCount h.links

open State

/-- Settles O45: the report's own work on its section is computed; what follows in the event moves no section. -/
theorem feederMovesTheFaultCounter : Obligations.FeederMovesTheFaultCounter := by
  intro s i time cls pos sound op hi ht idle within x c1 c2 breaker
  have size : i < s.sects.length := by
    rw [sound.sized.2.2.2.1]
    exact Nat.lt_of_lt_of_le hi (headerGood_iff.mp (sound.header op)).2.1.2
  have reportedBreaker : reportedOf pos = breaker := by cases pos <;> rfl
  have ready : s.counted.Ready := ⟨sound_of_pool_of_sized (s := s) (t := s.counted) sound.sized sound.header rfl sound, op⟩
  have run : Run (· ≠ .rough) s.counted (s.counted.reported i cls pos) :=
    does_reported (fun _ => Work.noConfusion) Work.noConfusion s.counted i cls pos (.inr ready)
  have fed := fun free => reported_of_idle (s := s.counted) size idle free cls pos within
  have c2Count : classCount cls pos (s.supplier i).isSome c1 = c2 := by cases cls <;> rfl
  refine ⟨fun free settled le1 le2 => ?_, fun free settled past => ?_, fun locked => ?_⟩
  · have is := (fed free).1 le1 (c2Count ▸ le2)
    refine ⟨_, exec_feeder op hi ht settled cls pos, ?_, fun j ne => ?_, ?_⟩
    · rw [ended_own, is.mine, ← reportedBreaker, ← c2Count]; rfl
    · rw [ended_own, is.others j ne]; rfl
    · exact ((run.steady.trans (calm_reportedOn s.counted i pos _).toSteady).trans (calm_endEvent s.counted _).toSteady).badCount
  · obtain ⟨mine, others, directive⟩ := ended_locksOut (b := s.counted) ((fed free).2 (c2Count ▸ past))
      (run.ready (fun h => h rfl) ready) pos
    refine ⟨_, exec_feeder op hi ht settled cls pos, mine.trans ?_, directive, others⟩
    rw [← reportedBreaker]; rfl
  · have is := reported_of_lockedOut (s := s.counted) size idle locked cls pos
    refine ⟨_, exec_feeder op hi ht (by rw [locked]; decide) cls pos, ?_⟩
    rw [ended_own, is.mine, ← reportedBreaker]; rfl

end Sys2Proof.Machine

/-! The pending deadlines under edits: none comes to stand that does not lie ahead of line time (R10). -/

namespace Sys2Proof.Machine
open Sys2Proof

/-- What may have a pending deadline (R10). -/
inductive Timer where
  | departure (i : Nat) | overdue (i : Nat) | approach (i : Nat)
  | wait (k : Nat) (h : Handle)
  | lease (k : Nat) (h : Handle)
  | operation (i : Nat)
  | escalation (i : Nat)
  | rest (i : Nat)
  | player (p : Nat)

namespace Timer

/-- The deadline `d` is pending. -/
def Stands : Timer → State → Nat → Prop
  | departure i, s, d => ∃ x, s.train? i = some x ∧ x.state = .dwelling ∧ x.depDl = some d
  | overdue i, s, d => ∃ x, s.train? i = some x ∧ x.state = .running ∧ x.overdueDl = some d
  | approach i, s, d => ∃ x, s.train? i = some x ∧ x.state.isRunning = true ∧ x.approachDl = some d
  | wait k h, s, d => ∃ e ∈ (s.substation k).queue, e.train = h ∧ e.waitDl = some d
  | lease k h, s, d => ∃ l ∈ (s.substation k).leases, l.train = h ∧ l.expiry = d
  | operation i, s, d => ∃ op, (s.sect i).op = some (op, d)
  | escalation i, s, d => ∃ c, s.incident? i = some c ∧ c.state = .raised ∧ c.escDl = some d
  | rest i, s, d => ∃ a, s.ann? i = some a ∧ a.state = .resting ∧ a.restDl = some d
  | player p, s, d => ((s.platform p).player = .cued ∨ (s.platform p).player = .stopping) ∧ (s.platform p).playerDl = some d

/-- Where the deadline of a timer may come from: from itself, or with the requests that move from another queue (R115). -/
def From (on : Work → Prop) (c b : Timer) : Prop := b = c ∨ on .supply ∧ ∃ k g h, c = wait k h ∧ b = wait g h

theorem From.trans {on : Work → Prop} {a b c : Timer} (h : From on c b) (h' : From on b a) : From on c a := by
  rcases h with rfl | ⟨supply, k, g, w, rfl, rfl⟩
  · exact h'
  · rcases h' with rfl | ⟨-, k', g', w', same, rfl⟩
    · exact .inr ⟨supply, k, g, w, rfl, rfl⟩
    · cases same
      exact .inr ⟨supply, k, g', w, rfl, rfl⟩

end Timer

/-- The pending deadlines are those of the timers. -/
theorem nonePending_iff {s : State} {hit : Nat → Prop} : s.NonePending hit ↔ ∀ c : Timer, ∀ d, c.Stands s d → ¬ hit d := by
  constructor
  · intro h c d stands
    cases c with
    | departure i => obtain ⟨x, hx, state, dl⟩ := stands; exact h.departures i x d hx state dl
    | overdue i => obtain ⟨x, hx, state, dl⟩ := stands; exact h.overdues i x d hx state dl
    | approach i => obtain ⟨x, hx, state, dl⟩ := stands; exact h.approaches i x d hx state dl
    | wait k w => obtain ⟨e, he, -, dl⟩ := stands; exact h.waits k e he d dl
    | lease k w => obtain ⟨l, hl, -, rfl⟩ := stands; exact h.leases k l hl
    | operation i => obtain ⟨op, hop⟩ := stands; exact h.operations i op d hop
    | escalation i => obtain ⟨c, hc, state, dl⟩ := stands; exact h.escalations i c d hc state dl
    | rest i => obtain ⟨a, ha, state, dl⟩ := stands; exact h.rests i a d ha state dl
    | player p => exact h.players p d stands.1 stands.2
  · intro h
    exact {
      departures := fun i x d hx state dl => h (.departure i) d ⟨x, hx, state, dl⟩
      overdues := fun i x d hx state dl => h (.overdue i) d ⟨x, hx, state, dl⟩
      approaches := fun i x d hx state dl => h (.approach i) d ⟨x, hx, state, dl⟩
      waits := fun k e he d dl => h (.wait k e.train) d ⟨e, he, rfl, dl⟩
      leases := fun k l hl => h (.lease k l.train) _ ⟨l, hl, rfl, rfl⟩
      operations := fun i op d hop => h (.operation i) d ⟨op, hop⟩
      escalations := fun i c d hc state dl => h (.escalation i) d ⟨c, hc, state, dl⟩
      rests := fun i a d ha state dl => h (.rest i) d ⟨a, ha, state, dl⟩
      players := fun p d state dl => h (.player p) d ⟨state, dl⟩ }

namespace State
variable {on : Work → Prop}

/-! ### The values that START has checked (R8, R16) -/

theorem Configured.vals_good {s : State} (h : s.Configured) (op : s.part = .operating) {p : Nat} (hp : p < s.tables.header.platforms) :
    s.valsGood s.control.active p = true := by
  have good : ∀ u, u < 4 → s.valsGood u p = true := fun u hu => by
    have entry := fun v hv => startFailure_eq_none.mp (h.checked op) v p hv
    interval_cases u
    · exact entry 3 hp
    · exact entry 4 hp
    · exact entry 5 hp
    · exact entry 6 hp
  exact good _ h.patterns.1

theorem Configured.line_good {s : State} (h : s.Configured) (op : s.part = .operating) : s.lineGood s.control.active = true :=
  startFailure_eq_none.mp (h.checked op) 7 _ h.patterns.1

/-- A lease that is granted runs out in time to come (R108). -/
theorem lease_ahead {s : State} (r : s.Ready) (h : s.Configured) {i : Nat} {x : Train} (hx : s.train? i = some x) :
    0 < diff s.lineTime (later s.lineTime (s.vals (placeOf x)).accel) := by
  obtain ⟨-, -, -, -, -, -, -, accel, limit⟩ := valsGood_iff.mp (h.vals_good r.2 (h.place_lt r hx))
  exact diff_later_pos (by unfold vals; omega) (by unfold vals; omega)

/-- So does the wait of an entry (R107). -/
theorem wait_ahead {s : State} (r : s.Ready) (h : s.Configured) : 0 < diff s.lineTime (later s.lineTime s.line.waitLimit) := by
  obtain ⟨-, ⟨low, high⟩, -⟩ := lineGood_iff.mp (h.line_good r.2)
  exact diff_later_pos (by unfold line; omega) (by unfold line; omega)

/-! ### Trains -/

/-- What an edit makes of a train's deadlines. -/
theorem deadlines_edit {s t : State} (e : Edit on s t) (smooth : ¬ on .rough) (r : s.Ready) {i : Nat} {y : Train} (hy : t.train? i = some y) :
    ∃ x, s.train? i = some x ∧ (TrainChange on s x y ∨ (y.state = .held ∨ y.state = .waiting ∨ y.state = .released) ∨
      (y.state = x.state ∧ y.depDl = x.depDl ∧ y.overdueDl = x.overdueDl ∧ y.approachDl = x.approachDl)) := by
  obtain ⟨x, hx, -⟩ := Run.was_live (Relation.ReflTransGen.single e) smooth r hy
  refine ⟨x, hx, ?_⟩
  cases e with
  | record e =>
    obtain ⟨-, o, train⟩ := train_recordEdit e r hx
    cases hy.symm.trans train
    exact .inr (.inr ⟨rfl, rfl, rfl, rfl⟩)
  | gate e =>
    have same : t.pool = s.pool → y = x := fun pool => by
      cases (hy.symm.trans ((train?_of_pool pool i).trans hx)); rfl
    have mod : ∀ (j : Nat) (f : Train → Train), t.pool = (s.modTrain j f).pool → y = if j = i then f x else x := fun j f pool => by
      cases hy.symm.trans (train_of_modTrain pool hx).2; rfl
    have still : y = x → (TrainChange on s x y ∨ (y.state = .held ∨ y.state = .waiting ∨ y.state = .released) ∨
        (y.state = x.state ∧ y.depDl = x.depDl ∧ y.overdueDl = x.overdueDl ∧ y.approachDl = x.approachDl)) := by
      rintro rfl; exact .inr (.inr ⟨rfl, rfl, rfl, rfl⟩)
    have moved : ∀ (j : Nat) (f : Train → Train), t.pool = (s.modTrain j f).pool →
        (j = i → TrainChange on s x (f x) ∨ ((f x).state = .held ∨ (f x).state = .waiting ∨ (f x).state = .released) ∨
          ((f x).state = x.state ∧ (f x).depDl = x.depDl ∧ (f x).overdueDl = x.overdueDl ∧ (f x).approachDl = x.approachDl)) →
        (TrainChange on s x y ∨ (y.state = .held ∨ y.state = .waiting ∨ y.state = .released) ∨
          (y.state = x.state ∧ y.depDl = x.depDl ∧ y.overdueDl = x.overdueDl ∧ y.approachDl = x.approachDl)) := fun j f pool change => by
      have is := mod j f pool
      by_cases hj : j = i
      · rw [if_pos hj] at is; rw [is]; exact change hj
      · rw [if_neg hj] at is; exact still is
    cases e with
    | train j f all => exact moved j f rfl fun h => by subst h; exact .inl (all.resolve_left smooth x hx).1
    | leave j f _ all => exact moved j f rfl fun h => by subst h; exact .inl (all.resolve_left smooth x hx).1
    | grantEntry | grantAsked => exact moved _ _ (pool_grant ..) fun _ => .inr (.inl (.inr (.inr rfl)))
    | enqueue j k w => exact moved k (fun x => { x with state := .waiting }) rfl fun _ => .inr (.inl (.inr (.inl rfl)))
    | withdraw j reason => exact moved j _ (s.pool_withdrawn j reason) fun _ => .inr (.inl (.inl rfl))
    | dropEntries h => exact still (same (s.pool_dropEntries h))
    | dropLease k h =>
      cases hc : s.current h with
      | true =>
        exact moved h.slot (fun x => { x with lease := none }) (by rw [pool_dropLease, if_pos hc]) fun _ => .inr (.inr ⟨rfl, rfl, rfl, rfl⟩)
      | false => exact still (same (by rw [pool_dropLease, if_neg (by simp [hc])]))
    | waitGone | moveRequests => exact still (same rfl)

/-! ### Wait queues and leases -/

theorem leases_dropEntries (s : State) (h : Handle) (k : Nat) : ((s.dropEntries h).substation k).leases = (s.substation k).leases := by
  unfold dropEntries
  refine foldl_keeps (P := fun t : State => (t.substation k).leases = (s.substation k).leases) (fun t j ht => ?_) substationIndices rfl
  split
  · exact (substation_modSubstation_part Substation.leases t j (by intro; rfl) k).trans ht
  · exact ht

/-- A grant adds its lease, at its substation (R108). -/
theorem lease_of_grant {s : State} {k : Nat} {h : Handle} {w j : Nat} {l : Lease} (hl : l ∈ ((s.grant k h w).substation j).leases) :
    l ∈ (s.substation j).leases ∨ ∃ x, s.train? h.slot = some x ∧ l.expiry = later s.lineTime (s.vals (placeOf x)).accel := by
  have dropped : ((s.dropEntry k h).substation j).leases = (s.substation j).leases :=
    substation_modSubstation_part Substation.leases s k (by intro; rfl) j
  unfold grant at hl
  dsimp only at hl
  split at hl
  · exact .inl (dropped ▸ hl)
  · next x hx =>
    have added : ∀ f, l ∈ (((s.dropEntry k h).modSubstation k f).substation j).leases →
        (∀ b, (f b).leases = b.leases ++ [⟨h, s.serviceWeight k w, later s.lineTime (s.vals (placeOf x)).accel⟩]) →
        l ∈ (s.substation j).leases ∨ l.expiry = later s.lineTime (s.vals (placeOf x)).accel := fun f hl hf => by
      rw [substation_modSubstation] at hl
      split at hl
      · rw [hf, dropped] at hl
        exact (List.mem_append.mp hl).imp_right fun new => by rw [List.mem_singleton.mp new]
      · exact .inl (dropped ▸ hl)
    exact (added _ hl fun _ => rfl).imp_right fun e => ⟨x, hx, e⟩

/-- The end of a lease adds none. -/
theorem leases_dropLease (s : State) (k : Nat) (h : Handle) (j : Nat) : ((s.dropLease k h).substation j).leases =
    if k = j then (s.substation j).leases.filter (fun l => l.train != h) else (s.substation j).leases := by
  refine Eq.trans ?_ (part_modSubstation Substation.leases (List.filter fun l => l.train != h) s k (f := fun b =>
    { b with leases := b.leases.filter (fun l => l.train != h),
             inUse := b.inUse - ((b.leases.filter fun l => l.train == h).map Lease.weight).sum }) (fun _ => rfl) rfl j)
  unfold dropLease
  dsimp only
  split <;> rfl

theorem leases_moveRequests (s : State) (i g r j : Nat) : ((s.moveRequests i g r).substation j).leases = (s.substation j).leases :=
  (substation_modSubstation_part Substation.leases _ r (by intro; rfl) j).trans
    (substation_modSubstation_part Substation.leases s g (by intro; rfl) j)

theorem leases_queueUp (s : State) (k i w j : Nat) : ((s.queueUp k i w).substation j).leases = (s.substation j).leases :=
  substation_modSubstation_part Substation.leases s k
    (f := fun b => { b with queue := b.queue ++ [⟨s.handle i, w, s.lineTime, some (later s.lineTime s.line.waitLimit)⟩] }) (fun _ => rfl) j

theorem leases_waitGone (s : State) (k : Nat) (h : Handle) (j : Nat) : ((s.waitGone k h).substation j).leases = (s.substation j).leases :=
  substation_modSubstation_part Substation.leases s k (by intro; rfl) j

theorem leases_withdrawn (s : State) (i : Nat) (reason : HoldSet → HoldSet) (j : Nat) :
    ((s.withdrawn i reason).substation j).leases = (s.substation j).leases := by
  have same : (s.withdrawn i reason).substation j = (s.dropEntries (s.handle i)).substation j := by
    simp only [substation, withdrawn, modTrain_substations]
  rw [same, leases_dropEntries]

theorem lease_edit {s t : State} (e : Edit on s t) (r : s.Ready) (c : s.Configured) {k : Nat} {l : Lease} (hl : l ∈ (t.substation k).leases) :
    l ∈ (s.substation k).leases ∨ 0 < diff s.lineTime l.expiry := by
  have granted : ∀ g h w, l ∈ ((s.grant g h w).substation k).leases → l ∈ (s.substation k).leases ∨ 0 < diff s.lineTime l.expiry :=
    fun g h w hl => (lease_of_grant hl).imp_right fun ⟨x, hx, expiry⟩ => expiry ▸ lease_ahead r c hx
  cases e with
  | record e => exact .inl ((queue_recordEdit e k).2 ▸ hl)
  | gate e =>
    cases e with
    | train | leave => exact .inl hl
    | grantEntry g e => exact granted g e.train e.weight hl
    | grantAsked g i w => exact granted g (s.handle i) w hl
    | enqueue g i w => rw [leases_queueUp] at hl; exact .inl hl
    | withdraw i reason => rw [leases_withdrawn] at hl; exact .inl hl
    | dropEntries h => rw [leases_dropEntries] at hl; exact .inl hl
    | dropLease g h =>
      rw [leases_dropLease] at hl
      split at hl
      · exact .inl (List.mem_filter.mp hl).1
      · exact .inl hl
    | waitGone g h => rw [leases_waitGone] at hl; exact .inl hl
    | moveRequests i g m => rw [leases_moveRequests] at hl; exact .inl hl

theorem wait_edit {s t : State} (e : Edit on s t) (r : s.Ready) (c : s.Configured) {k d : Nat} {e' : Entry}
    (he : e' ∈ (t.substation k).queue) (hd : e'.waitDl = some d) :
    (∃ g, (g = k ∨ on .supply) ∧ e' ∈ (s.substation g).queue) ∨ 0 < diff s.lineTime d := by
  have old : e' ∈ (s.substation k).queue → (∃ g, (g = k ∨ on .supply) ∧ e' ∈ (s.substation g).queue) ∨ 0 < diff s.lineTime d :=
    fun h => .inl ⟨k, .inl rfl, h⟩
  have kept : ∀ {p : Entry → Bool}, e' ∈ (s.substation k).queue.filter p → _ := fun h => old (List.mem_filter.mp h).1
  cases e with
  | record e => exact old ((queue_recordEdit e k).1 ▸ he)
  | gate e =>
    cases e with
    | train | leave => exact old he
    | grantEntry g e =>
      rw [queue_grant] at he
      split at he
      · exact kept he
      · exact old he
    | grantAsked g i w =>
      rw [queue_grant] at he
      split at he
      · exact kept he
      · exact old he
    | enqueue g i w =>
      rw [queue_queueUp s r.1.sized] at he
      split at he
      · rcases List.mem_append.mp he with there | new
        · exact old there
        · rw [List.mem_singleton.mp new] at hd
          cases hd
          exact .inr (wait_ahead r c)
      · exact old he
    | withdraw i reason => rw [queue_withdrawn s r.1.sized] at he; exact kept he
    | dropEntries h => rw [queue_dropEntries s r.1.sized] at he; exact kept he
    | dropLease g h => exact old (queue_dropLease s g h k ▸ he)
    | waitGone g h =>
      rw [queue_waitGone] at he
      split at he
      · obtain ⟨e₀, mem, rfl⟩ := List.mem_map.mp he
        split at hd
        · cases hd
        · next other => rw [if_neg other]; exact .inl ⟨k, .inl rfl, mem⟩
      · exact old he
    | moveRequests i g m supply other =>
      have queue := queue_moveRequests s r.1.sized i other k
      split at queue
      · exact kept (queue ▸ he)
      · split at queue
        · rcases List.mem_append.mp (queue.mem_iff.mp he) with moved | there
          · exact .inl ⟨g, .inr supply, (List.mem_filter.mp moved).1⟩
          · exact old there
        · exact old (queue ▸ he)

/-! ### Sections -/

theorem calm_gateEdit {s t : State} (e : GateEdit on s t) : Calm s t := by
  cases e with
  | train i f | leave i f => exact s.calm_modTrain i f
  | grantEntry k e => exact s.calm_grant k e.train e.weight
  | grantAsked k i w => exact s.calm_grant k (s.handle i) w
  | enqueue k i w => exact s.calm_queueUp k i w
  | withdraw i r => exact s.calm_withdrawn i r
  | dropEntries h => exact s.calm_dropEntries h
  | dropLease k h => exact s.calm_dropLease k h
  | waitGone k h => exact s.calm_waitGone k h
  | moveRequests i g r => exact s.calm_moveRequests i g r

theorem operation_edit {s t : State} (e : Edit on s t) {i d : Nat} {op : BreakerOp} (h : (t.sect i).op = some (op, d)) :
    (s.sect i).op = some (op, d) ∨ 0 < diff s.lineTime d := by
  have calm : Calm s t → (s.sect i).op = some (op, d) := fun c => by
    have same : (t.sect i).core.op = (s.sect i).core.op := by rw [c.sect_core i]
    exact same.symm.trans h
  cases e with
  | record e =>
    cases e with
    | sect j f _ _ ordered =>
      rw [sect_modSect] at h
      split at h
      · exact ordered _ op d h
      · exact .inl h
    | putOwed k loc v => exact .inl (calm (s.calm_putOwed k loc v))
    | newIncident c u j a =>
      have same : u.sect i = s.sect i := by rw [sect, sect, (allocate_rest a).2.1]
      exact .inl (same ▸ h)
    | newAnn b u j a =>
      have same : u.sect i = s.sect i := by rw [sect, sect, (allocate_rest a).2.1]
      exact .inl (same ▸ h)
    | _ => exact .inl h
  | gate e => exact .inl (calm (calm_gateEdit e))

/-! ### Incidents and announcements -/

/-- Edits of the gate touch no incident and no announcement. -/
theorem records_gateEdit {s t : State} (e : GateEdit on s t) (i : Nat) : t.incident? i = s.incident? i ∧ t.ann? i = s.ann? i := by
  have same : ∀ {u : State}, t.pool = u.pool → t.incident? i = u.incident? i ∧ t.ann? i = u.ann? i := fun {u} pool => by
    have slots : t.slot i = u.slot i := by rw [slot, slot, pool]
    exact ⟨incident?_of_slot slots, ann?_of_slot slots⟩
  have mod : ∀ (j : Nat) (f : Train → Train), t.pool = (s.modTrain j f).pool → t.incident? i = s.incident? i ∧ t.ann? i = s.ann? i :=
    fun j f pool => ⟨(same pool).1.trans (incident?_modTrain ..), (same pool).2.trans (ann?_modTrain ..)⟩
  cases e with
  | train j f | leave j f => exact mod j f rfl
  | grantEntry | grantAsked => exact mod _ _ (pool_grant ..)
  | enqueue k j w => exact mod j (fun x => { x with state := .waiting }) rfl
  | withdraw j reason => exact mod j _ (s.pool_withdrawn j reason)
  | dropEntries h => exact same (s.pool_dropEntries h)
  | dropLease k h =>
    cases hc : s.current h with
    | true => exact mod h.slot (fun x => { x with lease := none }) (by rw [pool_dropLease, if_pos hc])
    | false => exact same (by rw [pool_dropLease, if_neg (by simp [hc])])
  | waitGone | moveRequests => exact ⟨rfl, rfl⟩

end State

end Sys2Proof.Machine

/-! Incidents, announcements and players under edits, and so the pending deadlines under runs (R10). -/

namespace Sys2Proof.Machine
open Sys2Proof

/-- An incident at a new severity, with the escalation deadline that goes with it (R128, R129). -/
def Incident.risen (c : Incident) (now v : Nat) : Incident :=
  { c with severity := v, escDl := if c.state = .raised then (ackLimit v).map fun n => later now n else c.escDl }

/-- What an edit makes of a live incident. -/
inductive Became (on : Work → Prop) (s : State) (i : Nat) (c d : Incident) : Prop
  | same (h : d = c)
  | change (h : IncidentChange on s c d)
  | severity (v : Nat) (h : d = c.risen s.lineTime v) (may : on (.escalate i) ∨ on .command ∨ c.kind ≠ .operator)

namespace State
variable {on : Work → Prop}

theorem incident?_changeSeverity (s : State) (i v j : Nat) : (s.changeSeverity i v).incident? j =
    if i = j then (s.incident? j).map fun c => c.risen s.lineTime v else s.incident? j := by
  unfold changeSeverity
  dsimp only
  rw [incident?_modIncident]
  have linked : ∀ (u : State) (k : Nat), (u.linkIncident k).incident? j = u.incident? j := fun _ _ => rfl
  have unlinked : ∀ (u : State) (k : Nat), (u.unlinkIncident k).incident? j = u.incident? j := fun _ _ => rfl
  rw [linked, incident?_modIncident, unlinked]
  split
  · cases s.incident? j with
    | none => rfl
    | some c =>
      simp only [Option.map_some, Incident.risen]
      split <;> rfl
  · rfl

theorem records_putOwed (s : State) (k : Kind) (loc : Location) (v : Option Nat) (i : Nat) :
    (s.putOwed k loc v).incident? i = s.incident? i ∧ (s.putOwed k loc v).ann? i = s.ann? i := by
  unfold putOwed
  split
  · exact ⟨rfl, rfl⟩
  · exact ⟨rfl, rfl⟩
  · exact ⟨rfl, rfl⟩
  · split
    · exact ⟨incident?_modTrain .., ann?_modTrain ..⟩
    · exact ⟨rfl, rfl⟩

/-- An edit leaves every incident live, and changes it as its kind of work allows. -/
theorem incident_edit {s t : State} (e : Edit on s t) (r : s.Ready) (calm : ¬ on .command) {i : Nat} {c : Incident}
    (hc : s.incident? i = some c) : ∃ d, t.incident? i = some d ∧ Became on s i c d := by
  have kept : t.incident? i = s.incident? i → ∃ d, t.incident? i = some d ∧ Became on s i c d := fun h => ⟨c, h.trans hc, .same rfl⟩
  have live : (s.slot i).record ≠ .free := fun hf => by rw [incident?_of_free hf] at hc; cases hc
  have alloc : ∀ {u : State} {b : Rec} {j : Nat}, s.allocate b = some (u, j) → u.incident? i = s.incident? i := fun {u b j} a => by
    obtain ⟨-, free⟩ := allocate_free a r.1
    exact incident?_of_slot (allocate_slot_ne a fun hj => live (hj ▸ free))
  cases e with
  | record e =>
    cases e with
    | attention | issue | player | ring | sect | substation => exact kept rfl
    | putOwed k loc v => exact kept (records_putOwed s k loc v i).1
    | incident j f change =>
      rw [incident?_modIncident] at kept ⊢
      by_cases hj : j = i
      · subst hj
        rw [if_pos rfl, hc]
        exact ⟨f c, rfl, .change (change c hc)⟩
      · rw [if_neg hj] at kept ⊢; exact kept rfl
    | severity j v _ may =>
      rw [incident?_changeSeverity] at kept ⊢
      by_cases hj : j = i
      · subst hj
        rw [if_pos rfl, hc]
        exact ⟨_, rfl, .severity v rfl (may.imp_right (Or.imp_right fun h => h c hc))⟩
      · rw [if_neg hj] at kept ⊢; exact kept rfl
    | newIncident b u j a => exact kept (show u.incident? i = _ from alloc a)
    | dropIncident j command => exact absurd command calm
    | ann j f => exact kept (incident?_modAnn ..)
    | newAnn b u j a => exact kept (show u.incident? i = _ from alloc a)
    | dropAnn j a gone =>
      have ne : j ≠ i := fun h => by rw [h, ann?_of_incident hc] at gone; cases gone
      exact kept ((incident?_release ..).trans (if_neg ne))
    | requeueAnn j a => exact kept (incident?_modAnn ..)
  | gate e => exact kept (records_gateEdit e i).1

/-- An incident that was not live before an edit begins with an escalation deadline ahead, if any (R128). -/
theorem incident_fresh {s t : State} (e : Edit on s t) (r : s.Ready) {i : Nat} {d : Incident} (hd : t.incident? i = some d) :
    (s.incident? i).isSome = true ∨ ∀ n, d.escDl = some n → 0 < diff s.lineTime n := by
  have kept : t.incident? i = s.incident? i → _ := fun h => Or.inl (b := ∀ n, d.escDl = some n → 0 < diff s.lineTime n)
    (show (s.incident? i).isSome = true by rw [← h, hd]; rfl)
  have alloc : ∀ {u : State} {b : Rec} {j : Nat}, s.allocate b = some (u, j) → j ≠ i → u.incident? i = s.incident? i := fun {u b j} a ne =>
    incident?_of_slot (allocate_slot_ne a (Ne.symm ne))
  cases e with
  | record e =>
    cases e with
    | attention | issue | player | ring | sect | substation => exact kept rfl
    | putOwed k loc v => exact kept (records_putOwed s k loc v i).1
    | incident j f =>
      rw [incident?_modIncident] at hd
      split at hd
      · exact .inl (by rw [Option.map_eq_some_iff] at hd; obtain ⟨c, hc, -⟩ := hd; rw [hc]; rfl)
      · exact .inl (by rw [hd]; rfl)
    | severity j v =>
      rw [incident?_changeSeverity] at hd
      split at hd
      · exact .inl (by rw [Option.map_eq_some_iff] at hd; obtain ⟨c, hc, -⟩ := hd; rw [hc]; rfl)
      · exact .inl (by rw [hd]; rfl)
    | newIncident b u j a _ _ ahead =>
      by_cases hj : j = i
      · subst hj
        have new : u.incident? j = some b := incident?_eq_some.mpr (by rw [allocate_slot_self a r.1])
        cases hd.symm.trans (show (u.linkIncident j).incident? j = some b from new)
        exact .inr ahead
      · exact kept (show u.incident? i = _ from alloc a hj)
    | dropIncident j _ gone =>
      rw [incident?_release] at hd
      split at hd
      · cases hd
      · exact .inl (show (s.incident? i).isSome = true by rw [show s.incident? i = some d from hd]; rfl)
    | ann j f => exact kept (incident?_modAnn ..)
    | newAnn b u j a =>
      by_cases hj : j = i
      · subst hj
        have new : u.ann? j = some b := ann?_eq_some.mpr (by rw [allocate_slot_self a r.1])
        rw [show (u.linkAnn b.platform j).incident? j = u.incident? j from rfl, incident?_of_ann new] at hd
        cases hd
      · exact kept (show u.incident? i = _ from alloc a hj)
    | dropAnn j a gone =>
      rw [incident?_release] at hd
      split at hd
      · cases hd
      · exact .inl (show (s.incident? i).isSome = true by rw [show s.incident? i = some d from hd]; rfl)
    | requeueAnn j a => exact kept (incident?_modAnn ..)
  | gate e => exact kept (records_gateEdit e i).1

theorem escalation_edit {s t : State} (e : Edit on s t) (r : s.Ready) (calm : ¬ on .command) {i n : Nat} {d : Incident}
    (hd : t.incident? i = some d) (raised : d.state = .raised) (dl : d.escDl = some n) :
    (∃ c, s.incident? i = some c ∧ c.state = .raised ∧ c.escDl = some n) ∨ 0 < diff s.lineTime n := by
  rcases incident_fresh e r hd with old | ahead
  · obtain ⟨c, hc⟩ := Option.isSome_iff_exists.mp old
    obtain ⟨d', hd', became⟩ := incident_edit e r calm hc
    cases hd.symm.trans hd'
    cases became with
    | same h => exact .inl ⟨c, hc, h ▸ raised, h ▸ dl⟩
    | change h => exact (h.escalation n raised dl).imp_left fun k => ⟨c, hc, k⟩
    | severity v h =>
      subst h
      rw [Incident.risen] at dl
      dsimp only at dl
      rw [if_pos (show c.state = .raised from raised)] at dl
      exact .inr (escalation_ahead dl)
  · exact .inr (ahead n dl)

theorem rest_edit {s t : State} (e : Edit on s t) (r : s.Ready) (calm : ¬ on .command) {i d : Nat} {b : Ann} (hb : t.ann? i = some b)
    (resting : b.state = .resting) (dl : b.restDl = some d) : ∃ a, s.ann? i = some a ∧ a.state = .resting ∧ a.restDl = some d := by
  have kept : t.ann? i = s.ann? i → ∃ a, s.ann? i = some a ∧ a.state = .resting ∧ a.restDl = some d :=
    fun h => ⟨b, h.symm.trans hb, resting, dl⟩
  have alloc : ∀ {u : State} {b : Rec} {j : Nat}, s.allocate b = some (u, j) → j ≠ i → u.ann? i = s.ann? i := fun {u b j} a ne =>
    ann?_of_slot (allocate_slot_ne a (Ne.symm ne))
  cases e with
  | record e =>
    cases e with
    | attention | issue | player | ring | sect | substation => exact kept rfl
    | putOwed k loc v => exact kept (records_putOwed s k loc v i).2
    | incident j f => exact kept (ann?_modIncident ..)
    | severity j v =>
      exact kept ((ann?_modIncident ..).trans (ann?_modIncident ..))
    | newIncident c u j a =>
      by_cases hj : j = i
      · subst hj
        have new : u.incident? j = some c := incident?_eq_some.mpr (by rw [allocate_slot_self a r.1])
        rw [show (u.linkIncident j).ann? j = u.ann? j from rfl, ann?_of_incident new] at hb
        cases hb
      · exact kept (show u.ann? i = _ from alloc a hj)
    | dropIncident j command => exact absurd command calm
    | ann j f change =>
      rw [ann?_modAnn] at hb
      split at hb
      · obtain ⟨a, ha, rfl⟩ := Option.map_eq_some_iff.mp hb
        rename_i hj
        subst hj
        obtain ⟨state, old⟩ := ((change a ha).rest d resting dl).resolve_right calm
        exact ⟨a, ha, state, old⟩
      · exact ⟨b, hb, resting, dl⟩
    | newAnn c u j a _ _ queued =>
      by_cases hj : j = i
      · subst hj
        have new : u.ann? j = some c := ann?_eq_some.mpr (by rw [allocate_slot_self a r.1])
        cases hb.symm.trans (show (u.linkAnn c.platform j).ann? j = some c from new)
        rw [queued] at resting; cases resting
      · exact kept (show u.ann? i = _ from alloc a hj)
    | dropAnn j a gone =>
      rw [ann?_release] at hb
      split at hb
      · cases hb
      · exact ⟨b, hb, resting, dl⟩
    | requeueAnn j a live =>
      have is : ((s.modAnn j fun b => { b with state := .queued, restDl := none })).ann? i = some b := hb
      rw [ann?_modAnn] at is
      split at is
      · obtain ⟨c, -, rfl⟩ := Option.map_eq_some_iff.mp is
        cases resting
      · exact ⟨b, is, resting, dl⟩
  | gate e => exact kept (records_gateEdit e i).2

theorem platforms_gateEdit {s t : State} (e : GateEdit on s t) : t.platforms = s.platforms := by
  cases e with
  | withdraw i reason => rw [withdrawn, modTrain_platforms]; exact s.platforms_dropEntries _
  | dropEntries h => exact s.platforms_dropEntries h
  | dropLease k h => unfold dropLease; dsimp only; split <;> rfl
  | grantEntry k e => unfold grant; dsimp only; split <;> rfl
  | grantAsked k i w => unfold grant; dsimp only; split <;> rfl
  | _ => rfl

theorem player_edit {s t : State} (e : Edit on s t) {p d : Nat}
    (h : ((t.platform p).player = .cued ∨ (t.platform p).player = .stopping) ∧ (t.platform p).playerDl = some d) :
    (((s.platform p).player = .cued ∨ (s.platform p).player = .stopping) ∧ (s.platform p).playerDl = some d) ∨
      0 < diff s.lineTime d := by
  have kept : t.platforms = s.platforms → t.platform p = s.platform p := fun e => by rw [platform, platform, e]
  have same : t.platform p = s.platform p → _ := fun e => Or.inl (b := 0 < diff s.lineTime d) (e ▸ h)
  cases e with
  | record e =>
    cases e with
    | player q f change =>
      rw [platform_modPlatform] at h
      split at h
      · exact (change _).deadline d h.1 h.2
      · exact .inl h
    | ring q f _ keeps =>
      rw [platform_modPlatform] at h
      split at h
      · obtain ⟨-, player, -, dl⟩ := keeps (s.platform p)
        rw [player, dl] at h
        exact .inl h
      · exact .inl h
    | putOwed k loc v =>
      unfold putOwed at h
      split at h
      · rw [platform_modPlatform] at h
        split at h <;> exact .inl h
      · exact .inl h
      · exact .inl h
      · split at h <;> exact .inl h
    | newIncident c u j a => exact same (kept (allocate_rest a).1)
    | newAnn c u j a => exact same (kept (allocate_rest a).1)
    | _ => exact .inl h
  | gate e => exact same (kept (platforms_gateEdit e))

end State

/-- Work that lets no deadline come to stand behind line time. -/
structure Timely (on : Work → Prop) : Prop where
  smooth  : ¬ on .rough
  ring    : ¬ on .passage
  command : ¬ on .command

/-- A pending deadline was pending before the edit, or lies ahead (R10). -/
theorem Edit.timer {on : Work → Prop} {s t : State} (e : Edit on s t) (w : Timely on) (r : s.Ready) (h : s.Configured) {c : Timer} {d : Nat}
    (stands : c.Stands t d) : (∃ b, c.From on b ∧ b.Stands s d) ∨ 0 < diff s.lineTime d := by
  have self : c.Stands s d → (∃ b, c.From on b ∧ b.Stands s d) ∨ 0 < diff s.lineTime d := fun k => .inl ⟨c, .inl rfl, k⟩
  cases c with
  | departure i =>
    obtain ⟨y, hy, state, dl⟩ := stands
    obtain ⟨x, hx, change | shut | ⟨same, dep, -, -⟩⟩ := State.deadlines_edit e w.smooth r hy
    · rcases change.departure d state dl with old | ahead | passage
      · exact self ⟨x, hx, old⟩
      · exact .inr ahead
      · exact absurd passage w.ring
    · rw [state] at shut; rcases shut with e | e | e <;> cases e
    · exact self ⟨x, hx, same ▸ state, dep ▸ dl⟩
  | overdue i =>
    obtain ⟨y, hy, state, dl⟩ := stands
    obtain ⟨x, hx, change | shut | ⟨same, -, late, -⟩⟩ := State.deadlines_edit e w.smooth r hy
    · exact self ⟨x, hx, (change.overdue d state dl).resolve_right w.ring⟩
    · rw [state] at shut; rcases shut with e | e | e <;> cases e
    · exact self ⟨x, hx, same ▸ state, late ▸ dl⟩
  | approach i =>
    obtain ⟨y, hy, state, dl⟩ := stands
    obtain ⟨x, hx, change | shut | ⟨same, -, -, near⟩⟩ := State.deadlines_edit e w.smooth r hy
    · exact self ⟨x, hx, (change.approach d state dl).resolve_right w.ring⟩
    · rcases shut with e | e | e <;> rw [e] at state <;> cases state
    · exact self ⟨x, hx, same ▸ state, near ▸ dl⟩
  | wait k w' =>
    obtain ⟨e', he, own, dl⟩ := stands
    rcases State.wait_edit e r h he dl with ⟨g, rfl | supply, mem⟩ | ahead
    · exact self ⟨e', mem, own, dl⟩
    · exact .inl ⟨.wait g w', .inr ⟨supply, k, g, w', rfl, rfl⟩, e', mem, own, dl⟩
    · exact .inr ahead
  | lease k w' =>
    obtain ⟨l, hl, own, rfl⟩ := stands
    exact (State.lease_edit e r h hl).elim (fun mem => self ⟨l, mem, own, rfl⟩) .inr
  | operation i =>
    obtain ⟨op, hop⟩ := stands
    exact (State.operation_edit e hop).elim (fun old => self ⟨op, old⟩) .inr
  | escalation i =>
    obtain ⟨c, hc, state, dl⟩ := stands
    exact (State.escalation_edit e r w.command hc state dl).elim self .inr
  | rest i =>
    obtain ⟨a, ha, state, dl⟩ := stands
    exact self (State.rest_edit e r w.command ha state dl)
  | player p => exact (State.player_edit e stands).elim self .inr

/-- A pending deadline was pending before the work, or lies ahead. -/
theorem Run.timer {on : Work → Prop} {s t : State} (run : Run on s t) (w : Timely on) (r : s.Ready) (h : s.Configured) {c : Timer} {d : Nat}
    (stands : c.Stands t d) : (∃ b, c.From on b ∧ b.Stands s d) ∨ 0 < diff s.lineTime d := by
  induction run generalizing c with
  | refl => exact .inl ⟨c, .inl rfl, stands⟩
  | tail before e ih =>
    have before : Run on s _ := before
    rcases e.timer w (before.ready w.smooth r) (before.configured w.smooth r h) stands with ⟨b, from_, old⟩ | ahead
    · exact (ih old).imp_left fun ⟨a, from', first⟩ => ⟨a, from_.trans from', first⟩
    · exact .inr (before.steady.lineTime ▸ ahead)

end Sys2Proof.Machine

/-! Each expiry leaves its own timer without a deadline that line time has reached (R10). -/

namespace Sys2Proof.Machine
open Sys2Proof

/-- The work of the expiries: sections move with the operations alone, and incidents rise with the escalations alone. -/
def timeWork (moving : Prop) (rising : Nat → Prop) : Work → Prop
  | .serve | .withdraw | .ends | .trains => True
  | .supply | .part _ => moving
  | .escalate i => rising i
  | _ => False

theorem timely_timeWork (moving : Prop) (rising : Nat → Prop) : Timely (timeWork moving rising) := ⟨id, id, id⟩

/-- No deadline that `hit` accepts is pending at a timer. -/
def Clear (hit : Nat → Prop) (c : Timer) (s : State) : Prop := ∀ d, c.Stands s d → ¬ hit d

/-- A part in which deadlines run: it is ready with its tables passed by START, at the line time `now`. -/
structure Timed (now : Nat) (s : State) : Prop where
  ready      : s.Ready
  configured : s.Configured
  time       : s.lineTime = now

theorem Timed.run {now : Nat} {on : Work → Prop} {s t : State} (h : Timed now s) (w : Timely on) (r : Run on s t) : Timed now t :=
  ⟨r.ready w.smooth h.ready, r.configured w.smooth h.ready h.configured, r.steady.lineTime.trans h.time⟩

section
variable {now : Nat} {hit : Nat → Prop} (behind : ∀ d, hit d → ¬ 0 < diff now d)
include behind

/-- Work that moves no requests leaves a timer clear. -/
theorem Clear.run {on : Work → Prop} {c : Timer} {s t : State} (h : Clear hit c s) (T : Timed now s) (w : Timely on)
    (still : ¬ on .supply ∨ ∀ k g, c ≠ .wait k g) (r : Run on s t) : Clear hit c t := fun d stands reached => by
  rcases r.timer w T.ready T.configured stands with ⟨b, rfl | ⟨supply, k, g, g', same, -⟩, old⟩ | ahead
  · exact h d old reached
  · exact still.elim (fun no => no supply) fun no => no k g' same
  · exact behind d reached (T.time ▸ ahead)

namespace State

/-- An event that leaves a timer clear ends so. -/
theorem clear_expire {s e : State} {isDue : Bool} {c : Timer} (T : Timed now s)
    (work : isDue = true → Timed now e ∧ Clear hit c e) (idle : isDue = false → Clear hit c s) : Clear hit c (s.expire isDue e) := by
  cases isDue with
  | false => rw [expire_idle (.inr rfl)]; exact idle rfl
  | true =>
    obtain ⟨timed, clear⟩ := work rfl
    have taken : s.expire true e = endEvent s e := if_pos (by rw [T.ready.2]; rfl)
    rw [taken]
    exact clear.run behind timed (timely_timeWork False fun _ => False) (.inl id)
      (does_endEvent (on := timeWork False fun _ => False) trivial trivial trivial s e (.inr timed.ready))

end State

end

namespace State

theorem Ready.modTrain {s : State} (r : s.Ready) (i : Nat) {f : Train → Train}
    (place : ∀ x, (f x).origin = x.origin ∧ (f x).position = x.position) : (s.modTrain i f).Ready :=
  ⟨sound_modTrain r.1 i f fun x hx => by
    obtain ⟨origin, position⟩ := place x
    have within := r.1.within hx
    unfold Train.Within at within ⊢
    rwa [origin, position], r.2⟩

end State

theorem Timed.modTrain {now : Nat} {s : State} (T : Timed now s) (i : Nat) {f : Train → Train}
    (place : ∀ x, (f x).origin = x.origin ∧ (f x).position = x.position) : Timed now (s.modTrain i f) where
  ready := T.ready.modTrain i place
  configured := by
    refine ⟨T.configured.checked, T.configured.empty, T.configured.patterns, fun j y hy => ?_⟩
    by_cases hj : i = j
    · subst hj
      rw [State.train?_modTrain_self] at hy
      obtain ⟨x, hx, rfl⟩ := Option.map_eq_some_iff.mp hy
      rw [(place x).1, (place x).2]
      exact T.configured.trains i x hx
    · exact T.configured.trains j y ((State.train?_modTrain_ne s _ hj).symm.trans hy)
  time := T.time

namespace State

/-! ### Trains -/

/-- A permit request sets no departure deadline (R107). -/
theorem depDl_requestPermit {s : State} {i : Nat} {x : Train} (hx : s.train? i = some x) :
    ∃ y, (s.requestPermit i).train? i = some y ∧ y.depDl = x.depDl := by
  cases hk : s.supplier (s.runSectionOf x) with
  | none => rw [requestPermit_none fun y hy => by cases hx.symm.trans hy; exact hk]; exact ⟨x, hx, rfl⟩
  | some k =>
    have asked := train?_modTrain_of hx fun x => { x with permitReq := some s.lineTime }
    rw [requestPermit_eq hx hk]
    dsimp only
    split
    · have granted := (train_of_modTrain (pool_grant _ k ((s.modTrain i fun x => { x with permitReq := some s.lineTime }).handle i)
        (s.requestWeight (s.runSectionOf x) k)) asked).2
      refine ⟨_, granted, ?_⟩
      split <;> rfl
    · exact ⟨_, train?_modTrain_of asked fun x => { x with state := .waiting }, rfl⟩

/-- The schedule check leaves no departure deadline (R77). -/
theorem depDl_scheduleCheck (s : State) (i : Nat) : ∀ y, (s.scheduleCheck i).train? i = some y → y.depDl = none := by
  intro y hy
  unfold scheduleCheck scheduleCheckUnder at hy
  split at hy
  · next none => rw [none] at hy; cases hy
  · next x hx =>
    dsimp only at hy
    split at hy
    · obtain ⟨z, hz, dl⟩ := depDl_requestPermit (train?_modTrain_of hx fun t => { t with holds := s.gathered s.held x, depDl := none })
      cases hy.symm.trans hz
      exact dl
    · have held := train?_modTrain_of hx fun t => { t with holds := s.gathered s.held x, depDl := none, state := .held }
      split at hy
      · rw [train?_issueForTrain] at hy
        cases hy.symm.trans held; rfl
      · cases hy.symm.trans held; rfl

/-- A timer of a train that is not due is clear. -/
theorem trainDue_eq_false {s : State} {due : Reach} {i : Nat} {inState : TrainState → Bool} {dl : Train → Option Nat}
    (h : s.trainDue due i inState dl = false) {x : Train} (hx : s.train? i = some x) (state : inState x.state = true) {d : Nat}
    (hd : dl x = some d) : due d = false := by
  unfold trainDue at h
  rw [hx] at h
  dsimp only at h
  rw [state, hd] at h
  simpa using h

section
variable {now : Nat} {hit : Nat → Prop} (behind : ∀ d, hit d → ¬ 0 < diff now d) {due : Reach} (all : ∀ d, hit d → due d = true)
include behind all

theorem clear_takeDeparture {s : State} (T : Timed now s) (i : Nat) : Clear hit (.departure i) (s.takeDeparture due i) := by
  refine clear_expire behind T (fun isDue => ⟨?_, fun d ⟨y, hy, _, dl⟩ => ?_⟩) fun idle d ⟨x, hx, state, dl⟩ reached => ?_
  · obtain ⟨x, -, hx, state, -⟩ := trainDue_eq_true isDue
    have dwelling : x.state = .dwelling := of_decide_eq_true state
    exact T.run (timely_timeWork False fun _ => False)
      (does_scheduleCheckUnder _ s (.inr ⟨x, hx, by rw [dwelling]; decide, .inl trivial⟩) (.inr T.ready))
  · rw [depDl_scheduleCheck s i y hy] at dl; cases dl
  · exact absurd (all d reached) (by rw [trainDue_eq_false idle hx (by rw [state]; rfl) dl]; decide)

theorem clear_takeOverdue {s : State} (T : Timed now s) (i : Nat) : Clear hit (.overdue i) (s.takeOverdue due i) := by
  have gone : Timed now (s.modTrain i fun t => { t with state := .overdue, overdueDl := none }) := T.modTrain i fun _ => ⟨rfl, rfl⟩
  have raise : Run (timeWork False fun _ => False) _ (s.goOverdue i) := does_autoRaise trivial trivial _ _ _ _ (.inr gone.ready)
  refine clear_expire behind T (fun _ => ⟨gone.run (timely_timeWork _ _) raise, ?_⟩) fun idle d ⟨x, hx, state, dl⟩ reached => ?_
  · refine Clear.run behind (fun d ⟨y, hy, state, _⟩ => ?_) gone (timely_timeWork _ _) (.inl id) raise
    rw [train?_modTrain_self] at hy
    obtain ⟨x, -, rfl⟩ := Option.map_eq_some_iff.mp hy
    cases state
  · exact absurd (all d reached) (by rw [trainDue_eq_false idle hx (by rw [state]; rfl) dl]; decide)

theorem clear_takeApproach {s : State} (T : Timed now s) (i : Nat) : Clear hit (.approach i) (s.takeApproach due i) := by
  refine clear_expire behind T (fun isDue => ?_) fun idle d ⟨x, hx, state, dl⟩ reached => ?_
  · obtain ⟨x, -, hx, -, -⟩ := trainDue_eq_true isDue
    have off : Timed now (s.modTrain i fun t => { t with approachDl := none }) := T.modTrain i fun _ => ⟨rfl, rfl⟩
    have clear : Clear hit (.approach i) (s.modTrain i fun t => { t with approachDl := none }) := fun d ⟨y, hy, _, dl⟩ => by
      cases hy.symm.trans (train?_modTrain_of hx _)
      cases dl
    unfold approachNow
    rw [hx]
    dsimp only
    unfold announceApproach
    rw [hx]
    dsimp only
    split
    · next room =>
      have made : Run (timeWork False fun _ => False) _ _ := Does.trans (does_createAnn (s.modTrain i fun t => { t with approachDl := none })
        (a := { platform := s.next (placeOf x), message := (s.platformCfg (s.next (placeOf x))).approachCode, priority := 1,
                origin := .approach, train := some (s.handle i),
                minutes := some (minutesUp (diff s.lineTime (x.predicted.getD s.lineTime))) })
        (Bool.and_eq_true_iff.mp room).2 (.inr (T.ready.next_lt _)) rfl)
        (does_modTrain trivial _ i (fun t => { t with approached := true }) (fun _ => ⟨rfl, rfl, rfl, rfl, rfl⟩) (fun _ => rfl)
          (fun _ => .inl rfl) (fun _ => .inl rfl) fun _ => .inl rfl) (.inr off.ready)
      exact ⟨off.run (timely_timeWork _ _) made, clear.run behind off (timely_timeWork _ _) (.inl id) made⟩
    · exact ⟨off, clear⟩
  · exact absurd (all d reached) (by rw [trainDue_eq_false idle hx state dl]; decide)

/-! ### Queue entries and leases -/

theorem clear_takeWait {s : State} (T : Timed now s) (k : Nat) (h : Handle) : Clear hit (.wait k h) (s.takeWait due k h) := by
  have edit : Edit (timeWork False fun _ => False) s (s.waitGone k h) := .gate (.waitGone k h)
  have gone : Timed now (s.waitGone k h) := T.run (timely_timeWork _ _) (Relation.ReflTransGen.single edit)
  have raise : Run (timeWork False fun _ => False) (s.waitGone k h) (s.waitExpired k h) :=
    does_autoRaise trivial trivial _ _ _ _ (.inr gone.ready)
  refine clear_expire behind T (fun _ => ⟨gone.run (timely_timeWork _ _) raise, ?_⟩) fun idle d ⟨e, he, own, dl⟩ reached => ?_
  · refine Clear.run behind (fun d ⟨e, he, own, dl⟩ => ?_) gone (timely_timeWork _ _) (.inl id) raise
    rw [queue_waitGone, if_pos rfl] at he
    obtain ⟨e₀, -, rfl⟩ := List.mem_map.mp he
    split at dl
    · cases dl
    · next other => rw [if_neg other] at own; exact absurd own other
  · have due_ : s.waitDue due k h = true := List.any_eq_true.mpr ⟨e, he, by simp [own, dl, all d reached]⟩
    rw [idle] at due_; cases due_

theorem clear_takeLease {s : State} (T : Timed now s) (k : Nat) (h : Handle) : Clear hit (.lease k h) (s.takeLease due k h) := by
  have edit : Edit (timeWork False fun _ => False) s (s.dropLease k h) := .gate (.dropLease k h trivial)
  have gone : Timed now (s.dropLease k h) := T.run (timely_timeWork _ _) (Relation.ReflTransGen.single edit)
  have served : Run (timeWork False fun _ => False) (s.dropLease k h) (s.leaseExpired k h) :=
    does_serveChanged trivial _ _ (.inr gone.ready)
  refine clear_expire behind T (fun _ => ⟨gone.run (timely_timeWork _ _) served, ?_⟩) fun idle d ⟨l, hl, own, expiry⟩ reached => ?_
  · refine Clear.run behind (fun d ⟨l, hl, own, _⟩ => ?_) gone (timely_timeWork _ _) (.inl id) served
    rw [leases_dropLease, if_pos rfl] at hl
    have other := (List.mem_filter.mp hl).2
    simp [own] at other
  · have due_ : s.leaseDue due k h = true := List.any_eq_true.mpr ⟨l, hl, by simp [own, expiry, all d reached]⟩
    rw [idle] at due_; cases due_

/-! ### Breaker operations -/

omit behind all in
/-- What follows the removal of an operation that has run out of time (R92). -/
theorem does_expired {on : Work → Prop} (serve : on .serve) (withdraw : on .withdraw) (ends : on .ends) (supply : on .supply)
    (may : ∀ p ∈ faultParts, on (.part p)) (tr : on .trains) (s : State) (i : Nat) :
    Does on (s.modSect i fun x => { x with op := none }) (s.expireOperation i) := by
  have abandoned : Does on (s.modSect i fun x => { x with op := none }) (s.abandonOperation i) := by
    unfold abandonOperation
    dsimp only
    split
    · exact does_modSect faultParts may _ i _ fun _ => .inl rfl
    · exact does_modSect faultParts may _ i _ fun _ => .inl rfl
    · exact does_relapse may _ i
    all_goals exact .refl _
  unfold expireOperation
  refine .trans (.trans (.trans (abandoned.trans (does_addFault may tr _ i 8)) (does_supplyWork serve withdraw supply s _))
    (does_thenIncidents withdraw s _ fun t => ?_)) (does_latchWarning _ _ i)
  exact (does_judgeLockout serve withdraw ends t _ i).trans (does_autoRaise serve withdraw _ _ _ _)

theorem clear_takeOperation {s : State} (T : Timed now s) (i : Nat) : Clear hit (.operation i) (s.takeOperation due i) := by
  have edit : Does (timeWork True fun _ => False) s (s.modSect i fun x => { x with op := none }) :=
    does_modSect faultParts (fun _ _ => trivial) s i _ fun _ => .inr rfl
  have gone := T.run (timely_timeWork _ _) (edit (.inr T.ready))
  have expired : Run (timeWork True fun _ => False) _ (s.expireOperation i) :=
    does_expired trivial trivial trivial trivial (fun _ _ => trivial) trivial s i (.inr gone.ready)
  refine clear_expire behind T (fun _ => ⟨gone.run (timely_timeWork _ _) expired, ?_⟩) fun idle d ⟨op, hop⟩ reached => ?_
  · refine Clear.run behind (fun d ⟨op, hop⟩ => ?_) gone (timely_timeWork _ _) (.inr fun _ _ => Timer.noConfusion) expired
    rw [sect_modSect] at hop
    split at hop
    · cases hop
    · next beyond =>
      have none : s.sect i = {} := by
        exact sect_beyond (by by_contra lt; exact beyond ⟨rfl, by omega⟩)
      rw [none] at hop; cases hop
  · have due_ : s.operationDue due i = true := by rw [operationDue, hop]; exact all d reached
    rw [idle] at due_; cases due_

/-! ### Incidents, announcements and players -/

theorem clear_takeEscalation {s : State} (T : Timed now s) (i : Nat) : Clear hit (.escalation i) (s.takeEscalation due i) := by
  refine clear_expire behind T (fun isDue => ⟨?_, fun d ⟨c, hc, raised, dl⟩ reached => ?_⟩) fun idle d ⟨c, hc, raised, dl⟩ reached => ?_
  · refine T.run (timely_timeWork False (· = i)) (does_changeSeverity s i _ (.inr ?_) (.inl rfl) (.inr T.ready))
    unfold escalationDue at isDue
    split at isDue
    · next hc => rw [hc]; rfl
    · cases isDue
  · unfold escalate at hc
    rw [incident?_changeSeverity, if_pos rfl] at hc
    obtain ⟨b, -, rfl⟩ := Option.map_eq_some_iff.mp hc
    rw [Incident.risen] at dl
    dsimp only at dl
    rw [if_pos (show b.state = .raised from raised)] at dl
    exact behind d reached (T.time ▸ escalation_ahead dl)
  · have due_ : s.escalationDue due i = true := by
      rw [escalationDue, hc]
      simp [raised, dl, all d reached]
    rw [idle] at due_; cases due_

theorem clear_takeRest {s : State} (T : Timed now s) (i : Nat) : Clear hit (.rest i) (s.takeRest due i) := by
  refine clear_expire behind T (fun _ => ⟨T.run (timely_timeWork False fun _ => False) (s.does_endRest i (.inr T.ready)), ?_⟩)
    fun idle d ⟨a, ha, resting, dl⟩ reached => ?_
  · unfold endRest
    split
    · next none => exact fun d ⟨a, ha, _⟩ => by rw [none] at ha; cases ha
    · next a live =>
      have back : Edit (timeWork False fun _ => False) s (((s.modAnn i fun b => { b with state := .queued, restDl := none }).unlinkAnn
        a.platform i).linkAnn a.platform i) := .record (.requeueAnn i a live)
      have timed := T.run (timely_timeWork _ _) (Relation.ReflTransGen.single back)
      have clear : Clear hit (.rest i) (((s.modAnn i fun b => { b with state := .queued, restDl := none }).unlinkAnn
          a.platform i).linkAnn a.platform i) := fun d ⟨b, hb, resting, _⟩ => by
        cases hb.symm.trans (ann?_modAnn_of live fun b => { b with state := .queued, restDl := none })
        cases resting
      dsimp only
      split
      · exact clear.run behind timed (timely_timeWork False fun _ => False) (.inl id)
          (does_preempt _ (.inr (T.ready.1.placed.anns i a live)) (.inr timed.ready))
      · exact clear
  · have due_ : s.restDue due i = true := by
      rw [restDue, ha]
      simp [resting, dl, all d reached]
    rw [idle] at due_; cases due_

omit behind all in
/-- A player left without a deadline is clear. -/
theorem clear_quietPlayer (s : State) (p : Nat) (x : PlayerState) : Clear hit (.player p) (s.quietPlayer p x) := by
  intro d ⟨state, dl⟩
  unfold quietPlayer at state dl
  rw [platform_modPlatform] at state dl
  split at dl
  · cases dl
  · next beyond =>
    have none : s.platform p = {} := by
      exact platform_beyond (by by_contra lt; exact beyond ⟨rfl, by omega⟩)
    rw [none] at dl; cases dl

theorem clear_takePlayer {s : State} (T : Timed now s) {p : Nat} (hp : p < Config.platformEntries) :
    Clear hit (.player p) ((s.takeStart due p).takeStop due p) := by
  have start : Run (timeWork False fun _ => False) s (s.takeStart due p) := does_takeStart trivial trivial trivial due s p (.inr T.ready)
  have timed := T.run (timely_timeWork _ _) start
  have stopped : Run (timeWork False fun _ => False) (s.takeStart due p) ((s.takeStart due p).stopLost p) :=
    Does.trans (does_quietPlayer _ p .offline) (does_latch _ _) (.inr timed.ready)
  have lost : Run (timeWork False fun _ => False) s (s.playerLost p) := s.does_playerLost (.inr hp) (.inr T.ready)
  have dueAt : ∀ (u : State) (x : PlayerState) (d : Nat), (u.platform p).player = x → (u.platform p).playerDl = some d → hit d →
      u.playerDue due p x = true := fun u x d state dl reached => by
    rw [playerDue, dl]
    simp [state, all d reached]
  refine clear_expire behind timed (fun _ => ⟨timed.run (timely_timeWork _ _) stopped, clear_quietPlayer _ p .offline⟩)
    fun idle d ⟨state, dl⟩ reached => ?_
  rcases state with cued | stopping
  · cases isDue : s.playerDue due p .cued with
    | true =>
      have clear := clear_expire (isDue := true) (e := s.playerLost p) (c := .player p) behind T
        (fun _ => ⟨T.run (timely_timeWork _ _) lost, clear_quietPlayer _ p .offline⟩) fun h => (nomatch h)
      rw [takeStart, isDue] at cued dl
      exact clear d ⟨.inl cued, dl⟩ reached
    | false =>
      rw [takeStart, isDue, expire_idle (.inr rfl)] at cued dl
      rw [dueAt s .cued d cued dl reached] at isDue
      cases isDue
  · rw [dueAt _ .stopping d stopping dl reached] at idle
    cases idle

end

end State

end Sys2Proof.Machine

/-! Line time leaves no deadline behind (R10, R12). -/

namespace Sys2Proof.Machine
open Sys2Proof

/-- The place of a timer in the order in which deadlines are taken (log 11). -/
def Timer.turn : Timer → Nat
  | .departure _ | .overdue _ | .approach _ => 0
  | .wait .. => 1
  | .lease .. => 2
  | .operation _ => 3
  | .escalation _ => 4
  | .rest _ => 5
  | .player _ => 6

theorem Timer.From.turn {on : Work → Prop} {c b : Timer} (h : c.From on b) : b.turn = c.turn := by
  rcases h with rfl | ⟨-, k, g, w, rfl, rfl⟩ <;> rfl

/-- The timers of the first `n` turns are clear. -/
def Taken (hit : Nat → Prop) (n : Nat) (s : State) : Prop := ∀ c : Timer, c.turn < n → Clear hit c s

/-- The work of one turn from a timed part: `n` is its number. -/
structure Turn (hit : Nat → Prop) (on : Work → Prop) (n : Nat) (s t : State) : Prop where
  run   : Run on s t
  clear : ∀ c : Timer, c.turn = n → Clear hit c t

section
variable {now : Nat} {hit : Nat → Prop} (behind : ∀ d, hit d → ¬ 0 < diff now d)
include behind

/-- A turn that is taken stays so, even as requests move. -/
theorem Taken.run {on : Work → Prop} {n : Nat} {s t : State} (h : Taken hit n s) (T : Timed now s) (w : Timely on) (r : Run on s t) :
    Taken hit n t := fun c hc d stands reached => by
  rcases r.timer w T.ready T.configured stands with ⟨b, from_, old⟩ | ahead
  · exact h b (from_.turn.symm ▸ hc) d old reached
  · exact behind d reached (T.time ▸ ahead)

theorem Turn.taken {on : Work → Prop} {n : Nat} {s t : State} (turn : Turn hit on n s t) (T : Timed now s) (w : Timely on)
    (h : Taken hit n s) : Taken hit (n + 1) t := fun c hc => by
  rcases Nat.lt_succ_iff_lt_or_eq.mp hc with earlier | this_
  · exact h.run behind T w turn.run c earlier
  · exact turn.clear c this_

/-- A timer at which nothing was pending but what the work has taken is clear. -/
theorem clear_of_covered {on : Work → Prop} {s t : State} {c : Timer} (T : Timed now s) (w : Timely on)
    (still : ¬ on .supply ∨ ∀ k g, c ≠ .wait k g) (r : Run on s t) (covered : ∀ d, c.Stands s d → Clear hit c t) : Clear hit c t :=
  fun d stands reached => by
    rcases r.timer w T.ready T.configured stands with ⟨b, rfl | ⟨supply, k, g, g', same, -⟩, old⟩ | ahead
    · exact covered d old d stands reached
    · exact still.elim (fun no => no supply) fun no => no k g' same
    · exact behind d reached (T.time ▸ ahead)

/-- Deadlines taken item by item leave the timers of each item clear. -/
theorem foldl_clears {α : Type} {f : State → α → State} {on : Work → Prop} (w : Timely on) {keys : α → Timer → Prop}
    (still : ¬ on .supply ∨ ∀ x k g, ¬ keys x (.wait k g)) :
    ∀ (l : List α) (s : State), Timed now s → (∀ t, ∀ x ∈ l, Timed now t → Run on t (f t x)) →
      (∀ t, ∀ x ∈ l, Timed now t → ∀ c, keys x c → Clear hit c (f t x)) →
      Run on s (l.foldl f s) ∧ ∀ x ∈ l, ∀ c, keys x c → Clear hit c (l.foldl f s)
  | [], s, _, _, _ => ⟨.refl s, fun _ h => (nomatch h)⟩
  | x :: xs, s, T, run, clear => by
    have first := run s x (List.mem_cons_self ..) T
    have timed := T.run w first
    obtain ⟨rest, cleared⟩ := foldl_clears w still xs (f s x) timed (fun t y hy => run t y (List.mem_cons_of_mem _ hy))
      fun t y hy => clear t y (List.mem_cons_of_mem _ hy)
    refine ⟨first.trans rest, fun y hy c key => ?_⟩
    rcases List.mem_cons.mp hy with rfl | later
    · exact (clear s y (List.mem_cons_self ..) T c key).run behind timed w
        (still.imp_right fun no k g same => no y k g (same ▸ key)) rest
    · exact cleared y later c key

namespace State

variable {due : Reach} (all : ∀ d, hit d → due d = true)
include all

/-! ### Turn by turn -/

theorem turn_dueTrains {s : State} (T : Timed now s) : Turn hit (timeWork False fun _ => False) 0 s (s.dueTrains due) := by
  have w := timely_timeWork False fun _ => False
  have departs : ∀ t : State, Timed now t → ∀ i, Run (timeWork False fun _ => False) t (t.takeDeparture due i) := fun t T i =>
    does_takeDeparture trivial trivial trivial trivial due t i (.inr T.ready)
  have late : ∀ t : State, Timed now t → ∀ i, Run (timeWork False fun _ => False) t (t.takeOverdue due i) := fun t T i =>
    does_takeOverdue trivial trivial trivial trivial due t i (.inr T.ready)
  have near : ∀ t : State, Timed now t → ∀ i, Run (timeWork False fun _ => False) t (t.takeApproach due i) := fun t T i =>
    does_takeApproach trivial trivial trivial trivial due t i (.inr T.ready)
  obtain ⟨run, cleared⟩ := foldl_clears behind (f := fun (t : State) i => ((t.takeDeparture due i).takeOverdue due i).takeApproach due i) w
    (keys := fun i c => c = .departure i ∨ c = .overdue i ∨ c = .approach i) (.inl id) s.pool.trains s T
    (fun t i _ T => by
      have one := T.run w (departs t T i)
      exact ((departs t T i).trans (late _ one i)).trans (near _ (one.run w (late _ one i)) i))
    (fun t i _ T c key => by
      have one := T.run w (departs t T i)
      have two := one.run w (late _ one i)
      rcases key with rfl | rfl | rfl
      · exact ((clear_takeDeparture behind all T i).run behind one w (.inl id) (late _ one i)).run behind two w (.inl id) (near _ two i)
      · exact (clear_takeOverdue behind all one i).run behind two w (.inl id) (near _ two i)
      · exact clear_takeApproach behind all two i)
  have listed : ∀ {i : Nat} {x : Train}, s.train? i = some x → i ∈ s.pool.trains := fun hx =>
    (T.ready.1.pooled.trains _).mpr (by rw [hx]; rfl)
  refine ⟨run, fun c turn => clear_of_covered behind T w (.inl id) run fun d stands => ?_⟩
  cases c with
  | departure i => obtain ⟨x, hx, -⟩ := stands; exact cleared i (listed hx) _ (.inl rfl)
  | overdue i => obtain ⟨x, hx, -⟩ := stands; exact cleared i (listed hx) _ (.inr (.inl rfl))
  | approach i => obtain ⟨x, hx, -⟩ := stands; exact cleared i (listed hx) _ (.inr (.inr rfl))
  | _ => cases turn

omit behind all in
/-- A substation with an entry or a lease is one of the twelve. -/
theorem substation_listed {s : State} (r : s.Ready) {k : Nat} (h : s.substation k ≠ {}) : k ∈ substationIndices := by
  refine List.mem_range.mpr (Nat.lt_of_not_le fun beyond => h ?_)
  exact substation_beyond (r.1.sized.2.2.2.2.1.symm ▸ beyond)

theorem turn_dueWaits {s : State} (T : Timed now s) : Turn hit (timeWork False fun _ => False) 1 s (s.dueWaits due) := by
  have w := timely_timeWork False fun _ => False
  have one : ∀ (t : State) (k : Nat), Timed now t → Run (timeWork False fun _ => False) t
      ((t.substation k).queue.foldl (fun u e => u.takeWait due k e.train) t) ∧
      ∀ h, Clear hit (.wait k h) ((t.substation k).queue.foldl (fun u e => u.takeWait due k e.train) t) := fun t k T => by
    obtain ⟨run, cleared⟩ := foldl_clears behind (f := fun (u : State) (e : Entry) => u.takeWait due k e.train) w
      (keys := fun e c => c = .wait k e.train) (.inl id) (t.substation k).queue t T
      (fun u e _ T => does_takeWait trivial trivial trivial due u k e.train (.inr T.ready))
      (fun u e _ T c key => key ▸ clear_takeWait behind all T k e.train)
    refine ⟨run, fun h => clear_of_covered behind T w (.inl id) run fun d ⟨e, he, own, _⟩ => ?_⟩
    exact own ▸ cleared e he _ rfl
  obtain ⟨run, cleared⟩ := foldl_clears behind (f := fun (t : State) k => (t.substation k).queue.foldl (fun u e => u.takeWait due k e.train) t)
    w (keys := fun k c => ∃ h, c = .wait k h) (.inl id) substationIndices s T (fun t k _ T => (one t k T).1)
    (fun t k _ T c ⟨h, key⟩ => key ▸ (one t k T).2 h)
  refine ⟨run, fun c turn => clear_of_covered behind T w (.inl id) run fun d stands => ?_⟩
  cases c with
  | wait k h =>
    obtain ⟨e, he, -⟩ := stands
    exact cleared k (substation_listed T.ready fun none => by rw [none] at he; cases he) _ ⟨h, rfl⟩
  | _ => cases turn

theorem turn_dueLeases {s : State} (T : Timed now s) : Turn hit (timeWork False fun _ => False) 2 s (s.dueLeases due) := by
  have w := timely_timeWork False fun _ => False
  have one : ∀ (t : State) (k : Nat), Timed now t → Run (timeWork False fun _ => False) t
      ((t.substation k).leases.foldl (fun u l => u.takeLease due k l.train) t) ∧
      ∀ h, Clear hit (.lease k h) ((t.substation k).leases.foldl (fun u l => u.takeLease due k l.train) t) := fun t k T => by
    obtain ⟨run, cleared⟩ := foldl_clears behind (f := fun (u : State) (l : Lease) => u.takeLease due k l.train) w
      (keys := fun l c => c = .lease k l.train) (.inl id) (t.substation k).leases t T
      (fun u l _ T => does_takeLease trivial trivial trivial trivial due u k l.train (.inr T.ready))
      (fun u l _ T c key => key ▸ clear_takeLease behind all T k l.train)
    refine ⟨run, fun h => clear_of_covered behind T w (.inl id) run fun d ⟨l, hl, own, _⟩ => ?_⟩
    exact own ▸ cleared l hl _ rfl
  obtain ⟨run, cleared⟩ := foldl_clears behind (f := fun (t : State) k => (t.substation k).leases.foldl (fun u l => u.takeLease due k l.train) t)
    w (keys := fun k c => ∃ h, c = .lease k h) (.inl id) substationIndices s T (fun t k _ T => (one t k T).1)
    (fun t k _ T c ⟨h, key⟩ => key ▸ (one t k T).2 h)
  refine ⟨run, fun c turn => clear_of_covered behind T w (.inl id) run fun d stands => ?_⟩
  cases c with
  | lease k h =>
    obtain ⟨l, hl, -⟩ := stands
    exact cleared k (substation_listed T.ready fun none => by rw [none] at hl; cases hl) _ ⟨h, rfl⟩
  | _ => cases turn

theorem turn_dueOperations {s : State} (T : Timed now s) : Turn hit (timeWork True fun _ => False) 3 s (s.dueOperations due) := by
  have w := timely_timeWork True fun _ => False
  obtain ⟨run, cleared⟩ := foldl_clears behind (f := takeOperation due) w (keys := fun i c => c = .operation i)
    (.inr fun _ _ _ => Timer.noConfusion) (List.range Config.sectionEntries) s T
    (fun t i _ T => does_takeOperation trivial trivial trivial trivial (fun _ _ => trivial) trivial due t i (.inr T.ready))
    (fun t i _ T c key => key ▸ clear_takeOperation behind all T i)
  refine ⟨run, fun c turn => clear_of_covered behind T w (.inr fun k g same => by subst same; cases turn) run fun d stands => ?_⟩
  cases c with
  | operation i =>
    obtain ⟨op, hop⟩ := stands
    refine cleared i (List.mem_range.mpr (Nat.lt_of_not_le fun beyond => ?_)) _ rfl
    have none : s.sect i = {} := by
      exact sect_beyond (T.ready.1.sized.2.2.2.1.symm ▸ beyond)
    rw [none] at hop; cases hop
  | _ => cases turn

theorem turn_dueEscalations {s : State} (T : Timed now s) : Turn hit (timeWork False fun _ => True) 4 s (s.dueEscalations due) := by
  have w := timely_timeWork False fun _ => True
  obtain ⟨run, cleared⟩ := foldl_clears behind (f := takeEscalation due) w (keys := fun i c => c = .escalation i) (.inl id)
    s.pool.incidents s T (fun t i _ T => does_takeEscalation trivial trivial trivial due t i trivial (.inr T.ready))
    (fun t i _ T c key => key ▸ clear_takeEscalation behind all T i)
  refine ⟨run, fun c turn => clear_of_covered behind T w (.inl id) run fun d stands => ?_⟩
  cases c with
  | escalation i =>
    obtain ⟨c, hc, -⟩ := stands
    exact cleared i ((T.ready.1.pooled.incidents i).mpr (by rw [hc]; rfl)) _ rfl
  | _ => cases turn

theorem turn_dueRests {s : State} (T : Timed now s) : Turn hit (timeWork False fun _ => False) 5 s (s.dueRests due) := by
  have w := timely_timeWork False fun _ => False
  obtain ⟨run, cleared⟩ := foldl_clears behind (f := takeRest due) w (keys := fun i c => c = .rest i) (.inl id) s.pool.queues.flatten s T
    (fun t i _ T => does_takeRest trivial trivial trivial due t i (.inr T.ready))
    (fun t i _ T c key => key ▸ clear_takeRest behind all T i)
  refine ⟨run, fun c turn => clear_of_covered behind T w (.inl id) run fun d stands => ?_⟩
  cases c with
  | rest i =>
    obtain ⟨a, ha, -⟩ := stands
    have queued := (T.ready.1.pooled.queues a.platform i).mpr ⟨a, ha, rfl⟩
    refine cleared i (List.mem_flatten.mpr ⟨s.queue a.platform, ?_, queued⟩) _ rfl
    rw [queue, List.getD_eq_getElem?_getD] at queued ⊢
    cases hq : s.pool.queues[a.platform]? with
    | none => rw [hq] at queued; cases queued
    | some q => exact List.mem_of_getElem? hq
  | _ => cases turn

theorem turn_duePlayers {s : State} (T : Timed now s) : Turn hit (timeWork False fun _ => False) 6 s (s.duePlayers due) := by
  have w := timely_timeWork False fun _ => False
  have run_ : ∀ t : State, Timed now t → ∀ p, Run (timeWork False fun _ => False) t ((t.takeStart due p).takeStop due p) := fun t T p => by
    have start : Run (timeWork False fun _ => False) t (t.takeStart due p) := does_takeStart trivial trivial trivial due t p (.inr T.ready)
    exact start.trans (does_takeStop trivial trivial trivial due _ p (.inr (T.run w start).ready))
  obtain ⟨run, cleared⟩ := foldl_clears behind (f := fun (t : State) p => (t.takeStart due p).takeStop due p) w
    (keys := fun p c => c = .player p) (.inl id) (List.range Config.platformEntries) s T (fun t p _ T => run_ t T p)
    (fun t p hp T c key => key ▸ clear_takePlayer behind all T (List.mem_range.mp hp))
  refine ⟨run, fun c turn => clear_of_covered behind T w (.inl id) run fun d stands => ?_⟩
  cases c with
  | player p =>
    obtain ⟨-, dl⟩ := stands
    refine cleared p (List.mem_range.mpr (Nat.lt_of_not_le fun beyond => ?_)) _ rfl
    have none : s.platform p = {} := by
      exact platform_beyond (T.ready.1.sized.2.2.1.symm ▸ beyond)
    rw [none] at dl; cases dl
  | _ => cases turn

/-- The taking of every due deadline leaves none that is reached (R10). -/
theorem taken_takeDue {s : State} (T : Timed now s) : Taken hit 7 (s.takeDue due) := by
  have trains := turn_dueTrains behind all T
  have T1 := T.run (timely_timeWork _ _) trains.run
  have waits := turn_dueWaits behind all T1
  have T2 := T1.run (timely_timeWork _ _) waits.run
  have leases := turn_dueLeases behind all T2
  have T3 := T2.run (timely_timeWork _ _) leases.run
  have operations := turn_dueOperations behind all T3
  have T4 := T3.run (timely_timeWork _ _) operations.run
  have escalations := turn_dueEscalations behind all T4
  have T5 := T4.run (timely_timeWork _ _) escalations.run
  have rests := turn_dueRests behind all T5
  have T6 := T5.run (timely_timeWork _ _) rests.run
  have players := turn_duePlayers behind all T6
  refine players.taken behind T6 (timely_timeWork _ _) (rests.taken behind T5 (timely_timeWork _ _) ?_)
  refine escalations.taken behind T4 (timely_timeWork _ _) (operations.taken behind T3 (timely_timeWork _ _) ?_)
  refine leases.taken behind T2 (timely_timeWork _ _) (waits.taken behind T1 (timely_timeWork _ _) ?_)
  exact trains.taken behind T (timely_timeWork _ _) fun _ h => absurd h (Nat.not_lt_zero _)

end State

end

end Sys2Proof.Machine

/-! The operator incidents as line time passes (R128), and the passage of line time as a whole. -/

namespace Sys2Proof.Machine
open Sys2Proof

/-- A RAISED operator incident in slot `i`, at severity `v` with the escalation deadline `e`. -/
def Unanswered (i v : Nat) (e : Option Nat) (s : State) : Prop :=
  ∃ c, s.incident? i = some c ∧ c.kind = .operator ∧ c.state = .raised ∧ c.severity = v ∧ c.escDl = e

theorem timeWork_sub {moving moving' : Prop} {rising rising' : Nat → Prop} (m : moving → moving') (r : ∀ i, rising i → rising' i) :
    ∀ w, timeWork moving rising w → timeWork moving' rising' w := by
  intro w h
  cases w with
  | supply => exact m h
  | part p => exact m h
  | escalate i => exact r i h
  | _ => exact h

section
variable {i v : Nat} {e : Option Nat}

/-- Work that does not raise it leaves a RAISED operator incident as it is (R128, R136). -/
theorem Run.unanswered {on : Work → Prop} {s t : State} (r : Run on s t) (w : Timely on) (firm : ¬ on (.escalate i)) (ready : s.Ready)
    (h : Unanswered i v e s) : Unanswered i v e t := by
  refine r.keeps_ready w.smooth (fun a b step ra ⟨c, hc, kind, raised, severity, dl⟩ => ?_) ready h
  obtain ⟨d, hd, became⟩ := State.incident_edit step ra w.command hc
  refine ⟨d, hd, ?_⟩
  cases became with
  | same h => subst h; exact ⟨kind, raised, severity, dl⟩
  | change h =>
    obtain ⟨kind', state', severity', dl'⟩ := (h.operator kind).resolve_left w.command
    exact ⟨kind'.trans kind, state'.trans raised, severity'.trans severity, dl'.trans dl⟩
  | severity _ _ may => exact absurd kind ((may.resolve_left firm).resolve_left w.command)

namespace State
variable {now : Nat} {due : Reach} {s : State}

/-- The escalation of other incidents leaves it (R128). -/
theorem unanswered_foldl (l : List Nat) (other : i ∉ l) (T : Timed now s) (h : Unanswered i v e s) :
    Timed now (l.foldl (takeEscalation due) s) ∧ Unanswered i v e (l.foldl (takeEscalation due) s) := by
  induction l generalizing s with
  | nil => exact ⟨T, h⟩
  | cons j l ih =>
    obtain ⟨ne, rest⟩ := List.ne_and_not_mem_of_not_mem_cons other
    have step : Run (timeWork False (· = j)) s (s.takeEscalation due j) :=
      does_takeEscalation trivial trivial trivial due s j rfl (.inr T.ready)
    exact ih rest (T.run (timely_timeWork _ _) step) (step.unanswered (timely_timeWork _ _) ne T.ready h)

/-- Its own escalation, where its deadline is due (R128). -/
theorem unanswered_takeEscalation (T : Timed now s) (h : Unanswered i v e s) : Unanswered i (if e.any due then v + 1 else v)
    (if e.any due then (ackLimit (v + 1)).map fun n => later now n else e) (s.takeEscalation due i) := by
  obtain ⟨c, hc, kind, raised, rfl, rfl⟩ := h
  have isDue : s.escalationDue due i = c.escDl.any due := by
    rw [escalationDue, hc]
    simp [raised]
  unfold takeEscalation
  cases reached : c.escDl.any due with
  | false =>
    rw [isDue, reached, expire_idle (.inr rfl)]
    exact ⟨c, hc, kind, raised, rfl, rfl⟩
  | true =>
    have taken : s.expire true (s.escalate i) = endEvent s (s.escalate i) := if_pos (by rw [T.ready.2]; rfl)
    have rises : Run (timeWork False (· = i)) s (s.escalate i) :=
      does_changeSeverity s i _ (.inr (by rw [hc]; rfl)) (.inl rfl) (.inr T.ready)
    have timed := T.run (timely_timeWork _ _) rises
    have ends : Run (timeWork False fun _ => False) (s.escalate i) (endEvent s (s.escalate i)) :=
      does_endEvent trivial trivial trivial _ _ (.inr timed.ready)
    rw [isDue, reached, taken]
    refine ends.unanswered (timely_timeWork _ _) id timed.ready ⟨c.risen s.lineTime (c.severity + 1), ?_, kind, raised, rfl, ?_⟩
    · rw [escalate, incident?_changeSeverity, if_pos rfl, hc, severityAt, hc]; rfl
    · rw [Incident.risen, T.time]
      exact if_pos raised

/-- The turn of the escalations takes a RAISED operator incident once (R128). -/
theorem unanswered_dueEscalations (T : Timed now s) (h : Unanswered i v e s) : Unanswered i (if e.any due then v + 1 else v)
    (if e.any due then (ackLimit (v + 1)).map fun n => later now n else e) (s.dueEscalations due) := by
  obtain ⟨c, hc, -⟩ := id h
  have listed : i ∈ s.pool.incidents := (T.ready.1.pooled.incidents i).mpr (by rw [hc]; rfl)
  obtain ⟨before, after, split⟩ := List.append_of_mem listed
  have once := T.ready.1.pooled.incidentsOnce
  rw [split] at once
  obtain ⟨-, tail, apart⟩ := List.nodup_append.mp once
  have first : i ∉ before := fun hi => apart i hi i (List.mem_cons_self ..) rfl
  have last : i ∉ after := (List.nodup_cons.mp tail).1
  unfold dueEscalations
  rw [split, List.foldl_append, List.foldl_cons]
  obtain ⟨timed, there⟩ := unanswered_foldl (due := due) before first T h
  have step : Run (timeWork False (· = i)) _ (State.takeEscalation due (before.foldl (takeEscalation due) s) i) :=
    does_takeEscalation trivial trivial trivial due _ i rfl (.inr timed.ready)
  exact (unanswered_foldl after last (timed.run (timely_timeWork _ _) step) (unanswered_takeEscalation timed there)).2

/-- The taking of every due deadline raises a RAISED operator incident once, where its own is due (R128). -/
theorem unanswered_takeDue (T : Timed now s) (h : Unanswered i v e s) : Unanswered i (if e.any due then v + 1 else v)
    (if e.any due then (ackLimit (v + 1)).map fun n => later now n else e) (s.takeDue due) := by
  have never : ∀ d, (fun _ : Nat => False) d → ¬ 0 < diff now d := fun _ h => h.elim
  have all : ∀ d, (fun _ : Nat => False) d → due d = true := fun _ h => h.elim
  have W : ∀ m : Prop, Timely (timeWork m fun _ => False) := fun m => timely_timeWork m _
  have trains := (turn_dueTrains never all T).run
  have T1 := T.run (W _) trains
  have waits := (turn_dueWaits never all T1).run
  have T2 := T1.run (W _) waits
  have leases := (turn_dueLeases never all T2).run
  have T3 := T2.run (W _) leases
  have operations := (turn_dueOperations never all T3).run
  have T4 := T3.run (W _) operations
  have escalations := (turn_dueEscalations never all T4).run
  have T5 := T4.run (timely_timeWork _ _) escalations
  have rests := (turn_dueRests never all T5).run
  have T6 := T5.run (W _) rests
  have players := (turn_duePlayers never all T6).run
  have first := waits.unanswered (W _) id T1.ready (trains.unanswered (W _) id T.ready h)
  have fourth := operations.unanswered (W _) id T3.ready (leases.unanswered (W _) id T2.ready first)
  exact players.unanswered (W _) id T6.ready (rests.unanswered (W _) id T5.ready (unanswered_dueEscalations T4 fourth))

/-- The taking of every due deadline is work of edits in which no deadline comes to stand behind line time. -/
theorem run_takeDue (T : Timed now s) (due : Reach) : Run (timeWork True fun _ => True) s (s.takeDue due) := by
  have never : ∀ d, (fun _ : Nat => False) d → ¬ 0 < diff now d := fun _ h => h.elim
  have all : ∀ d, (fun _ : Nat => False) d → due d = true := fun _ h => h.elim
  have W : ∀ (m : Prop) (r : Nat → Prop), Timely (timeWork m r) := timely_timeWork
  have more : ∀ {m : Prop} {r : Nat → Prop} {a b : State}, Run (timeWork m r) a b → Run (timeWork True fun _ => True) a b := fun run =>
    run.mono (timeWork_sub (fun _ => trivial) fun _ _ => trivial)
  have trains := (turn_dueTrains never all T).run
  have T1 := T.run (W _ _) trains
  have waits := (turn_dueWaits never all T1).run
  have T2 := T1.run (W _ _) waits
  have leases := (turn_dueLeases never all T2).run
  have T3 := T2.run (W _ _) leases
  have operations := (turn_dueOperations never all T3).run
  have T4 := T3.run (W _ _) operations
  have escalations := (turn_dueEscalations never all T4).run
  have T5 := T4.run (W _ _) escalations
  have rests := (turn_dueRests never all T5).run
  have players := (turn_duePlayers never all (T5.run (W _ _) rests)).run
  exact (((((((more trains).trans (more waits)).trans (more leases)).trans (more operations)).trans (more escalations)).trans
    (more rests)).trans (more players))

end State

end

theorem Timer.turn_lt (c : Timer) : c.turn < 7 := by
  cases c <;> simp [Timer.turn]

theorem nonePending_of_taken {hit : Nat → Prop} {s : State} (h : Taken hit 7 s) : s.NonePending hit :=
  nonePending_iff.mpr fun c d stands => h c c.turn_lt d stands

/-- The pending deadlines are no matter of line time, nor of the responses. -/
theorem stands_of_same {s t : State} (pool : t.pool = s.pool) (platforms : t.platforms = s.platforms) (sects : t.sects = s.sects)
    (subs : t.substations = s.substations) {c : Timer} {d : Nat} (h : c.Stands t d) : c.Stands s d := by
  have slots : ∀ i, t.slot i = s.slot i := fun i => by rw [State.slot, State.slot, pool]
  have places : ∀ p, t.platform p = s.platform p := fun p => by rw [State.platform, State.platform, platforms]
  have parts : ∀ i, t.sect i = s.sect i := fun i => by rw [State.sect, State.sect, sects]
  have suppliers : ∀ k, t.substation k = s.substation k := fun k => by rw [State.substation, State.substation, subs]
  cases c with
  | departure i | overdue i | approach i => obtain ⟨x, hx, k⟩ := h; exact ⟨x, (State.train?_of_slot (slots i)).symm.trans hx, k⟩
  | wait k g | lease k g => obtain ⟨e, he, same⟩ := h; exact ⟨e, suppliers k ▸ he, same⟩
  | operation i => obtain ⟨op, hop⟩ := h; exact ⟨op, parts i ▸ hop⟩
  | escalation i => obtain ⟨x, hx, k⟩ := h; exact ⟨x, (State.incident?_of_slot (slots i)).symm.trans hx, k⟩
  | rest i => obtain ⟨x, hx, k⟩ := h; exact ⟨x, (State.ann?_of_slot (slots i)).symm.trans hx, k⟩
  | player p => obtain ⟨state, dl⟩ := h; exact ⟨places p ▸ state, places p ▸ dl⟩

theorem Taken.of_same {hit : Nat → Prop} {n : Nat} {s t : State} (h : Taken hit n s) (pool : t.pool = s.pool)
    (platforms : t.platforms = s.platforms) (sects : t.sects = s.sects) (subs : t.substations = s.substations) : Taken hit n t :=
  fun c hc d stands => h c hc d (stands_of_same pool platforms sects subs stands)

theorem Taken.setTime {hit : Nat → Prop} {m : Nat} {s : State} (h : Taken hit m s) (n : Nat) : Taken hit m (s.setTime n) :=
  h.of_same rfl rfl rfl rfl

theorem Unanswered.of_pool {i v : Nat} {e : Option Nat} {s t : State} (h : Unanswered i v e s) (pool : t.pool = s.pool) :
    Unanswered i v e t := by
  obtain ⟨c, hc, k⟩ := h
  exact ⟨c, (State.incident?_of_slot (by rw [State.slot, State.slot, pool])).trans hc, k⟩

theorem Unanswered.setTime {i v : Nat} {e : Option Nat} {s : State} (h : Unanswered i v e s) (n : Nat) : Unanswered i v e (s.setTime n) :=
  h.of_pool rfl

/-- A part at another line time is as ready as before. -/
theorem Timed.setTime {now : Nat} {s : State} (T : Timed now s) (n : Nat) : Timed n (s.setTime n) where
  ready := ⟨State.sound_of_pool_of_sized (s := s) (t := s.setTime n) T.ready.1.sized T.ready.1.header rfl T.ready.1, T.ready.2⟩
  configured := ⟨T.configured.checked, T.configured.empty, T.configured.patterns, T.configured.trains⟩
  time := rfl

/-- After a step from `old` nothing that the step has left or passed lies ahead (R12). -/
theorem behind_step {old : Nat} {step : Int} {e : Nat} (day : old < 864000) (pos : 0 < step) (limit : step ≤ 50)
    (h : e = old ∨ 0 < diff old e ∧ diff old e ≤ step) : ¬ 0 < diff (later old step) e := by
  rw [diff_eq, later_eq] at *
  omega

theorem not_ahead_self (n : Nat) : ¬ 0 < diff n n := by
  have same := diff_eq n n
  rw [Int.sub_self] at same
  omega

theorem passed_of {old : Nat} {step : Int} {d : Nat} (h : 0 < diff old d ∧ diff old d ≤ step) : passed old step d = true :=
  (Bool.and_eq_true ..).mpr ⟨decide_eq_true h.1, decide_eq_true h.2⟩

/-- What a tick leaves (R10). -/
theorem tick_leaves {s : State} (T : Timed s.lineTime s) : s.tick.NonePending (· = s.lineTime) ∧
    ∀ i v, Unanswered i v (some s.lineTime) s →
      Unanswered i (v + 1) ((ackLimit (v + 1)).map fun n => later s.lineTime n) s.tick := by
  have behind : ∀ d, d = s.lineTime → ¬ 0 < diff s.lineTime d := fun d h => by subst h; exact not_ahead_self _
  have all : ∀ d, d = s.lineTime → s.dueNow d = true := fun d h => beq_iff_eq.mpr h
  have taken : Taken (· = s.lineTime) 7 s.tick := (State.taken_takeDue behind all T).setTime _
  refine ⟨nonePending_of_taken taken, fun i v h => ?_⟩
  have due : (some s.lineTime).any s.dueNow = true := all _ rfl
  have risen := State.unanswered_takeDue (due := s.dueNow) T h
  rw [if_pos due, if_pos due] at risen
  exact risen.setTime _

/-- What a step forward leaves (R12). -/
theorem adjustTime_leaves {s : State} (T : Timed s.lineTime s) (day : s.ClockOk) {step : Int} (pos : 0 < step) (limit : step ≤ 50) :
    (s.adjustTime step).NonePending (fun e => e = s.lineTime ∨ 0 < diff s.lineTime e ∧ diff s.lineTime e ≤ step) ∧
      ∀ i v e, Unanswered i v (some e) s → 0 < diff s.lineTime e → diff s.lineTime e ≤ step →
        Unanswered i (v + 1) ((ackLimit (v + 1)).map fun n => later (s.adjustTime step).lineTime n) (s.adjustTime step) := by
  have two : s.adjustTime step = ((s.takeDue s.dueNow).setTime (later s.lineTime step)).takeDue (passed s.lineTime step) :=
    if_neg (by omega)
  have moved : (s.adjustTime step).lineTime = later s.lineTime step := (State.clockMoved_adjustTime day step).lineTime
  have W := timely_timeWork True fun _ => True
  have behind : ∀ d, d = s.lineTime → ¬ 0 < diff s.lineTime d := fun d h => by subst h; exact not_ahead_self _
  have beyond : ∀ d, d = s.lineTime ∨ 0 < diff s.lineTime d ∧ diff s.lineTime d ≤ step → ¬ 0 < diff (later s.lineTime step) d :=
    fun _ h => behind_step day pos limit h
  have first := State.taken_takeDue behind (due := s.dueNow) (fun d h => beq_iff_eq.mpr h) T
  have stepped := (T.run W (State.run_takeDue T s.dueNow)).setTime (later s.lineTime step)
  have second := State.taken_takeDue (due := passed s.lineTime step) (fun d h => beyond d (.inr h)) (fun d h => passed_of h) stepped
  have kept := ((first.setTime (later s.lineTime step)).run (fun d h => beyond d (.inl h)) stepped W (State.run_takeDue stepped (passed s.lineTime step)))
  rw [two] at moved ⊢
  refine ⟨nonePending_of_taken fun c turn d stands => ?_, fun i v e h ahead within => ?_⟩
  · rintro (left | between)
    · exact kept c turn d stands left
    · exact second c turn d stands between
  · have notYet : ¬ (some e).any s.dueNow = true := fun reached => behind e (beq_iff_eq.mp reached) ahead
    have waits := State.unanswered_takeDue (due := s.dueNow) T h
    rw [if_neg notYet, if_neg notYet] at waits
    have due : (some e).any (passed s.lineTime step) = true := passed_of ⟨ahead, within⟩
    have risen := State.unanswered_takeDue (due := passed s.lineTime step) stepped (waits.setTime _)
    rw [if_pos due, if_pos due] at risen
    rw [moved]
    exact risen

/-- Settles O9: every turn clears its timers, and no later work sets a deadline that does not lie ahead. -/
theorem timeLeavesNoDeadlineBehind : Obligations.TimeLeavesNoDeadlineBehind := by
  unfold Obligations.TimeLeavesNoDeadlineBehind
  intro s sound configured day running
  have T : Timed s.lineTime s := ⟨⟨sound, running⟩, configured, rfl⟩
  refine ⟨fun t next => ?_, fun tag d t pos next => ?_⟩
  · obtain rfl : s.tick = t := Host.Outcome.next.inj next
    obtain ⟨none, rises⟩ := tick_leaves T
    refine ⟨none, fun i c hc kind raised dl => ?_⟩
    obtain ⟨y, hy, -, -, severity, dl'⟩ := rises i c.severity ⟨c, hc, kind, raised, rfl, dl⟩
    exact ⟨y, hy, severity, dl'⟩
  · have clamp : max (-50) (min 50 d) = min 50 d := by omega
    have answered := (execAdjustTime_eq tag d s).symm.trans next
    rw [clamp] at answered
    obtain ⟨none, rises⟩ := adjustTime_leaves T day (step := min 50 d) (by omega) (by omega)
    obtain rfl := Host.Outcome.next.inj answered
    refine ⟨nonePending_of_taken (Taken.of_same (fun c _ d stands => nonePending_iff.mp none c d stands) rfl rfl rfl rfl),
      fun i c e hc kind raised dl ahead within => ?_⟩
    obtain ⟨y, hy, -, -, severity, dl'⟩ := (rises i c.severity e ⟨c, hc, kind, raised, rfl, dl⟩ ahead within)
    exact ⟨y, hy, severity, dl'⟩

end Sys2Proof.Machine

/-! A cause that has come up keeps its incident, active or owed, until work ends it (R32, R126, R133). -/

namespace Sys2Proof.Machine
open Sys2Proof

theorem Owed.get_put (o : Owed) (a b : Bool) (v : Option Nat) : (o.put a v).get b = if a = b then v else o.get b := by
  cases a <;> cases b <;> rfl

/-- What edits of the kinds `on` make of the owed set of a locating record. -/
def OwedAs (on : Work → Prop) (loc : Location) (a b : Owed) : Prop :=
  b = a ∨ ∃ (k : Kind) (v : Option Nat), Owing on loc v ∧ b = a.put k.owedSecond v

/-- Work in which no cause ends keeps what is owed. -/
theorem OwedAs.isSome {on : Work → Prop} {loc : Location} {a b : Owed} (h : OwedAs on loc a b) (fixed : ∀ j, loc ≠ .substation j)
    (firm : ¬ on .ends) {second : Bool} (owes : (a.get second).isSome = true) : (b.get second).isSome = true := by
  rcases h with rfl | ⟨k, v, may, rfl⟩
  · exact owes
  · rw [Owed.get_put]
    split
    · exact (may.resolve_right fun h => h.2.elim (fun ⟨j, e⟩ => fixed j e) firm).1
    · exact owes

namespace State
variable {on : Work → Prop}

theorem platform_owed_edit {s t : State} (e : Edit on s t) (p : Nat) : OwedAs on (.platform p) (s.platform p).owed (t.platform p).owed := by
  have same : t.platforms = s.platforms → OwedAs on (.platform p) (s.platform p).owed (t.platform p).owed := fun h =>
    .inl (by rw [platform, platform, h])
  cases e with
  | record e =>
    cases e with
    | player q f change => exact .inl (platform_modPlatform_part Platform.owed s q (fun x => (change x).owed) p)
    | ring q f _ kept => exact .inl (platform_modPlatform_part Platform.owed s q (fun x => (kept x).1) p)
    | putOwed k loc v may =>
      cases loc with
      | platform q =>
        by_cases hq : q = p ∧ p < s.platforms.length
        · refine .inr ⟨k, v, hq.1 ▸ may, ?_⟩
          rw [putOwed, platform_modPlatform, if_pos hq]
        · exact .inl (by rw [putOwed, platform_modPlatform, if_neg hq])
      | train h => unfold putOwed; dsimp only; split <;> exact .inl rfl
      | _ => exact .inl rfl
    | newIncident c t i a => exact same (show t.platforms = _ from (allocate_rest a).1)
    | newAnn c t i a => exact same (show t.platforms = _ from (allocate_rest a).1)
    | _ => exact same rfl
  | gate e => exact same (platforms_gateEdit e)

theorem train_owed_gateEdit {s t : State} (e : GateEdit on s t) (smooth : ¬ on .rough) {i : Nat} {x : Train} (hx : s.train? i = some x) :
    ∃ y, t.train? i = some y ∧ y.owed = x.owed := by
  have same : t.pool = s.pool → ∃ y, t.train? i = some y ∧ y.owed = x.owed := fun h => ⟨x, (train?_of_pool h i).trans hx, rfl⟩
  have mod : ∀ (j : Nat) (f : Train → Train), t.pool = (s.modTrain j f).pool → (j = i → (f x).owed = x.owed) →
      ∃ y, t.train? i = some y ∧ y.owed = x.owed := fun j f pool owed => by
    refine ⟨_, (train_of_modTrain pool hx).2, ?_⟩
    split
    · next h => exact owed h
    · rfl
  cases e with
  | train j f all => exact mod j f rfl fun h => (all.resolve_left smooth x (h ▸ hx)).1.owed
  | leave j f _ all => exact mod j f rfl fun h => (all.resolve_left smooth x (h ▸ hx)).1.owed
  | grantEntry | grantAsked => exact mod _ _ (pool_grant ..) fun _ => rfl
  | enqueue j k w => exact mod k (fun x => { x with state := .waiting }) rfl fun _ => rfl
  | withdraw j reason => exact mod j _ (s.pool_withdrawn j reason) fun _ => rfl
  | dropEntries h => exact same (s.pool_dropEntries h)
  | dropLease k h =>
    cases hc : s.current h with
    | true => exact mod h.slot (fun x => { x with lease := none }) (by rw [pool_dropLease, if_pos hc]) fun _ => rfl
    | false => exact same (by rw [pool_dropLease, if_neg (by simp [hc])])
  | waitGone | moveRequests => exact same rfl

theorem train_owed_edit {s t : State} (e : Edit on s t) (smooth : ¬ on .rough) (r : s.Ready) {i : Nat} {x : Train}
    (hx : s.train? i = some x) : t.handle i = s.handle i ∧ ∃ y, t.train? i = some y ∧ OwedAs on (.train (s.handle i)) x.owed y.owed := by
  cases e with
  | record e =>
    obtain ⟨handle, train | ⟨k, v, may, train⟩⟩ := train_recordEdit_cases e r hx
    · exact ⟨handle, x, train, .inl rfl⟩
    · exact ⟨handle, _, train, .inr ⟨k, v, may, rfl⟩⟩
  | gate e =>
    obtain ⟨y, hy, owed⟩ := train_owed_gateEdit e smooth hx
    exact ⟨(kin_gateEdit e smooth hx).1, y, hy, .inl owed⟩

/-- A platform of the table, or a live train. -/
def Locates (s : State) : Location → Prop
  | .platform p => p < Config.platformEntries
  | .train h => s.handle h.slot = h ∧ (s.train? h.slot).isSome = true
  | _ => False

theorem owed_train {s : State} {i : Nat} {x : Train} (hx : s.train? i = some x) (k : Kind) :
    s.owed k (.train (s.handle i)) = x.owed.get k.owedSecond := by
  unfold owed
  have slot : (s.handle i).slot = i := rfl
  dsimp only
  rw [slot, hx]
  exact if_pos rfl

/-- What edits make of what is owed at a platform or a live train. -/
theorem owed_edit {s t : State} (e : Edit on s t) (smooth : ¬ on .rough) (r : s.Ready) {loc : Location} (place : s.Locates loc) :
    t.Locates loc ∧ ∃ a b : Owed, (∀ k, s.owed k loc = a.get k.owedSecond) ∧ (∀ k, t.owed k loc = b.get k.owedSecond) ∧ OwedAs on loc a b := by
  cases loc with
  | platform p => exact ⟨place, _, _, fun _ => rfl, fun _ => rfl, platform_owed_edit e p⟩
  | train h =>
    obtain ⟨current, live⟩ := place
    obtain ⟨x, hx⟩ := Option.isSome_iff_exists.mp live
    obtain ⟨handle, y, hy, owed⟩ := train_owed_edit e smooth r hx
    refine ⟨⟨handle.trans current, by rw [hy]; rfl⟩, x.owed, y.owed, fun k => ?_, fun k => ?_, current ▸ owed⟩
    · rw [← owed_train hx k, current]
    · rw [← owed_train hy k, handle, current]
  | sect | substation => exact place.elim

/-- An automatic incident of kind `k` at `loc` is active, or owed (R126, R32). -/
def Called (k : Kind) (loc : Location) (s : State) : Prop :=
  (∃ i c, s.incident? i = some c ∧ c.active = true ∧ c.automatic = true ∧ c.kind = k ∧ c.location = some loc) ∨
    (s.owed k loc).isSome = true

theorem called_of_activeAt {s : State} {k : Kind} {loc : Location} {i : Nat} {c : Incident} (h : s.activeAt k loc = some (i, c)) :
    Called k loc s := by
  obtain ⟨live, active, kind, place, automatic⟩ := activeAt_eq_some h
  exact .inl ⟨i, c, live, active, bne_iff_ne.mpr automatic, kind, place⟩

theorem activeAt_of_called {s : State} (r : s.Ready) {k : Kind} {loc : Location} (h : Called k loc s) :
    (s.activeAt k loc).isSome = true ∨ (s.owed k loc).isSome = true := by
  refine h.imp_left fun ⟨i, c, live, active, automatic, kind, place⟩ => ?_
  rw [activeAt, List.find?_isSome]
  refine ⟨(i, c), mem_liveIncidents.mpr ⟨(r.1.pooled.incidents i).mpr (by rw [live]; rfl), live⟩, ?_⟩
  simp [active, automatic, kind, place]

end State

open State

section
variable {on : Work → Prop} {k : Kind} {loc : Location}

/-- Work in which no cause ends keeps an incident active or owed. -/
theorem Run.called {s t : State} (run : Run on s t) (smooth : ¬ on .rough) (firm : ¬ on .ends) (calm : ¬ on .command)
    (plain : k ≠ .powerDelay) (r : s.Ready) (place : s.Locates loc) (h : Called k loc s) : t.Locates loc ∧ Called k loc t := by
  refine run.keeps_ready (P := fun u => u.Locates loc ∧ Called k loc u) smooth (fun u v e ru ⟨place, h⟩ => ?_) r ⟨place, h⟩
  obtain ⟨place', a, b, before, after, owed⟩ := owed_edit e smooth ru place
  refine ⟨place', ?_⟩
  rcases h with ⟨i, c, live, active, automatic, kind, at_⟩ | owes
  · obtain ⟨d, hd, became⟩ := incident_edit e ru calm live
    cases became with
    | same same => subst same; exact .inl ⟨i, _, hd, active, automatic, kind, at_⟩
    | change change =>
      obtain ⟨kind', at'⟩ := change.same.resolve_left calm
      have still := (((change.cause active).resolve_left firm).resolve_left calm).resolve_left fun e => plain (kind.symm.trans e)
      exact .inl ⟨i, d, hd, still, by rw [Incident.automatic, kind']; exact automatic, kind'.trans kind, at'.trans at_⟩
    | severity v same => subst same; exact .inl ⟨i, _, hd, active, automatic, kind, at_⟩
  · refine .inr ?_
    rw [after]
    rw [before] at owes
    refine owed.isSome (fun j e => ?_) firm owes
    rw [e] at place; exact place.elim

theorem Run.locates {s t : State} (run : Run on s t) (smooth : ¬ on .rough) (r : s.Ready) (place : s.Locates loc) : t.Locates loc :=
  run.keeps_ready (P := fun u => u.Locates loc) smooth (fun _ _ e ru place => (owed_edit e smooth ru place).1) r place

end

end Sys2Proof.Machine

/-! A cause that has come up keeps its incident, active or owed, through raises, the service of owed work and the end of an event. -/

namespace Sys2Proof.Machine
open Sys2Proof

/-- The kinds a locating record may owe (R32). -/
def Kind.Fits (k : Kind) : Location → Prop
  | .platform _ => k = .platformAlarm ∨ k = .platformConflict
  | .sect _ => k = .sectionLockout ∨ k = .breakerFailure
  | .substation _ => k = .supplyTransfer ∨ k = .powerDelay
  | .train _ => k = .trainOverdue ∨ k = .unauthorised

theorem Kind.Fits.eq {k l : Kind} {loc : Location} (hk : k.Fits loc) (hl : l.Fits loc) (same : k.owedSecond = l.owedSecond) : k = l := by
  cases loc <;> rcases hk with rfl | rfl <;> rcases hl with rfl | rfl <;> first | rfl | cases same

theorem Kind.Fits.automatic {k : Kind} {loc : Location} (h : k.Fits loc) : k ≠ .operator := by
  cases loc <;> rcases h with rfl | rfl <;> decide

/-- The work of a raise: queues may be served and requests withdrawn. -/
abbrev raiseWork : Work → Prop := gateWork fun _ => False

/-- The work of the service of owed incidents: a raise, and the end of what was owed. -/
abbrev owedWork : Work → Prop := gateWork (· = .ends)

namespace State

theorem owedOrder_fits {s : State} {e : Kind × Location} (h : e ∈ s.owedOrder) : e.1.Fits e.2 := by
  simp only [owedOrder, List.mem_append, List.mem_flatMap, List.mem_cons, List.not_mem_nil, or_false] at h
  rcases h with ((⟨i, -, rfl | rfl⟩ | ⟨i, -, rfl | rfl⟩) | ⟨i, -, rfl | rfl⟩) | ⟨i, -, rfl | rfl⟩
  all_goals first | exact .inl rfl | exact .inr rfl

theorem owed_putOwed_ne (s : State) {k l : Kind} {a b : Location} (v : Option Nat) (ne : a ≠ b ∨ k.owedSecond ≠ l.owedSecond) :
    (s.putOwed k a v).owed l b = s.owed l b := by
  have put : ∀ o : Owed, a = b → (o.put k.owedSecond v).get l.owedSecond = o.get l.owedSecond := fun o same => by
    rw [Owed.get_put, if_neg (ne.resolve_left (not_not_intro same))]
  cases a with
  | platform p =>
    cases b with
    | platform q =>
      by_cases hq : p = q ∧ q < s.platforms.length
      · simp only [putOwed, owed, platform_modPlatform, if_pos hq]
        exact put _ (congrArg _ hq.1)
      · simp only [putOwed, owed, platform_modPlatform, if_neg hq]
    | _ => rfl
  | sect p =>
    cases b with
    | sect q =>
      by_cases hq : p = q ∧ q < s.sects.length
      · simp only [putOwed, owed, sect_modSect, if_pos hq]
        exact put _ (congrArg _ hq.1)
      · simp only [putOwed, owed, sect_modSect, if_neg hq]
    | _ => rfl
  | substation p =>
    cases b with
    | substation q =>
      by_cases hq : p = q ∧ q < s.substations.length
      · simp only [putOwed, owed, substation_modSubstation, if_pos hq]
        exact put _ (congrArg _ hq.1)
      · simp only [putOwed, owed, substation_modSubstation, if_neg hq]
    | _ => rfl
  | train h =>
    unfold putOwed
    dsimp only
    split
    · next current =>
      cases b with
      | train g =>
        simp only [owed, handle_modTrain, train?_modTrain]
        by_cases hs : h.slot = g.slot
        · rw [if_pos hs]
          cases s.train? g.slot with
          | none => rfl
          | some x =>
            simp only [Option.map_some]
            split
            · next there => exact put _ (by rw [← current, ← there, hs])
            · rfl
        · rw [if_neg hs]
      | _ => rfl
    · rfl

theorem owed_putOwed_self {s : State} (r : s.Ready) (k : Kind) {loc : Location} (place : s.Locates loc) (v : Option Nat) :
    (s.putOwed k loc v).owed k loc = v := by
  have put : ∀ o : Owed, (o.put k.owedSecond v).get k.owedSecond = v := fun o => by rw [Owed.get_put, if_pos rfl]
  cases loc with
  | platform p =>
    have there : p = p ∧ p < s.platforms.length := ⟨rfl, r.1.sized.2.2.1 ▸ place⟩
    rw [putOwed, owed, platform_modPlatform, if_pos there]
    exact put _
  | train h =>
    obtain ⟨current, live⟩ := place
    obtain ⟨x, hx⟩ := Option.isSome_iff_exists.mp live
    simp only [putOwed, if_pos current, owed, train?_modTrain_of hx, handle_modTrain]
    exact put _
  | sect | substation => exact place.elim

section
variable {k : Kind} {loc : Location} {s : State}

/-- The new record of an automatic incident carries its kind and place (R126). -/
theorem called_created {begins : Begins} (hb : DoesBegins raiseWork begins) (plain : k ≠ .powerDelay) (automatic : k ≠ .operator)
    (r : s.Ready) (place : s.Locates loc) (room : s.incidentRoom = true) (v : Nat) :
    Called k loc (s.createWith begins (s.automaticIncident k loc v)).1 := by
  obtain ⟨free, count⟩ := Bool.and_eq_true_iff.mp room
  have some_ : s.pool.free ≠ [] := fun h => by
    rw [freeCount, h] at free; cases free
  unfold createWith
  obtain ⟨t, i, a⟩ := allocate_isSome some_
    (.incident { s.automaticIncident k loc v with escDl := (ackLimit (s.automaticIncident k loc v).severity).map fun d => later s.lineTime d })
  rw [a]
  have new : Run raiseWork s (t.linkIncident i) := .of_record (.newIncident _ t i a (of_decide_eq_true count) rfl fun _ => escalation_ahead)
  have ready := new.ready id r
  have here : t.incident? i = some _ := incident?_eq_some.mpr (by rw [allocate_slot_self a r.1])
  have called : Called k loc (t.linkIncident i) := .inl ⟨i, _, here, rfl, bne_iff_ne.mpr automatic, rfl, rfl⟩
  have more : Run raiseWork (t.linkIncident i) ((begins s (t.linkIncident i)).copyStep i) :=
    ((hb s _).trans (does_copyStep _ i)) (.inr ready)
  exact (more.called id id id plain ready (new.locates id r place) called).2

/-- A raise leaves its incident active, or owed (R126). -/
theorem called_raiseWith {begins : Begins} (hb : DoesBegins raiseWork begins) (plain : k ≠ .powerDelay) (automatic : k ≠ .operator)
    (r : s.Ready) (place : s.Locates loc) (v : Nat) : Called k loc (s.raiseWith begins k loc v) := by
  unfold raiseWith
  split
  · next i c active =>
    obtain ⟨live, -, -, -, kind⟩ := activeAt_eq_some active
    exact (Run.called (does_coalesce hb s live kind v (.inr r)) id id id plain r place (called_of_activeAt active)).2
  · split
    · next room => exact called_created hb plain automatic r place (Bool.and_eq_true_iff.mp room).1 v
    · exact .inr (by rw [owe, owed_putOwed_self r k place]; rfl)

theorem called_autoRaise (plain : k ≠ .powerDelay) (automatic : k ≠ .operator) (r : s.Ready) (place : s.Locates loc) (v : Nat) :
    Called k loc (s.autoRaise k loc v) := called_raiseWith (does_holdsBegin trivial trivial) plain automatic r place v

/-- What is owed stays owed, or is served, as other owed incidents are served (R35). -/
theorem called_serveOwedIncident (fits : k.Fits loc) (plain : k ≠ .powerDelay) {l : Kind} {at_ : Location} (other : l.Fits at_)
    (r : s.Ready) (place : s.Locates loc) (h : Called k loc s) : Called k loc (s.serveOwedIncident l at_) := by
  unfold serveOwedIncident
  split
  · exact h
  · split
    · have taken : Run (fun w => w = .ends) s (s.putOwed l at_ none) := .of_record (.putOwed l at_ none (.inr ⟨rfl, .inr rfl⟩))
      have ready := taken.ready Work.noConfusion r
      have place' := taken.locates Work.noConfusion r place
      by_cases same : at_ = loc ∧ l.owedSecond = k.owedSecond
      · obtain ⟨rfl, second⟩ := same
        obtain rfl := other.eq fits second
        exact called_raiseWith does_holdsLater plain fits.automatic ready place' _
      · have kept : Called k loc (s.putOwed l at_ none) := by
          refine h.imp (fun ⟨i, c, live, rest⟩ => ⟨i, c, (records_putOwed s l at_ none i).1.trans live, rest⟩) fun owes => ?_
          rwa [owed_putOwed_ne s none (not_and_or.mp same)]
        exact (Run.called (on := raiseWork) (does_raiseWith does_holdsLater trivial trivial _ l at_ _ (.inr ready)) id id id plain ready
          place' kept).2
    · exact h

theorem called_foldl_owedIncidents (fits : k.Fits loc) (plain : k ≠ .powerDelay) (l : List (Kind × Location))
    (all : ∀ e ∈ l, e.1.Fits e.2) (r : s.Ready) (place : s.Locates loc) (h : Called k loc s) :
    Called k loc (l.foldl (fun t e => t.serveOwedIncident e.1 e.2) s) := by
  induction l generalizing s with
  | nil => exact h
  | cons e l ih =>
    have step : Run owedWork s (s.serveOwedIncident e.1 e.2) :=
      does_serveOwedIncident (on := owedWork) trivial trivial rfl s e.1 e.2 (.inr r)
    exact ih (fun d hd => all d (List.mem_cons_of_mem _ hd)) (step.ready Work.noConfusion r) (step.locates Work.noConfusion r place)
      (called_serveOwedIncident fits plain (all e (List.mem_cons_self ..)) r place h)

/-- The end of an event keeps an incident active or owed: what it serves it raises (R35). -/
theorem called_endEvent (fits : k.Fits loc) (plain : k ≠ .powerDelay) (b : State) (r : s.Ready) (place : s.Locates loc)
    (h : Called k loc s) : Called k loc (endEvent b s) := by
  have keep : ∀ {u v : State}, Does raiseWork u v → u.Ready ∧ u.Locates loc ∧ Called k loc u → v.Ready ∧ v.Locates loc ∧ Called k loc v :=
    fun d ⟨r, place, h⟩ =>
      have run := d (.inr r)
      ⟨run.ready id r, run.called id id id plain r place h⟩
  have serve : ∀ {u : State}, u.Ready ∧ u.Locates loc ∧ Called k loc u → u.serveOwed.Ready ∧ u.serveOwed.Locates loc ∧
      Called k loc u.serveOwed := fun {u} ⟨r, place, h⟩ => by
    have fold : Run owedWork u (u.owedOrder.foldl (fun t e => t.serveOwedIncident e.1 e.2) u) :=
      does_foldl_owedIncidents (on := owedWork) trivial trivial rfl _ u (.inr r)
    exact keep (does_foldl_owedCopies _) (keep (does_holdsBegin trivial trivial u _)
      ⟨fold.ready Work.noConfusion r, fold.locates Work.noConfusion r place, called_foldl_owedIncidents fits plain _ (fun _ => owedOrder_fits) r place h⟩)
  unfold endEvent
  refine (keep (does_judgeLines _) (keep (does_selections _) ?_)).2.2
  have checked := keep (does_checkFreed trivial s.held b s) ⟨r, place, h⟩
  split
  · exact keep (does_checkFreed trivial _ _ _) (serve checked)
  · exact checked

end

end State

end Sys2Proof.Machine

/-! Raises that put no restriction on the line leave trains, places and restrictions as they stand (R126). -/

namespace Sys2Proof.Machine
open Sys2Proof

/-- What a raise without a restriction may make of a record; `tr`: whether it may write into the owed set of a train. -/
def Rec.Gentle (tr : Prop) : Rec → Rec → Prop
  | .train x, .train y => ∃ o, y = { x with owed := o } ∧ (tr ∨ o = x.owed)
  | .incident c, .incident d => d.active = c.active ∧ d.restriction = c.restriction ∧ d.kind = c.kind
  | .ann _, .ann _ => True
  | .free, .free => True
  | .free, .incident d => d.restriction = none
  | .free, .ann _ => True
  | _, _ => False

theorem Rec.Gentle.refl (tr : Prop) (a : Rec) : a.Gentle tr a := by
  cases a with
  | train x => exact ⟨x.owed, rfl, .inr rfl⟩
  | incident c => exact ⟨rfl, rfl, rfl⟩
  | _ => trivial

theorem Rec.Gentle.trans {tr : Prop} {a b c : Rec} (h : a.Gentle tr b) (k : b.Gentle tr c) : a.Gentle tr c := by
  cases a with
  | train x =>
    cases b with
    | train y =>
      cases c with
      | train z =>
        obtain ⟨o, rfl, ho⟩ := h
        obtain ⟨o', rfl, ho'⟩ := k
        exact ⟨o', rfl, ho'.elim .inl fun e => ho.imp_right fun e' => e.trans e'⟩
      | _ => exact k.elim
    | _ => exact h.elim
  | incident x =>
    cases b with
    | incident y =>
      cases c with
      | incident z => exact ⟨k.1.trans h.1, k.2.1.trans h.2.1, k.2.2.trans h.2.2⟩
      | _ => exact k.elim
    | _ => exact h.elim
  | ann x =>
    cases b with
    | ann y =>
      cases c with
      | ann z => trivial
      | _ => exact k.elim
    | _ => exact h.elim
  | free =>
    cases b with
    | incident y =>
      cases c with
      | incident z => exact k.2.1.trans h
      | _ => exact k.elim
    | ann y =>
      cases c with
      | ann z => trivial
      | _ => exact k.elim
    | free => exact k
    | train y => exact h.elim

/-- What a raise without a restriction leaves of a part. -/
structure Gentle (tr : Prop) (s t : State) : Prop where
  calm       : Calm s t
  records    : ∀ i, (s.slot i).record.Gentle tr (t.slot i).record
  epochs     : ∀ i, (s.slot i).record ≠ .free → (t.slot i).epoch = (s.slot i).epoch
  trainList  : t.pool.trains = s.pool.trains
  places     : ∀ p, (t.platform p).occupant = (s.platform p).occupant ∧ (t.platform p).lastDep = (s.platform p).lastDep
  alarms     : ∀ p, (t.platform p).owed.first = (s.platform p).owed.first
  directives : ∀ e ∈ s.links.queue, e.1 < Config.playerBase → e ∈ t.links.queue

namespace Gentle
variable {tr : Prop} {s t u : State}

theorem refl (tr : Prop) (s : State) : Gentle tr s s where
  calm := .refl s
  records _ := .refl tr _
  epochs _ _ := rfl
  trainList := rfl
  places _ := ⟨rfl, rfl⟩
  alarms _ := rfl
  directives _ h _ := h

theorem trans (a : Gentle tr s t) (b : Gentle tr t u) : Gentle tr s u where
  calm := a.calm.trans b.calm
  records i := (a.records i).trans (b.records i)
  epochs i live := by
    have still : (t.slot i).record ≠ .free := fun free => by
      have := a.records i
      rw [free] at this
      cases h : (s.slot i).record with
      | free => exact live h
      | _ => rw [h] at this; exact this
    exact (b.epochs i still).trans (a.epochs i live)
  trainList := b.trainList.trans a.trainList
  places p := ⟨(b.places p).1.trans (a.places p).1, (b.places p).2.trans (a.places p).2⟩
  alarms p := (b.alarms p).trans (a.alarms p)
  directives e h n := b.directives e (a.directives e h n) n

theorem train? (h : Gentle tr s t) {i : Nat} {x : Train} (hx : s.train? i = some x) :
    ∃ o, t.train? i = some { x with owed := o } ∧ (tr ∨ o = x.owed) := by
  have rec_ := h.records i
  rw [State.train?_eq_some.mp hx] at rec_
  cases hr : (t.slot i).record with
  | train y =>
    rw [hr] at rec_
    obtain ⟨o, rfl, ho⟩ := rec_
    exact ⟨o, State.train?_eq_some.mpr hr, ho⟩
  | _ => rw [hr] at rec_; exact rec_.elim

theorem was_train (h : Gentle tr s t) {i : Nat} {y : Train} (hy : t.train? i = some y) : ∃ x, s.train? i = some x := by
  have rec_ := h.records i
  rw [State.train?_eq_some.mp hy] at rec_
  cases hr : (s.slot i).record with
  | train x => exact ⟨x, State.train?_eq_some.mpr hr⟩
  | _ => rw [hr] at rec_; exact rec_.elim

/-- Every train is as it was where no train becomes owed anything. -/
theorem trains (h : Gentle False s t) (i : Nat) : t.train? i = s.train? i := by
  cases hx : s.train? i with
  | some x =>
    obtain ⟨o, ho, same⟩ := h.train? hx
    rw [same.resolve_left id] at ho
    exact ho
  | none =>
    cases hy : t.train? i with
    | none => rfl
    | some y =>
      obtain ⟨x, hx'⟩ := h.was_train hy
      cases hx.symm.trans hx'

theorem handle (h : Gentle tr s t) {i : Nat} (live : (s.slot i).record ≠ .free) : t.handle i = s.handle i := by
  rw [State.handle, State.handle, h.epochs i live]

/-- No record is retired. -/
theorem live (h : Gentle tr s t) {i : Nat} (live : (s.slot i).record.kind ≠ .free) :
    (t.slot i).record.kind ≠ .free ∧ (t.slot i).epoch = (s.slot i).epoch := by
  have rec_ := h.records i
  refine ⟨fun gone => ?_, h.epochs i fun free => live (by rw [free]; rfl)⟩
  cases hr : (t.slot i).record with
  | free =>
    rw [hr] at rec_
    cases hs : (s.slot i).record with
    | free => rw [hs] at live; exact live rfl
    | _ => rw [hs] at rec_; exact rec_
  | _ => rw [hr] at gone; cases gone

end Gentle

namespace State
variable {tr : Prop}

/-- An active incident in slot `i` carries the restriction `r`. -/
def Restricts (s : State) (i : Nat) (r : Restriction) : Prop :=
  ∃ c, s.incident? i = some c ∧ c.active = true ∧ c.restriction = some r

theorem restricts_gentle {s t : State} (h : Gentle tr s t) (i : Nat) (r : Restriction) : t.Restricts i r ↔ s.Restricts i r := by
  have rec_ := h.records i
  constructor
  · rintro ⟨d, hd, active, carries⟩
    rw [incident?_eq_some.mp hd] at rec_
    cases hr : (s.slot i).record with
    | incident c => rw [hr] at rec_; exact ⟨c, incident?_eq_some.mpr hr, rec_.1.symm.trans active, rec_.2.1.symm.trans carries⟩
    | free => rw [hr] at rec_; cases (show d.restriction = none from rec_).symm.trans carries
    | _ => rw [hr] at rec_; exact rec_.elim
  · rintro ⟨c, hc, active, carries⟩
    rw [incident?_eq_some.mp hc] at rec_
    cases hr : (t.slot i).record with
    | incident d => rw [hr] at rec_; exact ⟨d, incident?_eq_some.mpr hr, rec_.1.trans active, rec_.2.1.trans carries⟩
    | _ => rw [hr] at rec_; exact rec_.elim

/-- A platform is held by an active incident whose HOLD covers it (7.6). -/
theorem held_iff {s : State} (r : s.Ready) {p : Nat} :
    s.held p = true ↔ ∃ i first last, s.Restricts i ⟨.hold, first, last⟩ ∧ s.covers first last p = true := by
  rw [held, List.any_eq_true]
  constructor
  · rintro ⟨e, he, holds⟩
    obtain ⟨active, hold⟩ := Bool.and_eq_true_iff.mp holds
    split at hold
    · next first last carries => exact ⟨e.1, first, last, ⟨e.2, (mem_liveIncidents.mp he).2, active, carries⟩, hold⟩
    · cases hold
  · rintro ⟨i, first, last, ⟨c, hc, active, carries⟩, covers⟩
    refine ⟨(i, c), mem_liveIncidents.mpr ⟨(r.1.pooled.incidents i).mpr (by rw [hc]; rfl), hc⟩, ?_⟩
    rw [holdsPlatform, active, carries]
    exact covers

theorem foldl_max_le {α : Type} (f : α → Nat) (l : List α) (a n : Nat) :
    l.foldl (fun m e => max m (f e)) a ≤ n ↔ a ≤ n ∧ ∀ e ∈ l, f e ≤ n := by
  induction l generalizing a with
  | nil => simp
  | cons x xs ih => rw [List.foldl_cons, ih, Nat.max_le, List.forall_mem_cons, and_assoc]

/-- The delay of a platform is the least bound of the DELAYs that cover it (R73). -/
theorem delayAt_le {s : State} (r : s.Ready) {p n : Nat} :
    s.delayAt p ≤ n ↔ ∀ i v first last, s.Restricts i ⟨.delay v, first, last⟩ → s.covers first last p = true → v ≤ n := by
  rw [delayAt, foldl_max_le]
  constructor
  · rintro ⟨-, all⟩ i v first last ⟨c, hc, active, carries⟩ covers
    have le := all (i, c) (mem_liveIncidents.mpr ⟨(r.1.pooled.incidents i).mpr (by rw [hc]; rfl), hc⟩)
    simpa only [delayBy, active, carries, covers, if_true] using le
  · refine fun all => ⟨Nat.zero_le n, fun e he => ?_⟩
    unfold delayBy
    split
    · next active =>
      split
      · next v first last carries =>
        split
        · next covers => exact all e.1 v first last ⟨e.2, (mem_liveIncidents.mp he).2, active, carries⟩ covers
        · exact Nat.zero_le n
      · exact Nat.zero_le n
    · exact Nat.zero_le n

theorem covers_congr {s t : State} (tables : t.tables = s.tables) (a b p : Nat) : t.covers a b p = s.covers a b p := by
  have dist : ∀ a b, t.dist a b = s.dist a b := fun a b => by rw [State.dist, State.dist, ringSize, ringSize, tables]
  rw [covers, covers, dist, dist]

/-- Parts with the same tables and restrictions hold and delay the same platforms. -/
theorem held_congr {s t : State} (rs : s.Ready) (rt : t.Ready) (tables : t.tables = s.tables)
    (same : ∀ i r, t.Restricts i r ↔ s.Restricts i r) : t.held = s.held := by
  funext p
  rw [Bool.eq_iff_iff, held_iff rs, held_iff rt]
  simp only [same, covers_congr tables]

theorem delayAt_congr {s t : State} (rs : s.Ready) (rt : t.Ready) (tables : t.tables = s.tables)
    (same : ∀ i r, t.Restricts i r ↔ s.Restricts i r) (p : Nat) : t.delayAt p = s.delayAt p := by
  refine eq_of_forall_ge_iff fun n => ?_
  rw [delayAt_le rs, delayAt_le rt]
  simp only [same, covers_congr tables]

/-! ### The operations of a raise -/

theorem gentle_of_slots {s t : State} (calm : Calm s t) (slots : ∀ i, t.slot i = s.slot i) (trains : t.pool.trains = s.pool.trains)
    (platforms : t.platforms = s.platforms) (links : t.links = s.links) : Gentle tr s t where
  calm := calm
  records i := by rw [slots]; exact .refl tr _
  epochs i _ := by rw [slots]
  trainList := trains
  places p := by rw [platform, platform, platforms]; exact ⟨rfl, rfl⟩
  alarms p := by rw [platform, platform, platforms]
  directives e h _ := by rw [links]; exact h

theorem gentle_modIncident (s : State) (i : Nat) {f : Incident → Incident}
    (h : ∀ c, (f c).active = c.active ∧ (f c).restriction = c.restriction ∧ (f c).kind = c.kind) : Gentle tr s (s.modIncident i f) where
  calm := s.calm_modIncident i f
  records j := by
    rw [slot_modIncident]
    split
    · cases hr : (s.slot j).record with
      | incident c => exact h c
      | _ => exact .refl tr _
    · exact .refl tr _
  epochs j _ := by rw [slot_modIncident]; split <;> rfl
  trainList := rfl
  places _ := ⟨rfl, rfl⟩
  alarms _ := rfl
  directives _ h _ := h

theorem gentle_modAnn (s : State) (i : Nat) (f : Ann → Ann) : Gentle tr s (s.modAnn i f) where
  calm := s.calm_modAnn i f
  records j := by
    rw [slot_modAnn]
    split
    · cases hr : (s.slot j).record with
      | ann c => trivial
      | _ => exact .refl tr _
    · exact .refl tr _
  epochs j _ := by rw [slot_modAnn]; split <;> rfl
  trainList := rfl
  places _ := ⟨rfl, rfl⟩
  alarms _ := rfl
  directives _ h _ := h

theorem gentle_player (s : State) (p : Nat) {f : Platform → Platform}
    (h : ∀ x, (f x).occupant = x.occupant ∧ (f x).lastDep = x.lastDep ∧ (f x).owed.first = x.owed.first) : Gentle tr s (s.modPlatform p f) where
  calm := s.calm_modPlatform p f
  records _ := .refl tr _
  epochs _ _ := rfl
  trainList := rfl
  places q := ⟨platform_modPlatform_part Platform.occupant s p (fun x => (h x).1) q,
    platform_modPlatform_part Platform.lastDep s p (fun x => (h x).2.1) q⟩
  alarms q := platform_modPlatform_part (fun x => x.owed.first) s p (fun x => (h x).2.2) q
  directives _ h _ := h

theorem gentle_issuePlayer (s : State) (p : Nat) (d : Directive) : Gentle tr s (s.issuePlayer p d) where
  calm := s.calm_issuePlayer p d
  records _ := .refl tr _
  epochs _ _ := rfl
  trainList := rfl
  places _ := ⟨rfl, rfl⟩
  alarms _ := rfl
  directives _ h n := mem_issueInto h d (Nat.ne_of_lt (Nat.lt_of_lt_of_le n (Nat.le_add_right _ p)))

theorem gentle_stopCue (s : State) (p : Nat) (unsent : Bool) : Gentle tr s (s.stopCue p unsent) := by
  unfold stopCue
  dsimp only
  split
  · exact (s.gentle_issuePlayer p .stop).trans (gentle_player _ p fun _ => ⟨rfl, rfl, rfl⟩)
  · exact (s.gentle_issuePlayer p .stop).trans (gentle_player _ p fun _ => ⟨rfl, rfl, rfl⟩)

theorem gentle_preempt (s : State) (p : Nat) : Gentle tr s (s.preempt p) := by
  unfold preempt
  split
  · exact .refl tr s
  · split
    · exact .refl tr s
    · split
      · refine Gentle.trans ?_ (gentle_stopCue _ p _)
        unfold requeueCue
        split
        · exact s.gentle_modAnn _ _
        · exact .refl tr s
      · exact .refl tr s

/-- A slot is taken for a record that restricts nothing and is no train (R23). -/
theorem gentle_allocate {s t : State} {r : Rec} {i : Nat} (a : s.allocate r = some (t, i)) (h : s.Sound) (new : Rec.free.Gentle tr r) :
    Gentle tr s t where
  calm := (allocate_spec a).choose_spec.2.1
  records j := by
    by_cases hj : j = i
    · subst hj
      rw [allocate_slot_self a h, (allocate_free a h).2]
      exact new
    · rw [allocate_slot_ne a hj]; exact .refl tr _
  epochs j live := by
    have hj : j ≠ i := fun e => live (e ▸ (allocate_free a h).2)
    rw [allocate_slot_ne a hj]
  trainList := by obtain ⟨_, _, _, pool⟩ := allocate_spec a; rw [pool]
  places p := by rw [platform, platform, (allocate_rest a).1]; exact ⟨rfl, rfl⟩
  alarms p := by rw [platform, platform, (allocate_rest a).1]
  directives e h _ := by rw [(allocate_rest a).2.2.2]; exact h

theorem gentle_createAnn {s : State} (h : s.Sound) (b : Ann) : Gentle tr s (s.createAnn b) := by
  unfold createAnn
  split
  · exact .refl tr s
  · next t i a =>
    have linked : Gentle tr s (t.linkAnn b.platform i) := (gentle_allocate a h trivial).trans
      (gentle_of_slots (calm_linkAnn t b.platform i) (fun _ => rfl) rfl rfl rfl)
    dsimp only
    split
    · exact linked.trans (gentle_preempt _ _)
    · exact linked

theorem gentle_changeSeverity (s : State) (i v : Nat) : Gentle tr s (s.changeSeverity i v) := by
  unfold changeSeverity
  refine .trans (.trans (.trans (t := s.unlinkIncident i) ?_ (gentle_modIncident _ i (f := fun c => { c with severity := v }) fun _ => ⟨rfl, rfl, rfl⟩))
    (gentle_of_slots (calm_linkIncident _ i) (fun _ => rfl) rfl rfl rfl)) (gentle_modIncident _ i fun c => ?_)
  · exact gentle_of_slots (s.calm_unlinkIncident i) (fun _ => rfl) rfl rfl rfl
  · split <;> exact ⟨rfl, rfl, rfl⟩

end State

end Sys2Proof.Machine

/-! A raise without a restriction, and the service of owed work where no PLATFORM ALARM is owed, are gentle (R35, R126). -/

namespace Sys2Proof.Machine
open Sys2Proof

/-- Begins that do nothing while the held platforms stand as they are (R137). -/
def IdleBegins (begins : State.Begins) : Prop := ∀ a b : State, b.held = a.held → begins a b = b

/-- No PLATFORM ALARM is owed. -/
def State.AlarmFree (s : State) : Prop := ∀ p, (s.platform p).owed.first = none

namespace State
variable {tr : Prop}

/-! ### Begins -/

/-- Nothing is served where nothing has changed (R111). -/
theorem serveChanged_self (s : State) : serveChanged s s = s := by
  have none : (substationIndices.filter fun k =>
      decide ((s.substation k).queue ≠ (s.substation k).queue) || decide ((s.substation k).leases ≠ (s.substation k).leases)) = [] :=
    List.filter_eq_nil_iff.mpr fun k _ => by simp
  rw [serveChanged, none, List.foldl_nil]

theorem idle_holdsBegin : IdleBegins holdsBegin := fun a b held => by
  have quiet : (fun t : Train => !a.held (placeOf t) && b.held (placeOf t)) = fun _ => false := by
    funext t; rw [held]; simp
  have nobody : b.withdrawWhere (fun t => !a.held (placeOf t) && b.held (placeOf t)) (fun h => { h with restriction := true }) = b := by
    rw [quiet, withdrawWhere]
    simp
  unfold holdsBegin
  dsimp only
  rw [nobody, serveChanged_self]

theorem idle_holdsLater : IdleBegins holdsLater := fun _ _ _ => rfl

/-! ### Raises -/

theorem gentle_foldl {α : Type} {f : State → α → State} (l : List α)
    (hf : ∀ t, ∀ x ∈ l, t.Ready → Gentle tr t (f t x) ∧ (f t x).Ready) {s : State} (r : s.Ready) :
    Gentle tr s (l.foldl f s) ∧ (l.foldl f s).Ready := by
  induction l generalizing s with
  | nil => exact ⟨.refl tr s, r⟩
  | cons x xs ih =>
    obtain ⟨step, ready⟩ := hf s x (List.mem_cons_self ..) r
    obtain ⟨rest, last⟩ := ih (fun t y hy => hf t y (List.mem_cons_of_mem _ hy)) ready
    exact ⟨step.trans rest, last⟩

theorem gentle_copyOrOwe {s : State} (h : s.Sound) (i p : Nat) : Gentle tr s (s.copyOrOwe i p) := by
  unfold copyOrOwe
  split
  · exact .refl tr s
  · split
    · exact .refl tr s
    · split
      · exact gentle_createAnn h _
      · exact s.gentle_modIncident i fun _ => ⟨rfl, rfl, rfl⟩

theorem gentle_copyStep {s : State} (r : s.Ready) (i : Nat) : Gentle tr s (s.copyStep i) := by
  unfold copyStep
  split
  · exact .refl tr s
  · split
    · exact .refl tr s
    · next a _ =>
      split
      · exact .refl tr s
      · have copied : Run raiseWork s (s.modIncident i fun c => { c with copied := true }) :=
          s.does_modIncident i _ (fun _ => ⟨rfl, rfl, rfl, rfl⟩) (fun _ => .inr fun _ => .inl) (by intro; rfl) (.inr r)
        refine (s.gentle_modIncident i (f := fun c => { c with copied := true }) fun _ => ⟨rfl, rfl, rfl⟩).trans (gentle_foldl _ (fun t p hp rt => ?_) (copied.ready id r)).1
        have copy : Run raiseWork t (t.copyOrOwe i p) := t.does_copyOrOwe i (.inr (copyPlatforms_lt r hp)) (.inr rt)
        exact ⟨gentle_copyOrOwe rt.1 i p, copy.ready id rt⟩

theorem gentle_putOwed (s : State) {k : Kind} {loc : Location} (fits : k.Fits loc) (mild : k ≠ .platformAlarm)
    (may : ∀ h, loc = .train h → tr) (v : Option Nat) : Gentle tr s (s.putOwed k loc v) := by
  cases loc with
  | platform p =>
    obtain rfl : k = .platformConflict := fits.resolve_left mild
    exact s.gentle_player p fun _ => ⟨rfl, rfl, rfl⟩
  | sect i | substation i =>
    exact { calm := s.calm_putOwed _ _ _, records := fun _ => .refl tr _, epochs := fun _ _ => rfl, trainList := rfl,
            places := fun _ => ⟨rfl, rfl⟩, alarms := fun _ => rfl, directives := fun _ h _ => h }
  | train h =>
    unfold putOwed
    dsimp only
    split
    · refine { calm := calm_modTrain _ _ _, records := fun j => ?_, epochs := fun j _ => ?_, trainList := rfl,
               places := fun _ => ⟨rfl, rfl⟩, alarms := fun _ => rfl, directives := fun _ h _ => h }
      · rw [slot_modTrain]
        split
        · cases hr : (s.slot j).record with
          | train x => exact ⟨_, rfl, .inl (may h rfl)⟩
          | _ => exact .refl tr _
        · exact .refl tr _
      · rw [slot_modTrain]; split <;> rfl
    · exact .refl tr s

section
variable {begins : Begins} (idle : IdleBegins begins)
include idle

theorem gentle_createWith {s : State} (r : s.Ready) {c : Incident} (room : s.incidentRoom = true) (free : c.restriction = none)
    (copies : c.owedCopies = []) : Gentle tr s (s.createWith begins c).1 := by
  unfold createWith
  split
  · exact .refl tr s
  · next t i a =>
    have new : Run raiseWork s (t.linkIncident i) :=
      .of_record (.newIncident _ t i a (of_decide_eq_true (Bool.and_eq_true_iff.mp room).2) copies fun _ => escalation_ahead)
    have ready := new.ready id r
    have linked : Gentle tr s (t.linkIncident i) := (gentle_allocate a r.1 free).trans
      (gentle_of_slots (calm_linkIncident t i) (fun _ => rfl) rfl rfl rfl)
    have held : (t.linkIncident i).held = s.held := held_congr r ready linked.calm.tables (restricts_gentle linked)
    dsimp only
    rw [idle _ _ held]
    exact linked.trans (gentle_copyStep ready i)

omit idle in
theorem alarmHold_mild {s : State} {i : Nat} {c : Incident} (hc : s.incident? i = some c) (mild : c.kind ≠ .platformAlarm) :
    s.alarmHold begins i = s := by
  unfold alarmHold
  rw [hc]
  dsimp only
  split
  · next kind _ _ => exact absurd kind mild
  · rfl

omit idle in
/-- A raise that coalesces into another kind than PLATFORM ALARM (R126, R127). -/
theorem gentle_coalesce {s : State} (r : s.Ready) {i : Nat} {c : Incident} (hc : s.incident? i = some c) (mild : c.kind ≠ .platformAlarm)
    (automatic : c.kind ≠ .operator) (v : Nat) : Gentle tr s (s.coalesce begins i c v) := by
  have counted : Gentle tr s (s.modIncident i fun c => { c with occurrences := min 255 (c.occurrences + 1), causeEnded := false }) :=
    s.gentle_modIncident i fun _ => ⟨rfl, rfl, rfl⟩
  have now := incident?_modIncident_of hc fun c => { c with occurrences := min 255 (c.occurrences + 1), causeEnded := false }
  unfold coalesce
  dsimp only
  generalize hu : (s.modIncident i fun c => { c with occurrences := min 255 (c.occurrences + 1), causeEnded := false }) = u at counted now ⊢
  split
  · have risen : (u.changeSeverity i v).incident? i = some _ :=
      (incident?_changeSeverity u i v i).trans (by rw [if_pos rfl, now]; rfl)
    rw [alarmHold_mild risen mild]
    have up := counted.trans (u.gentle_changeSeverity i v)
    split
    · exact up
    · have run : Run raiseWork s (u.changeSeverity i v) := by
        refine Does.trans (t := u) (hu ▸ s.does_modIncident i _ (fun _ => ⟨rfl, rfl, rfl, rfl⟩) fun _ => .inr fun _ => .inl)
          (does_changeSeverity u i v (.inr (by rw [now]; rfl)) (.inr (.inr fun d hd => ?_))) (.inr r)
        cases now.symm.trans hd
        exact automatic
      exact up.trans (gentle_copyStep (run.ready id r) i)
  · rw [alarmHold_mild now mild]; exact counted

theorem gentle_raiseWith {s : State} (r : s.Ready) {k : Kind} {loc : Location} (fits : k.Fits loc) (mild : k ≠ .platformAlarm)
    (may : ∀ h, loc = .train h → tr) (v : Nat) : Gentle tr s (s.raiseWith begins k loc v) := by
  unfold raiseWith
  split
  · next i c active =>
    obtain ⟨live, -, kind, -, automatic⟩ := activeAt_eq_some active
    exact gentle_coalesce r live (fun e => mild (kind.symm.trans e)) automatic v
  · split
    · next room =>
      refine gentle_createWith idle r (Bool.and_eq_true_iff.mp room).1 ?_ rfl
      unfold automaticIncident
      split
      · exact absurd rfl mild
      · rfl
    · exact s.gentle_putOwed fits mild may _

end

/-! ### Owed work -/

theorem AlarmFree.gentle {s t : State} (h : s.AlarmFree) (g : Gentle tr s t) : t.AlarmFree := fun p => (g.alarms p).trans (h p)

theorem gentle_serveOwedIncident {s : State} (r : s.Ready) (none_ : s.AlarmFree) {k : Kind} {loc : Location} (fits : k.Fits loc) :
    Gentle True s (s.serveOwedIncident k loc) := by
  unfold serveOwedIncident
  split
  · exact .refl True s
  · next v owes =>
    have mild : k ≠ .platformAlarm := fun alarm => by
      subst alarm
      cases loc with
      | platform p => cases owes.symm.trans (none_ p)
      | _ => rcases fits with e | e <;> cases e
    split
    · have taken : Run (fun w => w = .ends) s (s.putOwed k loc none) := .of_record (.putOwed k loc none (.inr ⟨rfl, .inr rfl⟩))
      exact (s.gentle_putOwed fits mild (fun _ _ => trivial) none).trans
        (gentle_raiseWith idle_holdsLater (taken.ready Work.noConfusion r) fits mild (fun _ _ => trivial) v)
    · exact .refl True s

theorem gentle_serveOwedCopy {s : State} (r : s.Ready) (i p : Nat) : Gentle tr s (s.serveOwedCopy i p) := by
  unfold serveOwedCopy
  split
  · exact .refl tr s
  · split
    · exact .refl tr s
    · split
      · have taken : Gentle tr s (s.modIncident i fun c => { c with owedCopies := c.owedCopies.erase p }) :=
          s.gentle_modIncident i fun _ => ⟨rfl, rfl, rfl⟩
        have run : Run raiseWork s (s.modIncident i fun c => { c with owedCopies := c.owedCopies.erase p }) :=
          s.does_modIncident i _ (fun _ => ⟨rfl, rfl, rfl, rfl⟩) (fun _ => .inr fun _ hq => .inl (List.mem_of_mem_erase hq)) (by intro; rfl)
            (.inr r)
        dsimp only
        split
        · exact taken
        · exact taken.trans (gentle_createAnn (run.ready id r).1 _)
      · exact .refl tr s

theorem gentle_foldl_owedIncidents (l : List (Kind × Location)) (all : ∀ e ∈ l, e.1.Fits e.2) {s : State} (r : s.Ready) (free : s.AlarmFree) :
    Gentle True s (l.foldl (fun t e => t.serveOwedIncident e.1 e.2) s) := by
  induction l generalizing s with
  | nil => exact .refl True s
  | cons e l ih =>
    have gentle := gentle_serveOwedIncident r free (all e (List.mem_cons_self ..))
    have run : Run owedWork s (s.serveOwedIncident e.1 e.2) := does_serveOwedIncident (on := owedWork) trivial trivial rfl s e.1 e.2 (.inr r)
    exact gentle.trans (ih (fun d hd => all d (List.mem_cons_of_mem _ hd)) (run.ready Work.noConfusion r) (free.gentle gentle))

/-- Where no PLATFORM ALARM is owed, the service of owed work is gentle (R35). -/
theorem gentle_serveOwed {s : State} (r : s.Ready) (free : s.AlarmFree) : Gentle True s s.serveOwed := by
  have fold := gentle_foldl_owedIncidents s.owedOrder (fun _ => owedOrder_fits) r free
  have run : Run owedWork s (s.owedOrder.foldl (fun t e => t.serveOwedIncident e.1 e.2) s) :=
    does_foldl_owedIncidents (on := owedWork) trivial trivial rfl _ s (.inr r)
  have ready := run.ready Work.noConfusion r
  have held := held_congr r ready fold.calm.tables (restricts_gentle fold)
  unfold serveOwed serveOwedIncidents
  rw [idle_holdsBegin _ _ held]
  refine fold.trans (gentle_foldl (f := fun (u : State) (e : Nat × Nat) => u.serveOwedCopy e.1 e.2) _ (fun t e he rt => ⟨gentle_serveOwedCopy rt e.1 e.2, ?_⟩) ready).1
  obtain ⟨c, hc, hm⟩ := List.mem_flatMap.mp he
  obtain ⟨p, hp, rfl⟩ := List.mem_map.mp hm
  have place : p < Config.platformEntries := ready.1.placed.copies c.1 c.2 (mem_liveIncidents.mp hc).2 p hp
  have copy : Run raiseWork t (t.serveOwedCopy c.1 p) := t.does_serveOwedCopy c.1 (.inr place) (.inr rt)
  exact copy.ready id rt

end State

end Sys2Proof.Machine

/-! An arrival at the origin (R50, R52, R64, R65). -/

namespace Sys2Proof.Machine
open Sys2Proof

namespace State

/-- The train of a vehicle identity that no other live train carries is found (R45, R49). -/
theorem trainByVehicle_of {s : State} (h : s.Sound) (once : s.VehiclesOnce) {i v : Nat} {x : Train} (hx : s.train? i = some x)
    (carries : x.vehicle = v) : s.trainByVehicle v = some (i, x) := by
  have found : (s.trainByVehicle v).isSome = true := by
    rw [trainByVehicle, List.find?_isSome]
    exact ⟨(i, x), mem_liveTrains.mpr ⟨(h.pooled.trains i).mpr (by rw [hx]; rfl), hx⟩, beq_iff_eq.mpr carries⟩
  obtain ⟨⟨j, y⟩, hy⟩ := Option.isSome_iff_exists.mp found
  obtain ⟨live, own⟩ := trainByVehicle_live hy
  obtain rfl := once i j x y hx live (carries.trans own.symm)
  cases hx.symm.trans live
  exact hy

/-- A passage report of a live train at a configured platform reaches the train (R49). -/
theorem takePassage_train {s : State} (h : s.Sound) (once : s.VehiclesOnce) {i v : Nat} {x : Train} (hx : s.train? i = some x)
    (carries : x.vehicle = v) (low : 1 ≤ v) (high : v ≤ 16777215) (p time : Nat) (owner : State → Nat → Train → Nat → Bool → State) :
    s.counted.takePassage v p time owner = owner s.counted i x (s.effective time).1 (s.effective time).2 := by
  unfold takePassage
  dsimp only
  rw [if_pos (vehicleOk_iff.mpr ⟨low, high⟩), show s.counted.trainByVehicle v = some (i, x) from trainByVehicle_of h once hx carries]
  rfl

theorem exec_arrive {s : State} (h : s.Sound) (once : s.VehiclesOnce) (op : s.part = .operating) {i v p time : Nat} {x : Train}
    (hx : s.train? i = some x) (carries : x.vehicle = v) (low : 1 ≤ v) (high : v ≤ 16777215) (hp : p < s.tables.header.platforms)
    (ht : time < 864000) : exec (.arrive v p time) s =
      .next (endEvent s.counted (s.counted.takeArrive p i x (s.effective time).1 (s.effective time).2)) := by
  have ok : s.platformOk p = true := decide_eq_true hp
  refine (congrArg Host.Outcome.next (takeReport_taken op ht (s.platformOk p) fun t => t.takePassage v p time fun u i x a b =>
    u.takeArrive p i x a b)).trans ?_
  rw [if_pos ok, takePassage_train h once hx carries low high]

/-- An event that retires no record and leaves every train but that of slot `i`, which is not HELD, ends with the selections. -/
theorem selecting_endEvent_of_one {b s : State} {i : Nat} (others : ∀ j, j ≠ i → s.train? j = b.train? j)
    (own : ∀ y, s.train? i = some y → y.state ≠ .held)
    (live : ∀ j, (b.slot j).record.kind ≠ .free → (s.slot j).record.kind ≠ .free ∧ (s.slot j).epoch = (b.slot j).epoch) :
    Selecting s (endEvent b s) :=
  selecting_endEvent (freedSince_eq_nil fun j y hy free => by
    by_cases hj : j = i
    · subst hj
      exact absurd (beq_iff_eq.mp (Bool.and_eq_true_iff.mp free).1) (own y hy)
    · exact ⟨y, (others j hj).symm.trans hy, free⟩) (retiredBetween_eq_false live)

/-- What the occupant rule makes of a part (R52). -/
structure Occupies (i p : Nat) (y : Train) (s t : State) : Prop where
  calm      : Calm s t
  own       : t.train? i = some (if (s.platform p).occupant = none then y else { y with holds := { y.holds with conflict := true } })
  others    : ∀ j, j ≠ i → t.train? j = s.train? j
  trainList : t.pool.trains = s.pool.trains
  live      : ∀ j, (s.slot j).record.kind ≠ .free → (t.slot j).record.kind ≠ .free ∧ (t.slot j).epoch = (s.slot j).epoch
  occupant  : (t.platform p).occupant = some ((s.platform p).occupant.getD (s.handle i))
  entry     : Aloof y → s.NoEntry i → t.NoEntry i
  alarms    : ∀ q, (t.platform q).owed.first = (s.platform q).owed.first
  called    : (s.platform p).occupant ≠ none → Called .platformConflict (.platform p) t
  alone     : (s.platform p).occupant = none → t = s.modPlatform p fun x => { x with occupant := some (s.handle i) }

theorem kind_modTrain (s : State) (i : Nat) (f : Train → Train) (j : Nat) :
    ((s.modTrain i f).slot j).record.kind = (s.slot j).record.kind ∧ ((s.modTrain i f).slot j).epoch = (s.slot j).epoch := by
  rw [slot_modTrain]
  split
  · refine ⟨?_, rfl⟩
    dsimp only
    cases (s.slot j).record <;> rfl
  · exact ⟨rfl, rfl⟩

theorem occupies_occupy {s : State} (r : s.Ready) {i p : Nat} (hp : p < Config.platformEntries) {y : Train} (hy : s.train? i = some y) :
    Occupies i p y s (s.occupy i p) := by
  have there : p = p ∧ p < s.platforms.length := ⟨rfl, r.1.sized.2.2.1 ▸ hp⟩
  unfold occupy
  split
  · next free =>
    refine { calm := s.calm_modPlatform p _, own := ?_, others := fun _ _ => rfl, trainList := rfl, live := fun _ h => ⟨h, rfl⟩,
             occupant := ?_, entry := fun _ h => h, alarms := platform_modPlatform_part (fun x => x.owed.first) s p fun _ => rfl,
             called := fun taken => absurd free taken, alone := fun _ => rfl }
    · rw [if_pos free]; exact hy
    · rw [platform_modPlatform, if_pos there, free]; rfl
  · next h taken =>
    have marked : Run (fun w => w = .trains) s (s.modTrain i fun t => { t with holds := { t.holds with conflict := true } }) :=
      does_conflict (on := fun w => w = .trains) rfl s i true (.inr r)
    have ready := marked.ready Work.noConfusion r
    generalize hu : (s.modTrain i fun t => { t with holds := { t.holds with conflict := true } }) = u at ready ⊢
    have raised : Gentle False u (u.autoRaise .platformConflict (.platform p) 5) :=
      gentle_raiseWith idle_holdsBegin ready (k := .platformConflict) (loc := .platform p) (Or.inr rfl) (by decide) (fun _ e => nomatch e) 5
    have kinds := fun j => kind_modTrain s i (fun t => { t with holds := { t.holds with conflict := true } }) j
    rw [hu] at kinds
    refine { calm := (hu ▸ calm_modTrain s i _ : Calm s u).trans raised.calm, own := ?_, others := fun j hj => (raised.trains j).trans ?_,
             trainList := raised.trainList.trans (by rw [← hu]; rfl), live := fun j live => ?_, occupant := ?_,
             entry := fun aloof none => ?_, alarms := fun q => (raised.alarms q).trans (by rw [← hu]; rfl),
             called := fun _ => called_autoRaise (by decide) (by decide) ready (show u.Locates (.platform p) from hp) 5, alone := fun free => ?_ }
    · rw [if_neg (by rw [taken]; exact nofun), raised.trains, ← hu, train?_modTrain_of hy]
    · rw [← hu]; exact train?_modTrain_ne s _ (Ne.symm hj)
    · obtain ⟨kind, epoch⟩ := kinds j
      obtain ⟨still, same⟩ := raised.live (i := j) (by rw [kind]; exact live)
      exact ⟨still, same.trans epoch⟩
    · rw [(raised.places p).1, taken, ← hu]
      exact taken
    · have raises : Run raiseWork u (u.autoRaise .platformConflict (.platform p) 5) := does_autoRaise trivial trivial _ _ _ _ (.inr ready)
      have marked : u.train? i = some { y with holds := { y.holds with conflict := true } } := by rw [← hu]; exact train?_modTrain_of hy _
      exact (raises.untouched id id ready id marked aloof (noEntry_of_substations (by rw [← hu]; rfl) none)).1
    · rw [taken] at free; cases free

/-- What the beginning of a dwell makes of a part (R65, R66). -/
structure Dwells (i d : Nat) (saturated : Bool) (note : ClampNote) (z : Train) (s t : State) : Prop where
  calm      : Calm s t
  own       : t.train? i = some { z with
    depTime := some d, saturated := saturated, clamp := note, depDl := some (s.departureDeadline d), state := .dwelling }
  others    : ∀ j, j ≠ i → t.train? j = s.train? j
  trainList : t.pool.trains = s.pool.trains
  incidents : ∀ j, t.incident? j = s.incident? j
  live      : ∀ j, (s.slot j).record.kind ≠ .free → (t.slot j).record.kind ≠ .free ∧ (t.slot j).epoch = (s.slot j).epoch
  platforms : t.platforms = s.platforms
  fixed     : FixedKept s t
  shown     : ∀ p, z.position = some p → (s.platform p).occupant = some (s.handle i) → (p, Directive.dwell d) ∈ t.links.queue

theorem dwells_beginDwell {s : State} {i : Nat} {z : Train} (hz : s.train? i = some z) (d : Nat) (saturated : Bool) (note : ClampNote) :
    Dwells i d saturated note z s (s.beginDwell i d saturated note) := by
  unfold beginDwell
  rw [hz]
  dsimp only
  generalize hu : (s.modTrain i fun t => { t with
    depTime := some d, saturated := saturated, clamp := note, depDl := some (s.departureDeadline d), state := .dwelling }) = u
  have own : u.train? i = some { z with
      depTime := some d, saturated := saturated, clamp := note, depDl := some (s.departureDeadline d), state := .dwelling } := by
    rw [← hu]; exact train?_modTrain_of hz _
  have kept : ∀ w : State, w.pool = u.pool → w.platforms = u.platforms → FixedKept u w → Calm u w →
      (∀ p, z.position = some p → (s.platform p).occupant = some (s.handle i) → (p, Directive.dwell d) ∈ w.links.queue) →
      Dwells i d saturated note z s w := fun w pool platforms fixed calm shown =>
    { calm := (hu ▸ calm_modTrain s i _ : Calm s u).trans calm
      own := (train?_of_pool pool i).trans own
      others := fun j hj => (train?_of_pool pool j).trans (by rw [← hu]; exact train?_modTrain_ne s _ (Ne.symm hj))
      trainList := by rw [pool, ← hu]; rfl
      incidents := fun j => (incident?_of_slot (show w.slot j = u.slot j by rw [slot, slot, pool])).trans (hu ▸ incident?_modTrain ..)
      live := fun j live => by
        have kinds := kind_modTrain s i (fun t => { t with
          depTime := some d, saturated := saturated, clamp := note, depDl := some (s.departureDeadline d), state := .dwelling }) j
        rw [hu] at kinds
        rw [show w.slot j = u.slot j by rw [slot, slot, pool], kinds.1]
        exact ⟨live, kinds.2⟩
      platforms := platforms.trans (by rw [← hu]; rfl)
      fixed := by
        have same : FixedKept s u := by rw [← hu]; exact ⟨rfl, rfl, rfl⟩
        exact ⟨fixed.sects.trans same.sects, fixed.substations.trans same.substations, fixed.control.trans same.control⟩
      shown := shown }
  unfold issueForTrain
  split
  · next hidden =>
    refine kept u rfl rfl ⟨rfl, rfl, rfl⟩ (.refl u) fun p place occupant => ?_
    obtain ⟨-, released⟩ := Bool.and_eq_true_iff.mp hidden
    have at_ : placeOf z = p := by rw [placeOf, place]; rfl
    have mine : (u.platform p).occupant = some (s.handle i) := by rw [← hu]; exact occupant
    rw [at_, occupantReleased, mine] at released
    dsimp only at released
    rw [show u.train? (s.handle i).slot = _ from own] at released
    cases released
  · refine kept _ rfl rfl ⟨rfl, rfl, rfl⟩ (calm_issueIndicator u _ _) fun p place _ => ?_
    have at_ : placeOf z = p := by rw [placeOf, place]; rfl
    rw [at_]
    exact mem_issueInto_self u.links.queue p (.dwell d)

/-- A train that takes its place at its origin (R50). -/
def atOrigin (s : State) (t : Train) (a : Nat) (clamped : Bool) (x : Train) : Train :=
  { x with position := some t.origin, lastArr := some a, schedArr := s.originArrival t.origin t.tripStart,
           lateness := diff (s.originArrival t.origin t.tripStart) a, skip := 0, approached := false, timeClamped := clamped }

theorem arriveAtOrigin_eq (s : State) (i : Nat) (t : Train) (a : Nat) (clamped : Bool) : s.arriveAtOrigin i t a clamped =
    ((s.modTrain i (s.atOrigin t a clamped)).occupy i t.origin).beginDwell i (s.originDeparture t.origin a t.tripStart) false
      .unclamped := rfl

theorem ready_counted {s : State} (h : s.Sound) (op : s.part = .operating) : s.counted.Ready :=
  ⟨sound_of_pool_of_sized (s := s) (t := s.counted) h.sized h.header rfl h, op⟩

/-- The work of an arrival or a departure and of the end of its event. -/
def passageWork : Work → Prop
  | .serve | .withdraw | .ends | .passage | .trains => True
  | _ => False

theorem ready_endEvent {s : State} (r : s.Ready) (b : State) : (endEvent b s).Ready := by
  have run : Run passageWork s (endEvent b s) := does_endEvent trivial trivial trivial b s (.inr r)
  exact run.ready id r

theorem ready_atOrigin {s : State} (r : s.Ready) (i : Nat) {x : Train} (ok : s.platformOk x.origin = true) (a : Nat) (clamped : Bool) :
    (s.modTrain i (s.atOrigin x a clamped)).Ready := by
  have place : Run passageWork s (s.modTrain i (s.atOrigin x a clamped)) :=
    (spares_place (p := x.origin) (f := s.atOrigin x a clamped) trivial trivial (.inr ok) (fun _ => rfl) fun _ => ⟨rfl, rfl, rfl, rfl, rfl⟩).does (.inr r)
  exact place.ready id r

end State

open State

/-- Settles O27: the train takes its place, a platform that is taken raises the conflict and no restriction, the dwell begins, and the
event ends with the selections. -/
theorem arriveAtTheOriginBeginsTheDwell : Obligations.ArriveAtTheOriginBeginsTheDwell := by
  intro s i v p time x sound once op hx awaiting carries low high origin hp ht
  subst origin
  have counted := ready_counted sound op
  have entries : x.origin < Config.platformEntries := Nat.lt_of_lt_of_le hp counted.platforms_le
  have ok : s.counted.platformOk x.origin = true := decide_eq_true hp
  have run := exec_arrive sound once op hx carries low high hp ht
  intro a m d sched
  generalize (s.effective time).2 = c at run ⊢
  have took : s.counted.takeArrive x.origin i x a c = s.counted.arriveAtOrigin i x a c := by
    unfold takeArrive
    rw [awaiting]
    exact if_pos rfl
  have arrives : Run passageWork s.counted (s.counted.arriveAtOrigin i x a c) :=
    does_arriveAtOrigin trivial trivial trivial trivial s.counted hx awaiting a c (.inr ok) (.inr counted)
  have ready := arrives.ready id counted
  rw [took] at run
  rw [arriveAtOrigin_eq] at run ready
  have own := train?_modTrain_of (s := s.counted) hx (s.counted.atOrigin x a c)
  have occupies := occupies_occupy (ready_atOrigin counted i ok a c) entries own
  have kinds := kind_modTrain s.counted i (s.counted.atOrigin x a c)
  have handle : (s.counted.modTrain i (s.counted.atOrigin x a c)).handle i = s.handle i := handle_modTrain ..
  have elsewhere : ∀ j, j ≠ i → (s.counted.modTrain i (s.counted.atOrigin x a c)).train? j = s.train? j := fun j hj =>
    train?_modTrain_ne s.counted _ (Ne.symm hj)
  have calm0 : Calm s.counted (s.counted.modTrain i (s.counted.atOrigin x a c)) := calm_modTrain ..
  have fixed0 : FixedKept s (s.counted.modTrain i (s.counted.atOrigin x a c)) := ⟨rfl, rfl, rfl⟩
  have place : ∀ q, (s.counted.modTrain i (s.counted.atOrigin x a c)).platform q = s.platform q := fun _ => rfl
  have list : (s.counted.modTrain i (s.counted.atOrigin x a c)).pool.trains = s.pool.trains := rfl
  generalize s.counted.modTrain i (s.counted.atOrigin x a c) = b at *
  generalize b.occupy i x.origin = u at *
  have dwells := dwells_beginDwell occupies.own d false .unclamped
  have dep : s.counted.originDeparture x.origin a x.tripStart = d := rfl
  rw [dep] at run ready
  generalize u.beginDwell i d false .unclamped = w at *
  have others : ∀ j, j ≠ i → w.train? j = s.train? j := fun j hj =>
    ((dwells.others j hj).trans (occupies.others j hj)).trans (elsewhere j hj)
  have tail : Selecting w (endEvent s.counted w) := by
    refine selecting_endEvent_of_one others (fun y hy => ?_) fun j live => ?_
    · cases dwells.own.symm.trans hy
      exact TrainState.noConfusion
    · obtain ⟨kind, epoch⟩ := kinds j
      obtain ⟨live1, epoch1⟩ := occupies.live j (by rw [kind]; exact live)
      obtain ⟨live2, epoch2⟩ := dwells.live j live1
      exact ⟨live2, (epoch2.trans epoch1).trans epoch⟩
  have calm : Calm s.counted (endEvent s.counted w) := ((calm0.trans occupies.calm).trans dwells.calm).trans tail.calm
  have called : (s.platform x.origin).occupant ≠ none → Called .platformConflict (.platform x.origin) (endEvent s.counted w) := fun taken => by
    refine called_endEvent (k := .platformConflict) (loc := .platform x.origin) (Or.inr rfl) (by decide) s.counted ready (show w.Locates (.platform x.origin) from entries) ?_
    refine (occupies.called (by rw [place]; exact taken)).imp (fun ⟨j, y, live, rest⟩ => ⟨j, y, (dwells.incidents j).trans live, rest⟩) fun owes => ?_
    rwa [owed, platform, dwells.platforms, ← platform]
  have last := ready_endEvent ready s.counted
  generalize endEvent s.counted w = t at *
  have occupant : (w.platform x.origin).occupant = some ((s.platform x.origin).occupant.getD (s.handle i)) := by
    rw [platform, dwells.platforms, ← platform, occupies.occupant, place, handle]
  refine ⟨t, run, ?_, ?_, fun j hj => (tail.trains j).trans (others j hj), ?_, ?_, fun taken => ?_, fun free => ?_⟩
  · rw [tail.trains, dwells.own, departureDeadline, show u.lineTime = s.lineTime from (calm0.trans occupies.calm).lineTime, place]
    split <;> rfl
  · have same : (t.platform x.origin).occupant = (w.platform x.origin).occupant :=
      (congrArg Platform.occupant (tail.ring x.origin) : (t.platform x.origin).ring.occupant = (w.platform x.origin).ring.occupant)
    exact same.trans occupant
  · exact tail.trainList.trans (dwells.trainList.trans (occupies.trainList.trans list))
  · exact calm.toSteady.badCount
  · exact activeAt_of_called last (called taken)
  · have alone := occupies.alone (by rw [place]; exact free)
    have fixed : FixedKept b u := by rw [alone]; exact ⟨rfl, rfl, rfl⟩
    have shown : (x.origin, Directive.dwell d) ∈ w.links.queue := by
      refine dwells.shown x.origin ?_ ?_
      · split <;> rfl
      · rw [occupies.occupant, place, free, alone]; rfl
    refine ⟨⟨?_, ?_, ?_⟩, tail.directives _ shown (.inl entries)⟩
    · exact ((tail.fixed.sects.trans dwells.fixed.sects).trans fixed.sects).trans fixed0.sects
    · exact ((tail.fixed.substations.trans dwells.fixed.substations).trans fixed.substations).trans fixed0.substations
    · exact ((tail.fixed.control.trans dwells.fixed.control).trans fixed.control).trans fixed0.control

end Sys2Proof.Machine

/-! The approach check of a departure (R158, R159), and what a departure leaves standing (R54). -/

namespace Sys2Proof.Machine
open Sys2Proof

/-- The minutes of an approach announcement, between 0 and 99 (R159). -/
theorem minutesUp_eq (d : Int) : minutesUp d = (max 0 (min 99 ((d + 599) / 600))).toNat := by
  unfold minutesUp clampInt
  split
  · omega
  · split <;> omega

namespace State

/-- The approach announcement of a train, as it is created (R159). -/
def approachAnn (s : State) (i n : Nat) (z : Train) : Ann :=
  { platform := n, message := (s.platformCfg n).approachCode, priority := 1, origin := .approach, train := some (s.handle i),
    minutes := some (minutesUp (diff s.lineTime (z.predicted.getD s.lineTime))) }

/-- An approach announcement has room (R159, R27, R28). -/
def approachRoom (s : State) (n : Nat) : Bool := s.aboveReserve && s.queueRoom n

theorem approachRoom_iff {s : State} {n : Nat} : s.approachRoom n = true ↔ 17 ≤ s.freeCount ∧ (s.queue n).length < 16 := by
  simp only [approachRoom, aboveReserve, queueRoom, Bool.and_eq_true, decide_eq_true_eq, Config.reserve, Config.queueCap]
  omega

/-- What an approach announcement makes of a part (R159). -/
structure Announces (i n : Nat) (z : Train) (s t : State) : Prop where
  own       : t.train? i = some { z with approachDl := none, approached := if s.approachRoom n then true else z.approached }
  others    : ∀ j, j ≠ i → t.train? j = s.train? j
  trainList : t.pool.trains = s.pool.trains
  live      : ∀ j, (s.slot j).record.kind ≠ .free → (t.slot j).record.kind ≠ .free ∧ (t.slot j).epoch = (s.slot j).epoch
  platforms : t.platforms = s.platforms
  subs      : t.substations = s.substations
  made      : s.approachRoom n = true → ∃ j, t.ann? j = some (s.approachAnn i n z) ∧ j ∈ t.queue n

/-- An announcement of another priority than 3 takes a slot and a place in the queue of its platform (R26, R27). -/
theorem createAnn_placed {s : State} (h : s.Sound) (free : s.pool.free ≠ []) {b : Ann} (mild : b.priority ≠ 3)
    (place : b.platform < Config.platformEntries) : ∃ j, (s.createAnn b).ann? j = some b ∧ j ∈ (s.createAnn b).queue b.platform ∧
      (s.createAnn b).platforms = s.platforms ∧ (s.createAnn b).substations = s.substations := by
  obtain ⟨t, j, a⟩ := allocate_isSome free (.ann b)
  have made : s.createAnn b = t.linkAnn b.platform j := by
    rw [createAnn, a]
    exact if_neg mild
  have queues : b.platform < t.pool.queues.length := by
    obtain ⟨_, _, _, pool⟩ := allocate_spec a
    rw [pool]
    exact h.sized.2.1 ▸ place
  rw [made]
  refine ⟨j, ann?_eq_some.mpr (show (t.slot j).record = .ann b by rw [allocate_slot_self a h]), ?_, (allocate_rest a).1,
    (allocate_rest a).2.2.1⟩
  rw [linkAnn, queue_modQueue, if_pos ⟨rfl, queues⟩]
  exact mem_insertBefore.mpr (.inl rfl)

theorem announces_announceApproach {s : State} (r : s.Ready) {i n : Nat} (hn : n < Config.platformEntries) {z : Train}
    (hz : s.train? i = some z) : Announces i n z s (s.announceApproach i n) := by
  unfold announceApproach
  rw [hz]
  dsimp only
  have off : Run (fun w => w = .trains) s (s.modTrain i fun t => { t with approachDl := none }) :=
    does_modTrain (on := fun w => w = .trains) rfl s i _ (fun _ => ⟨rfl, rfl, rfl, rfl, rfl⟩) (fun _ => rfl) (fun _ => .inl rfl) (fun _ => .inl rfl)
      (fun _ => .inr rfl) (by intro; rfl) (.inr r)
  have sound := (off.ready Work.noConfusion r).1
  have own := train?_modTrain_of hz fun t => { t with approachDl := none }
  have others : ∀ j, j ≠ i → (s.modTrain i fun t => { t with approachDl := none }).train? j = s.train? j := fun j hj =>
    train?_modTrain_ne s _ (Ne.symm hj)
  have kinds := kind_modTrain s i fun t => { t with approachDl := none }
  have free : (s.modTrain i fun t => { t with approachDl := none }).pool.free = s.pool.free := rfl
  have list : (s.modTrain i fun t => { t with approachDl := none }).pool.trains = s.pool.trains := rfl
  have platforms : (s.modTrain i fun t => { t with approachDl := none }).platforms = s.platforms := rfl
  have subs : (s.modTrain i fun t => { t with approachDl := none }).substations = s.substations := rfl
  generalize (s.modTrain i fun t => { t with approachDl := none }) = u at *
  by_cases room : s.approachRoom n = true
  · rw [if_pos (show (s.aboveReserve && s.queueRoom n) = true from room)]
    have some_ : u.pool.free ≠ [] := fun empty => by
      have count := (approachRoom_iff.mp room).1
      rw [freeCount, ← free, empty] at count
      cases count
    have gentle : Gentle False u (u.createAnn (s.approachAnn i n z)) := gentle_createAnn sound _
    obtain ⟨j, here, queued, platforms', subs'⟩ := createAnn_placed sound some_ (b := s.approachAnn i n z) (show 1 ≠ 3 by decide) hn
    have marks := kind_modTrain (u.createAnn (s.approachAnn i n z)) i fun t => { t with approached := true }
    refine { own := ?_, others := fun k hk => ?_, trainList := gentle.trainList.trans list, live := fun k live => ?_,
             platforms := platforms'.trans platforms, subs := subs'.trans subs, made := fun _ => ⟨j, (ann?_modTrain ..).trans here, queued⟩ }
    · rw [if_pos room]
      exact train?_modTrain_of ((gentle.trains i).trans own) _
    · exact (train?_modTrain_ne _ _ (Ne.symm hk)).trans ((gentle.trains k).trans (others k hk))
    · obtain ⟨kind, epoch⟩ := kinds k
      obtain ⟨kind2, epoch2⟩ := marks k
      obtain ⟨still, same⟩ := gentle.live (i := k) (by rw [kind]; exact live)
      exact ⟨fun gone => still (kind2.symm.trans gone), (epoch2.trans same).trans epoch⟩
  · rw [if_neg (show ¬ (s.aboveReserve && s.queueRoom n) = true from room)]
    refine { own := by rw [if_neg room]; exact own, others := others, trainList := list, live := fun k live => ?_, platforms := platforms, subs := subs,
             made := fun yes => absurd yes room }
    obtain ⟨kind, epoch⟩ := kinds k
    exact ⟨by rw [kind]; exact live, epoch⟩

end State

end Sys2Proof.Machine

/-! A departure (R53 to R56). -/

namespace Sys2Proof.Machine
open Sys2Proof

namespace State

/-- A train that sets off from `p` at `a` (R54 steps 3 to 6). -/
def setOff (s : State) (p a : Nat) (clamped : Bool) (x : Train) : Train :=
  { x with lastDep := some a, holds := x.holds.afterDeparture, depTime := none, depDl := none, permitReq := none,
           schedArr := later x.schedArr (((s.vals p).d0 + (s.vals p).run : Nat) : Int), predicted := some (later a (s.vals p).run),
           overdueDl := some (s.overdueDeadline (later a (s.vals p).run)), timeClamped := clamped, state := .running }

theorem departed_eq (s : State) (i p a : Nat) (clamped : Bool) :
    s.departed i p a clamped = (s.vacated i p a).1.modTrain i (s.setOff p a clamped) := rfl

/-- What a departure from `p` has made of the part: `z` is the train that has set off, as the part stood at `s`. -/
structure Left (s : State) (i p a : Nat) (z : Train) (u : State) : Prop where
  ready     : u.Ready
  steady    : Steady s u
  control   : u.control = s.control
  own       : ∃ o, u.train? i = some { z with owed := o }
  running   : z.state = .running
  entry     : u.NoEntry i
  handle    : u.handle i = s.handle i
  lastDep   : (u.platform p).lastDep = some a
  occupant  : (u.platform p).occupant ≠ some (s.handle i)
  sects     : ∀ j, (u.sect j).own = if j = (s.platformCfg p).runSection ∧ j < s.sects.length then
    { (s.sect j).own with occupants := (s.sect j).occupants + 1 } else (s.sect j).own
  trainList : u.pool.trains = s.pool.trains

theorem Left.aloof {s u : State} {i p a : Nat} {z : Train} (h : Left s i p a z u) (o : Owed) : Aloof { z with owed := o } := by
  unfold Aloof
  rw [h.running]
  exact ⟨TrainState.noConfusion, TrainState.noConfusion⟩

/-- Work that serves queues, raises and ends incidents leaves a departure as it is. -/
theorem Left.run {s u v : State} {i p a : Nat} {z : Train} (h : Left s i p a z u) (calm : Calm u v) (r : Run owedWork u v) :
    Left s i p a z v := by
  obtain ⟨o, own⟩ := h.own
  obtain ⟨entry, o', own'⟩ := r.untouched Work.noConfusion id h.ready id own (h.aloof o) h.entry
  have ring := r.ring
  exact {
    ready := r.ready Work.noConfusion h.ready
    steady := h.steady.trans calm.toSteady
    control := calm.control.trans h.control
    own := ⟨o', own'⟩
    running := h.running
    entry := entry
    handle := (r.kin Work.noConfusion h.ready own).1.trans h.handle
    lastDep := (ring.lastDep.resolve_left id p).trans h.lastDep
    occupant := by rw [ring.occupant.resolve_left id p]; exact h.occupant
    sects := fun j => (calm.sect_core j).trans (h.sects j)
    trainList := r.trains.trans h.trainList }

/-- A section that the departed train has entered. -/
theorem Left.modTrain {s u : State} {i p a : Nat} {z : Train} (h : Left s i p a z u) {f : Train → Train} (ready : (u.modTrain i f).Ready)
    (f_owed : ∀ o, f { z with owed := o } = { f z with owed := o }) (running : (f z).state = .running) : Left s i p a (f z) (u.modTrain i f) := by
  obtain ⟨o, own⟩ := h.own
  exact {
    ready := ready
    steady := h.steady.trans (calm_modTrain u i f).toSteady
    control := h.control
    own := ⟨o, by rw [train?_modTrain_of own, f_owed]⟩
    running := running
    entry := h.entry
    handle := (handle_modTrain ..).trans h.handle
    lastDep := h.lastDep
    occupant := h.occupant
    sects := h.sects
    trainList := h.trainList }

/-- What the approach check at `n` makes of a train that arrives there at `g` (R158). -/
def approachMark (s : State) (n g : Nat) (z : Train) : Train :=
  if (s.platformCfg n).approachLead = 0 || !(s.platformCfg n).player then z
  else if diff s.lineTime g ≤ (s.platformCfg n).approachLead then
    { z with approachDl := none, approached := if s.approachRoom n then true else z.approached }
  else { z with approachDl := some (later g (-((s.platformCfg n).approachLead : Int))) }

/-- The approach check, with the prediction of the train (R158). -/
theorem approachCheck_of {s : State} {i g : Nat} {z : Train} (hz : s.train? i = some z) (predicted : z.predicted = some g) (n : Nat) :
    s.approachCheck i n =
      if (s.platformCfg n).approachLead = 0 || !(s.platformCfg n).player then s
      else if diff s.lineTime g ≤ (s.platformCfg n).approachLead then s.announceApproach i n
      else s.modTrain i fun t => { t with approachDl := some (later g (-((s.platformCfg n).approachLead : Int))) } := by
  unfold approachCheck
  rw [hz]
  dsimp only
  rw [predicted]

theorem Left.approachCheck {s u : State} {i p a g : Nat} {z : Train} (h : Left s i p a z u) (predicted : z.predicted = some g)
    {n : Nat} (hn : n < Config.platformEntries) : Left s i p a (u.approachMark n g z) (u.approachCheck i n) := by
  obtain ⟨o, own⟩ := h.own
  have run : Run passageWork u (u.approachCheck i n) := does_approachCheck trivial trivial u i (.inr hn) (.inr h.ready)
  have ready := run.ready id h.ready
  have cases_ := approachCheck_of own predicted n
  unfold approachMark
  split
  · next off => rw [cases_, if_pos off]; exact h
  · next lead =>
    rw [if_neg lead] at cases_
    split
    · next near =>
      rw [if_pos near] at cases_
      rw [cases_] at ready ⊢
      have said := announces_announceApproach h.ready hn own
      exact {
        ready := ready
        steady := h.steady.trans (calm_announceApproach u i n).toSteady
        control := (calm_announceApproach u i n).control.trans h.control
        own := ⟨o, said.own⟩
        running := h.running
        entry := noEntry_of_substations said.subs h.entry
        handle := by
          have live : (u.slot i).record.kind ≠ .free := by rw [train?_eq_some.mp own]; exact RecKind.noConfusion
          rw [State.handle, (said.live i live).2]
          exact h.handle
        lastDep := by rw [platform, said.platforms]; exact h.lastDep
        occupant := by rw [platform, said.platforms]; exact h.occupant
        sects := fun j => ((calm_announceApproach u i n).sect_core j).trans (h.sects j)
        trainList := said.trainList.trans h.trainList }
    · next far =>
      rw [if_neg far] at cases_
      rw [cases_] at ready ⊢
      exact h.modTrain ready (fun _ => rfl) h.running

theorem setOff_congr {s t : State} (tables : t.tables = s.tables) (control : t.control = s.control) (time : t.lineTime = s.lineTime)
    (p a : Nat) (clamped : Bool) : t.setOff p a clamped = s.setOff p a clamped := by
  funext x
  unfold setOff overdueDeadline vals line patternVals patternLine
  rw [tables, control, time]

/-- The platform that a train has left (R53, R54). -/
theorem vacated_place {s : State} {p : Nat} (hp : p < s.platforms.length) (i a : Nat) :
    ((s.vacated i p a).1.platform p).lastDep = some a ∧ ((s.vacated i p a).1.platform p).occupant ≠ some (s.handle i) := by
  have left : (s.modPlatform p fun x => { x with lastDep := some a }).platform p = { s.platform p with lastDep := some a } := by
    rw [platform_modPlatform, if_pos ⟨rfl, hp⟩]
  have same : (s.modPlatform p fun x => { x with lastDep := some a }).handle i = s.handle i := rfl
  have hp' : p < (s.modPlatform p fun x => { x with lastDep := some a }).platforms.length := by
    rw [(s.calm_modPlatform p fun x => { x with lastDep := some a }).platforms]; exact hp
  unfold vacated
  dsimp only
  generalize (s.modPlatform p fun x => { x with lastDep := some a }) = u at *
  split
  · rcases u.promote_cases i p with ⟨-, h⟩ | ⟨w, hw, h⟩
    · rw [h, platform_modPlatform, if_pos ⟨rfl, hp'⟩, left]
      exact ⟨rfl, nofun⟩
    · have place : ((u.promote i p).1).platform p = { u.platform p with occupant := some (u.handle w.1) } := by
        rw [h]
        exact (platform_modPlatform u p _ p).trans (if_pos ⟨rfl, hp'⟩)
      rw [place, left]
      refine ⟨rfl, fun e => (mem_waiters.mp hw).2.1 ?_⟩
      exact congrArg Handle.slot (Option.some.inj e)
  · next other =>
    rw [left]
    refine ⟨rfl, fun e => other ?_⟩
    rw [isOccupant, left, same]
    exact beq_iff_eq.mpr e

/-- A train out of the queues, if it stood in one (R55). -/
structure OutOfWait (i : Nat) (x : Train) (s t : State) : Prop where
  ready     : t.Ready
  calm      : Calm s t
  own       : ∃ o, t.train? i = some { x with owed := o }
  entry     : t.NoEntry i
  handle    : t.handle i = s.handle i
  trainList : t.pool.trains = s.pool.trains

theorem outOfWait_leaves {s : State} (r : s.Ready) (q : s.QueuesOk) {i : Nat} {x : Train} (hx : s.train? i = some x) :
    OutOfWait i x s (s.outOfWait i x) := by
  by_cases waiting : x.state = .waiting
  · obtain ⟨entry, own⟩ := outOfWait_waiting r q hx waiting
    have run : Run (fun w => w = .serve ∨ w = .leave i) s (s.outOfWait i x) := does_outOfWait (.inl rfl) s i x (.inr rfl) (.inr r)
    have smooth : ¬ (Work.rough = .serve ∨ Work.rough = .leave i) := by simp
    refine ⟨run.ready smooth r, ?_, own, entry, (run.kin smooth r hx).1, run.trains⟩
    rw [outOfWait, if_pos waiting]
    exact (s.calm_dropEntries _).trans (calm_serveChanged _ _)
  · rw [outOfWait, if_neg waiting]
    exact ⟨r, .refl s, ⟨x.owed, hx⟩, q.noEntry hx waiting, rfl, rfl⟩

/-- The part once the train has set off and has entered its section (R54 steps 1 to 6). -/
def underway (s : State) (i : Nat) (x : Train) (p a : Nat) (clamped : Bool) : State :=
  ((s.outOfWait i x).departed i p a clamped).modSect ((s.outOfWait i x).runSectionOf x) fun y => { y with occupants := y.occupants + 1 }

/-- The work of a train that sets off. -/
def settingOff : Work → Prop
  | .passage | .trains | .departs | .leave _ => True
  | _ => False

theorem calm_vacated (s : State) (i p a : Nat) : Calm s (s.vacated i p a).1 := by
  unfold vacated
  dsimp only
  split
  · exact (s.calm_modPlatform p _).trans (calm_promote _ i p)
  · exact s.calm_modPlatform p _

theorem left_underway {s : State} (r : s.Ready) (q : s.QueuesOk) {i p : Nat} {x : Train} (hx : s.train? i = some x)
    (place : x.position = some p) (hp : p < Config.platformEntries) (a : Nat) (clamped : Bool) :
    Left s i p a (s.setOff p a clamped x) (s.underway i x p a clamped) := by
  have out := outOfWait_leaves r q hx
  unfold underway
  generalize s.outOfWait i x = b at *
  obtain ⟨o, own⟩ := out.own
  have section_ : b.runSectionOf x = (s.platformCfg p).runSection := by
    rw [runSectionOf, placeOf, place, platformCfg, platformCfg, out.calm.tables]; rfl
  have same := setOff_congr out.calm.tables out.calm.control out.calm.lineTime p a clamped
  have bound : p < b.platforms.length := by rw [out.ready.1.sized.2.2.1]; exact hp
  obtain ⟨train, handle, subs⟩ := b.vacated_self i p a
  obtain ⟨lastDep, occupant⟩ := vacated_place bound i a
  have sets : Run settingOff b (b.departed i p a clamped) :=
    does_departed trivial trivial trivial b i p a clamped (.inr (.inr ⟨trivial, .inr out.entry⟩)) (.inr out.ready)
  have enters : Run settingOff (b.departed i p a clamped)
      ((b.departed i p a clamped).modSect (b.runSectionOf x) fun y => { y with occupants := y.occupants + 1 }) :=
    does_occupants trivial _ _ (· + 1) (.inr (sets.ready id out.ready))
  have calm : Calm s (b.departed i p a clamped) := (out.calm.trans (b.calm_vacated i p a)).trans (calm_modTrain _ i _)
  have steady : Steady s ((b.departed i p a clamped).modSect (b.runSectionOf x) fun y => { y with occupants := y.occupants + 1 }) :=
    calm.toSteady.trans (steady_modSect _ _ _)
  have gone : (b.departed i p a clamped).train? i = some (b.setOff p a clamped { x with owed := o }) :=
    train?_modTrain_of (train.trans own) _
  rw [same] at gone
  exact {
    ready := (sets.trans enters).ready id out.ready
    steady := steady
    control := calm.control
    own := ⟨o, gone⟩
    running := rfl
    entry := noEntry_of_substations (t := b.departed i p a clamped) subs out.entry
    handle := (handle_modTrain ..).trans (handle.trans out.handle)
    lastDep := lastDep
    occupant := out.handle ▸ occupant
    sects := fun j => by
      have length : (b.departed i p a clamped).sects.length = s.sects.length := calm.sects
      have core : ((b.departed i p a clamped).sect j).own = (s.sect j).own := calm.sect_core j
      have count : ((b.departed i p a clamped).sect j).occupants = (s.sect j).occupants := by
        have counts := congrArg Sect.occupants core
        exact counts
      rw [sect_modSect, section_, length]
      by_cases here : (s.platformCfg p).runSection = j ∧ j < s.sects.length
      · rw [if_pos here, if_pos ⟨here.1.symm, here.2⟩, ← core, ← count]; rfl
      · rw [if_neg here, if_neg fun h => here ⟨h.1.symm, h.2⟩]; exact core
    trainList := sets.trains.trans out.trainList }

end State

end Sys2Proof.Machine

/-! An accepted DEPART (R54 to R56, R158, R159). -/

namespace Sys2Proof.Machine
open Sys2Proof

namespace State

theorem exec_depart {s : State} (h : s.Sound) (once : s.VehiclesOnce) (op : s.part = .operating) {i v p time : Nat} {x : Train}
    (hx : s.train? i = some x) (carries : x.vehicle = v) (low : 1 ≤ v) (high : v ≤ 16777215) (hp : p < s.tables.header.platforms)
    (ht : time < 864000) : exec (.depart v p time) s =
      .next (endEvent s.counted (s.counted.takeDepart p i x (s.effective time).1 (s.effective time).2)) := by
  have ok : s.platformOk p = true := decide_eq_true hp
  refine (congrArg Host.Outcome.next (takeReport_taken op ht (s.platformOk p) fun t => t.takePassage v p time fun u i x a b =>
    u.takeDepart p i x a b)).trans ?_
  rw [if_pos ok, takePassage_train h once hx carries low high]

/-- The part as the approach check finds it (R54 steps 1 to 7). -/
def judged (s : State) (i : Nat) (x : Train) (p a : Nat) (clamped : Bool) : State :=
  (s.underway i x p a clamped).judgeConflict i p (((s.outOfWait i x).vacated i p a).2 || waitsAt x p)

theorem departTrain_judged (s : State) (i : Nat) (x : Train) (p a : Nat) (clamped : Bool) : s.departTrain i x p a clamped =
    if x.state = .released then (s.judged i x p a clamped).approachCheck i ((s.outOfWait i x).next p)
    else ((s.judged i x p a clamped).approachCheck i ((s.outOfWait i x).next p)).autoRaise .unauthorised (.train (s.handle i)) 5 := rfl

theorem left_judged {s : State} (r : s.Ready) (q : s.QueuesOk) {i p : Nat} {x : Train} (hx : s.train? i = some x)
    (place : x.position = some p) (hp : p < Config.platformEntries) (a : Nat) (clamped : Bool) :
    Left s i p a (s.setOff p a clamped x) (s.judged i x p a clamped) := by
  have left := left_underway r q hx place hp a clamped
  exact left.run (calm_judgeConflict _ _ _ _) (does_judgeConflict (on := owedWork) rfl _ _ _ _ (.inr left.ready))

/-- A departure, with the approach check and the raise of UNAUTHORISED DEPARTURE (R54 to R56). -/
theorem left_departTrain {s : State} (r : s.Ready) (q : s.QueuesOk) {i p : Nat} {x : Train} (hx : s.train? i = some x)
    (place : x.position = some p) (hp : p < Config.platformEntries) (a : Nat) (clamped : Bool) :
    Left s i p a ((s.judged i x p a clamped).approachMark (s.next p) (later a (s.vals p).run) (s.setOff p a clamped x))
        (s.departTrain i x p a clamped) ∧
      (x.state ≠ .released → Called .unauthorised (.train (s.handle i)) (s.departTrain i x p a clamped)) := by
  have next : (s.outOfWait i x).next p = s.next p := by
    rw [State.next, State.next, ringSize, ringSize, (outOfWait_leaves r q hx).calm.tables]
  have left := (left_judged r q hx place hp a clamped).approachCheck (g := later a (s.vals p).run) rfl (r.next_lt p)
  rw [departTrain_judged, next]
  split
  · next released => exact ⟨left, fun no => absurd released no⟩
  · have raises : Run owedWork _ (((s.judged i x p a clamped).approachCheck i (s.next p)).autoRaise .unauthorised (.train (s.handle i)) 5) :=
      does_autoRaise trivial trivial _ _ _ _ (.inr left.ready)
    refine ⟨left.run (calm_autoRaise _ _ _ _) raises, fun _ => ?_⟩
    obtain ⟨o, own⟩ := left.own
    exact called_autoRaise (by decide) (by decide) left.ready (loc := .train (s.handle i)) ⟨left.handle, by rw [show (s.handle i).slot = i from rfl, own]; rfl⟩ 5

/-- A RELEASED train that leaves neither a wait nor a waiter behind sets off without other work (R53, R54). -/
theorem judged_of_released {s : State} {i p : Nat} {x : Train} (released : x.state = .released) (apart : x.holds.conflict = false)
    (alone : ∀ e ∈ s.liveTrains, e.1 ≠ i → waitsAt e.2 p = false) (a : Nat) (clamped : Bool) :
    ∃ b : State, b.pool = s.pool ∧ b.tables = s.tables ∧ b.lineTime = s.lineTime ∧ s.judged i x p a clamped =
      (b.modTrain i (s.setOff p a clamped)).modSect (s.runSectionOf x) fun y => { y with occupants := y.occupants + 1 } := by
  have out : s.outOfWait i x = s := by rw [outOfWait, released]; rfl
  have still : waitsAt x p = false := by simp [waitsAt, apart]
  have nobody : (s.modPlatform p fun y => { y with lastDep := some a }).waiters i p = [] :=
    List.filter_eq_nil_iff.mpr fun e he waits => by
      obtain ⟨other, waits⟩ := Bool.and_eq_true_iff.mp waits
      rw [alone e he (bne_iff_ne.mp other)] at waits
      cases waits
  have left : (s.vacated i p a).2 = false ∧ (s.vacated i p a).1.pool = s.pool ∧ (s.vacated i p a).1.tables = s.tables ∧
      (s.vacated i p a).1.lineTime = s.lineTime := by
    unfold vacated
    dsimp only
    split
    · rcases (s.modPlatform p fun y => { y with lastDep := some a }).promote_cases i p with ⟨-, h⟩ | ⟨w, hw, -⟩
      · rw [h]; exact ⟨rfl, rfl, rfl, rfl⟩
      · rw [nobody] at hw; cases hw
    · exact ⟨rfl, rfl, rfl, rfl⟩
  obtain ⟨none, pool, tables, time⟩ := left
  refine ⟨_, pool, tables, time, ?_⟩
  rw [judged, underway, out, none, still, departed_eq]
  rfl

theorem approachMark_parts (s : State) (n g : Nat) (z : Train) :
    ∃ dl marked, s.approachMark n g z = { z with approachDl := dl, approached := marked } := by
  unfold approachMark
  split
  · exact ⟨z.approachDl, z.approached, rfl⟩
  · split
    · exact ⟨_, _, rfl⟩
    · exact ⟨_, _, rfl⟩

theorem approachMark_quiet {s : State} {n : Nat} (off : (s.platformCfg n).approachLead = 0 ∨ (s.platformCfg n).player = false) (g : Nat)
    (z : Train) : s.approachMark n g z = z :=
  if_pos (by rcases off with e | e <;> simp [e])

section
variable {s : State} {n g : Nat} (lead : (s.platformCfg n).approachLead ≠ 0) (player : (s.platformCfg n).player = true)
include lead player

theorem approach_on : ¬ (decide ((s.platformCfg n).approachLead = 0) || !(s.platformCfg n).player) = true := by simp [lead, player]

theorem approachMark_far (far : (s.platformCfg n).approachLead < diff s.lineTime g) (z : Train) :
    s.approachMark n g z = { z with approachDl := some (later g (-((s.platformCfg n).approachLead : Int))) } := by
  unfold approachMark
  rw [if_neg (approach_on lead player), if_neg (by omega)]

theorem approachMark_near (near : diff s.lineTime g ≤ (s.platformCfg n).approachLead) (z : Train) :
    s.approachMark n g z = { z with approachDl := none, approached := if s.approachRoom n then true else z.approached } := by
  unfold approachMark
  rw [if_neg (approach_on lead player), if_pos near]

end

/-- The announcement of a departure that leaves no other work behind (R158, R159). -/
theorem announced_departTrain {s : State} (r : s.Ready) (q : s.QueuesOk) {i p : Nat} {x : Train} (hx : s.train? i = some x)
    (place : x.position = some p) (hp : p < Config.platformEntries) (released : x.state = .released) (apart : x.holds.conflict = false)
    (alone : ∀ e ∈ s.liveTrains, e.1 ≠ i → waitsAt e.2 p = false) (a : Nat) (clamped : Bool)
    (lead : (s.platformCfg (s.next p)).approachLead ≠ 0) (player : (s.platformCfg (s.next p)).player = true)
    (near : diff s.lineTime (later a (s.vals p).run) ≤ (s.platformCfg (s.next p)).approachLead) :
    (s.judged i x p a clamped).approachRoom (s.next p) = s.approachRoom (s.next p) ∧
      (s.approachRoom (s.next p) = true → ∃ j b, (endEvent s (s.departTrain i x p a clamped)).ann? j = some b ∧
        j ∈ (endEvent s (s.departTrain i x p a clamped)).queue (s.next p) ∧ b.platform = s.next p ∧
        b.message = (s.platformCfg (s.next p)).approachCode ∧ b.priority = 1 ∧ b.origin = .approach ∧ b.train = some (s.handle i) ∧
        b.minutes = some (minutesUp (diff s.lineTime (later a (s.vals p).run))) ∧ b.mode = .once) := by
  have out : s.outOfWait i x = s := by rw [outOfWait, released]; rfl
  have left := left_judged r q hx place hp a clamped
  obtain ⟨o, own⟩ := left.own
  obtain ⟨b, pool, tables, time, eq⟩ := judged_of_released released apart alone a clamped
  have tables' : (s.judged i x p a clamped).tables = s.tables := left.steady.tables
  have time' : (s.judged i x p a clamped).lineTime = s.lineTime := left.steady.lineTime
  have cfg : (s.judged i x p a clamped).platformCfg (s.next p) = s.platformCfg (s.next p) := by rw [platformCfg, tables']; rfl
  have departs : s.departTrain i x p a clamped = (s.judged i x p a clamped).announceApproach i (s.next p) := by
    rw [departTrain_judged, if_pos released, out, approachCheck_of own rfl, cfg, time', if_neg (approach_on lead player), if_pos near]
  have room : (s.judged i x p a clamped).approachRoom (s.next p) = s.approachRoom (s.next p) := by
    have reads : ∀ u : State, u.pool.free = s.pool.free → u.pool.queues = s.pool.queues →
        u.approachRoom (s.next p) = s.approachRoom (s.next p) := fun u free queues => by
      rw [approachRoom, approachRoom, aboveReserve, aboveReserve, freeCount, freeCount, queueRoom, queueRoom, queue, queue, free, queues]
    rw [eq]
    exact reads _ (show b.pool.free = _ by rw [pool]) (show b.pool.queues = _ by rw [pool])
  have others : ∀ j, j ≠ i → (s.judged i x p a clamped).train? j = s.train? j := fun j hj => by
    rw [eq]
    exact (train?_modTrain_ne b _ (Ne.symm hj)).trans (train?_of_pool pool j)
  have live : ∀ j, (s.slot j).record.kind ≠ .free → ((s.judged i x p a clamped).slot j).record.kind ≠ .free ∧
      ((s.judged i x p a clamped).slot j).epoch = (s.slot j).epoch := fun j live => by
    obtain ⟨kind, epoch⟩ := kind_modTrain b i (s.setOff p a clamped) j
    have slot : b.slot j = s.slot j := by rw [State.slot, State.slot, pool]
    rw [eq]
    exact ⟨fun gone => live ((slot ▸ kind.symm).trans gone), epoch.trans (by rw [slot])⟩
  have said := announces_announceApproach left.ready (r.next_lt p) own
  have mine := left.handle
  generalize s.judged i x p a clamped = u at *
  rw [departs]
  generalize u.announceApproach i (s.next p) = w at *
  have tail : Selecting w (endEvent s w) := by
    refine selecting_endEvent_of_one (fun j hj => (said.others j hj).trans (others j hj)) (fun y hy => ?_) fun j alive => ?_
    · cases said.own.symm.trans hy
      exact TrainState.noConfusion
    · obtain ⟨live1, epoch1⟩ := live j alive
      obtain ⟨live2, epoch2⟩ := said.live j live1
      exact ⟨live2, epoch2.trans epoch1⟩
  refine ⟨room, fun made => ?_⟩
  obtain ⟨j, ann, queued⟩ := said.made (room.trans made)
  obtain ⟨c, hc⟩ := tail.anns j _ ann
  refine ⟨j, _, hc, (tail.queue (s.next p)).symm ▸ queued, rfl, congrArg PlatformCfg.approachCode cfg, rfl, rfl, congrArg some mine, ?_, rfl⟩
  exact congrArg (fun n => some (minutesUp (diff n (later a (s.vals p).run)))) time'

end State

open State

/-- Settles O30: the departed train runs, and what is left of the event neither touches it nor gives it an entry. -/
theorem departBeginsARun : Obligations.DepartBeginsARun := by
  intro s i v p time x sound queues once op hx stands place carries low high hp ht a n
  have counted := ready_counted sound op
  have entries : p < Config.platformEntries := Nat.lt_of_lt_of_le hp counted.platforms_le
  have queues' : s.counted.QueuesOk := ⟨queues.waiting, queues.once⟩
  have run := exec_depart sound once op hx carries low high hp ht
  have took : s.counted.takeDepart p i x (s.effective time).1 (s.effective time).2 = s.counted.departTrain i x p a (s.effective time).2 :=
    if_pos (by rw [stands, place]; simp)
  rw [took] at run
  generalize (s.effective time).2 = c at run ⊢
  obtain ⟨left, called⟩ := left_departTrain counted queues' hx place entries a c
  have ends : Run owedWork _ (endEvent s.counted (s.counted.departTrain i x p a c)) :=
    does_endEvent (on := owedWork) trivial trivial rfl _ _ (.inr left.ready)
  have last := left.run (calm_endEvent _ _) ends
  have judged := left_judged counted queues' hx place entries a c
  have cfg : (s.counted.judged i x p a c).platformCfg (s.next p) = s.platformCfg (s.next p) := by rw [platformCfg, judged.steady.tables]; rfl
  have time' : (s.counted.judged i x p a c).lineTime = s.lineTime := judged.steady.lineTime
  obtain ⟨o, own⟩ := last.own
  have announced := fun released apart alone lead player h =>
    announced_departTrain counted queues' hx place entries released apart alone a c lead player h
  obtain ⟨dl, marked, parts⟩ := approachMark_parts (s.counted.judged i x p a c) (s.next p) n (s.counted.setOff p a c x)
  have mark : (s.counted.judged i x p a c).approachMark (s.counted.next p) (later a (s.counted.vals p).run) (s.counted.setOff p a c x) =
      { s.counted.setOff p a c x with approachDl := dl, approached := marked } := parts
  rw [mark] at own
  have read : ∀ {w : Train}, (s.counted.judged i x p a c).approachMark (s.next p) n (s.counted.setOff p a c x) = w →
      dl = w.approachDl ∧ marked = w.approached := fun h => by
    rw [← h, parts]; exact ⟨rfl, rfl⟩
  have steady : Steady s.counted _ := last.steady
  refine ⟨_, _, run, own, rfl, place, rfl, rfl, rfl, rfl, rfl, rfl, rfl, rfl, rfl, rfl, last.lastDep, last.occupant, ?_, last.sects, ?_,
    ⟨fun h => ?_, fun lead player h => ?_, fun lead player h => ⟨?_, fun released apart alone => ⟨?_, fun made => ?_⟩⟩⟩,
    last.trainList, last.control⟩
  · exact fun k e he same => last.entry k e he (congrArg Handle.slot same)
  · intro unauthorised
    refine activeAt_of_called last.ready (called_endEvent (k := .unauthorised) (loc := .train (s.handle i)) (Or.inr rfl) (by decide) _
      left.ready ?_ (called unauthorised))
    obtain ⟨o', own'⟩ := left.own
    exact ⟨left.handle, by rw [show (s.handle i).slot = i from rfl, own']; rfl⟩
  · have same := read (approachMark_quiet (by rw [cfg]; exact h) n _)
    exact same
  · have same := read (approachMark_far (by rw [cfg]; exact lead) (by rw [cfg]; exact player) (by rw [cfg, time']; exact h) _)
    rw [cfg] at same
    exact same
  · have same := read (approachMark_near (by rw [cfg]; exact lead) (by rw [cfg]; exact player) (by rw [cfg, time']; exact h) _)
    exact same.1
  · obtain ⟨room, -⟩ := announced released apart alone lead player h
    have same := (read (approachMark_near (by rw [cfg]; exact lead) (by rw [cfg]; exact player) (by rw [cfg, time']; exact h) _)).2
    refine same.trans ?_
    have made : s.counted.approachRoom (s.counted.next p) = true ↔ 17 ≤ s.freeCount ∧ (s.queue (s.next p)).length < 16 := approachRoom_iff
    simp only [show (s.counted.judged i x p a c).approachRoom (s.next p) = s.counted.approachRoom (s.counted.next p) from room, made]
    rfl
  · obtain ⟨-, ann⟩ := announced released apart alone lead player h
    obtain ⟨j, b, hb, queued, platform, message, priority, origin, train, minutes, mode⟩ := ann (approachRoom_iff.mpr made)
    exact ⟨j, b, hb, queued, platform, message, priority, origin, train, minutes.trans (congrArg some (minutesUp_eq _)), mode⟩

end Sys2Proof.Machine

/-! The hold-removal checks leave every record but the trains, and every directive but those of the trains checked (R80). -/

namespace Sys2Proof.Machine
open Sys2Proof

/-- What the checks of trains leave of a part; `shows`: the indicators their directives are for. -/
structure Checks (shows : Nat → Prop) (s t : State) : Prop where
  kinds      : ∀ j, (t.slot j).record.kind = (s.slot j).record.kind ∧ (t.slot j).epoch = (s.slot j).epoch
  incidents  : ∀ j, t.incident? j = s.incident? j
  places     : ∀ j y, t.train? j = some y → ∃ x, s.train? j = some x ∧ y.position = x.position
  platforms  : t.platforms = s.platforms
  directives : ∀ e ∈ s.links.queue, ¬ shows e.1 → e ∈ t.links.queue

namespace Checks
variable {shows : Nat → Prop} {s t u : State}

theorem refl (s : State) : Checks shows s s where
  kinds _ := ⟨rfl, rfl⟩
  incidents _ := rfl
  places _ y hy := ⟨y, hy, rfl⟩
  platforms := rfl
  directives _ h _ := h

theorem trans (a : Checks shows s t) (b : Checks shows t u) : Checks shows s u where
  kinds j := ⟨(b.kinds j).1.trans (a.kinds j).1, (b.kinds j).2.trans (a.kinds j).2⟩
  incidents j := (b.incidents j).trans (a.incidents j)
  places j z hz := by
    obtain ⟨y, hy, zy⟩ := b.places j z hz
    obtain ⟨x, hx, yx⟩ := a.places j y hy
    exact ⟨x, hx, zy.trans yx⟩
  platforms := b.platforms.trans a.platforms
  directives e h n := b.directives e (a.directives e h n) n

theorem modTrain (s : State) (i : Nat) {f : Train → Train} (place : ∀ x, (f x).position = x.position) : Checks shows s (s.modTrain i f) where
  kinds j := State.kind_modTrain s i f j
  incidents j := State.incident?_modTrain ..
  places j y hy := by
    rw [State.train?_modTrain] at hy
    split at hy
    · obtain ⟨x, hx, rfl⟩ := Option.map_eq_some_iff.mp hy
      exact ⟨x, hx, place x⟩
    · exact ⟨y, hy, rfl⟩
  platforms := rfl
  directives _ h _ := h

theorem of_pool (pool : t.pool = s.pool) (platforms : t.platforms = s.platforms) (links : t.links = s.links) :
    Checks shows s t where
  kinds j := by rw [State.slot, State.slot, pool]; exact ⟨rfl, rfl⟩
  incidents j := State.incident?_of_slot (by rw [State.slot, State.slot, pool])
  places j y hy := ⟨y, (State.train?_of_pool pool j).symm.trans hy, rfl⟩
  platforms := platforms
  directives _ h _ := by rw [links]; exact h

theorem issue (s : State) {p : Nat} (hp : shows p) (d : Directive) : Checks shows s (s.issueIndicator p d) where
  kinds _ := ⟨rfl, rfl⟩
  incidents _ := rfl
  places _ y hy := ⟨y, hy, rfl⟩
  platforms := rfl
  directives _ h n := State.mem_issueInto h d fun same => n (same ▸ hp)

end Checks

namespace State
variable {shows : Nat → Prop}

theorem checks_issueForTrain (s : State) (x : Train) (d : Directive) (hp : shows (placeOf x)) : Checks shows s (s.issueForTrain x d) := by
  unfold issueForTrain
  split
  · exact .refl s
  · exact .issue s hp d

theorem checks_grant (s : State) (k : Nat) (h : Handle) (w : Nat) (hp : ∀ x, s.train? h.slot = some x → shows (placeOf x)) :
    Checks shows s (s.grant k h w) := by
  unfold grant
  dsimp only
  split
  · exact .of_pool rfl rfl rfl
  · next x hx =>
    refine Checks.trans ?_ (.issue _ (hp x hx) _)
    refine Checks.trans ?_ (.modTrain _ h.slot fun _ => rfl)
    exact .of_pool rfl rfl rfl

theorem checks_requestPermit (s : State) (i : Nat) (hp : ∀ x, s.train? i = some x → shows (placeOf x)) : Checks shows s (s.requestPermit i) := by
  cases hx : s.train? i with
  | none => rw [requestPermit_none fun y hy => by cases hx.symm.trans hy]; exact .refl s
  | some x =>
    cases hk : s.supplier (s.runSectionOf x) with
    | none => rw [requestPermit_none fun y hy => by cases hx.symm.trans hy; exact hk]; exact .refl s
    | some k =>
      rw [requestPermit_eq hx hk]
      dsimp only
      have asked : Checks shows s (s.modTrain i fun x => { x with permitReq := some s.lineTime }) := .modTrain s i fun _ => rfl
      split
      · refine asked.trans (checks_grant _ k _ _ fun y hy => ?_)
        cases (train?_modTrain_of hx fun x => { x with permitReq := some s.lineTime }).symm.trans hy
        exact hp x hx
      · unfold queueUp
        refine asked.trans (Checks.trans ?_ (.modTrain _ i fun _ => rfl))
        exact .of_pool rfl rfl rfl

theorem checks_scheduleCheckUnder (held : Nat → Bool) (s : State) (i : Nat) (hp : ∀ x, s.train? i = some x → shows (placeOf x)) :
    Checks shows s (scheduleCheckUnder held s i) := by
  unfold scheduleCheckUnder
  split
  · exact .refl s
  · next x hx =>
    dsimp only
    split
    · refine Checks.trans ?_ (checks_requestPermit _ i fun y hy => ?_)
      · exact .modTrain s i fun _ => rfl
      · rw [train?_modTrain_of hx] at hy
        cases hy
        exact hp x hx
    · have back : Checks shows s (s.modTrain i fun t => { t with holds := s.gathered held x, depDl := none, state := .held }) :=
        .modTrain s i fun _ => rfl
      split
      · exact back.trans (checks_issueForTrain _ _ _ (hp x hx))
      · exact back

theorem checks_holdRemovalCheck (held : Nat → Bool) (s : State) (i : Nat) (hp : ∀ x, s.train? i = some x → shows (placeOf x)) :
    Checks shows s (holdRemovalCheck held s i) := by
  unfold holdRemovalCheck
  split
  · exact .refl s
  · next x hx =>
    dsimp only
    split
    · exact checks_scheduleCheckUnder held s i hp
    · refine Checks.trans ?_ (checks_issueForTrain _ _ _ (hp x hx))
      exact .modTrain s i fun _ => rfl

/-- The checks of an event show their directives where the freed trains stand. -/
theorem checks_checkFreed (held : Nat → Bool) (b s : State) (hp : ∀ i ∈ freedSince b s, ∀ x, s.train? i = some x → shows (placeOf x)) :
    Checks shows s (checkFreed held b s) := by
  unfold checkFreed
  generalize freedSince b s = l at hp
  induction l generalizing s with
  | nil => exact .refl s
  | cons i l ih =>
    have first := checks_holdRemovalCheck held s i (hp i (List.mem_cons_self ..))
    refine first.trans (ih _ fun j hj y hy => ?_)
    obtain ⟨x, hx, same⟩ := first.places j y hy
    rw [placeOf, same, ← placeOf]
    exact hp j (List.mem_cons_of_mem _ hj) x hx

end State

end Sys2Proof.Machine

/-! What the dwell computation reads of the other trains, and that the work after it leaves that as it was (R69 to R73). -/

namespace Sys2Proof.Machine
open Sys2Proof

/-- What the follower's rules read of a train: where it stands, when it came and left, and when it would arrive (R70, R71). -/
structure Followed (s : State) (x y : Train) : Prop where
  position : y.position = x.position
  lastArr  : y.lastArr = x.lastArr
  lastDep  : y.lastDep = x.lastDep
  running  : y.state.isRunning = x.state.isRunning
  awaiting : y.state = .awaiting ↔ x.state = .awaiting
  leg      : s.firstLeg y = s.firstLeg x

theorem Followed.refl (s : State) (x : Train) : Followed s x x := ⟨rfl, rfl, rfl, rfl, Iff.rfl, rfl⟩

theorem Followed.trans {s : State} {x y z : Train} (a : Followed s x y) (b : Followed s y z) : Followed s x z where
  position := b.position.trans a.position
  lastArr := b.lastArr.trans a.lastArr
  lastDep := b.lastDep.trans a.lastDep
  running := b.running.trans a.running
  awaiting := b.awaiting.trans a.awaiting
  leg := b.leg.trans a.leg

namespace State
variable {on : Work → Prop}

theorem firstLeg_congr {s t : State} (tables : t.tables = s.tables) (control : t.control = s.control) (time : t.lineTime = s.lineTime) :
    t.firstLeg = s.firstLeg := by
  funext x
  unfold firstLeg vals patternVals
  rw [tables, control, time]

/-- A train at a platform that is not RELEASED arrives after its departure time (R71). -/
theorem firstLeg_standing {s : State} {x : Train} (h : x.state = .dwelling ∨ x.state = .held ∨ x.state = .waiting) : s.firstLeg x =
    later (if diff s.lineTime (x.depTime.getD s.lineTime) ≤ 0 then s.lineTime else x.depTime.getD s.lineTime) (s.vals (placeOf x)).run := by
  unfold firstLeg
  rcases h with e | e | e <;> rw [e]

/-- A HELD train that is checked, and asks for its permit once its time has come, arrives as before (R71, R80). -/
theorem followed_standing {s : State} {x y : Train} (hx : x.state = .dwelling ∨ x.state = .held ∨ x.state = .waiting)
    (hy : y.state = .dwelling ∨ y.state = .held ∨ y.state = .waiting) (position : y.position = x.position) (lastArr : y.lastArr = x.lastArr)
    (lastDep : y.lastDep = x.lastDep) (depTime : y.depTime = x.depTime) : Followed s x y where
  position := position
  lastArr := lastArr
  lastDep := lastDep
  running := by rcases hx with e | e | e <;> rcases hy with k | k | k <;> rw [e, k] <;> rfl
  awaiting := by rcases hx with e | e | e <;> rcases hy with k | k | k <;> rw [e, k] <;> simp
  leg := by rw [firstLeg_standing hx, firstLeg_standing hy, depTime, placeOf, placeOf, position]

theorem followed_released {s : State} {x : Train} (held : x.state = .held) (due : diff s.lineTime (x.depTime.getD s.lineTime) ≤ 0)
    (l : Option (Nat × Nat)) : Followed s x { x with lease := l, state := .released } where
  position := rfl
  lastArr := rfl
  lastDep := rfl
  running := by rw [held]; rfl
  awaiting := by rw [held]; simp
  leg := by
    rw [firstLeg_standing (.inr (.inl held)), if_pos due]
    rfl

theorem followed_edit {s t : State} (e : Edit on s t) (smooth : ¬ on .rough) (calm : ¬ on .trains) (firm : ¬ on .serve) (r : s.Ready) {i : Nat}
    {x : Train} (hx : s.train? i = some x) : ∃ y, t.train? i = some y ∧ Followed s x y := by
  have change : ∀ {y : Train}, TrainChange on s x y → Followed s x y := fun c =>
    have k := c.by_.resolve_left calm
    followed_standing (.inr (.inl k.held)) (k.state.elim (fun h => .inr (.inl h)) .inl) k.position k.lastArr k.lastDep k.depTime
  have mod : ∀ (j : Nat) (f : Train → Train), t.pool = (s.modTrain j f).pool → (j = i → Followed s x (f x)) →
      ∃ y, t.train? i = some y ∧ Followed s x y := fun j f pool own => by
    refine ⟨_, (train_of_modTrain pool hx).2, ?_⟩
    split
    · next h => exact own h
    · exact .refl s x
  have same : t.pool = s.pool → ∃ y, t.train? i = some y ∧ Followed s x y := fun h => ⟨x, (train?_of_pool h i).trans hx, .refl s x⟩
  have asks : ∀ {j : Nat}, (on .rough ∨ ∃ y, s.train? j = some y ∧ MayAsk on s y) → j = i →
      x.state = .held ∧ diff s.lineTime (x.depTime.getD s.lineTime) ≤ 0 := fun ask h => by
    obtain ⟨y, hy, -, may⟩ := ask.resolve_left smooth
    cases hx.symm.trans (h ▸ hy)
    exact (may.resolve_left calm).2
  cases e with
  | record e =>
    obtain ⟨-, o, train⟩ := train_recordEdit e r hx
    exact ⟨_, train, rfl, rfl, rfl, rfl, Iff.rfl, rfl⟩
  | gate e =>
    cases e with
    | train j f all => exact mod j f rfl fun h => change (all.resolve_left smooth x (h ▸ hx)).1
    | leave j f _ all => exact mod j f rfl fun h => change (all.resolve_left smooth x (h ▸ hx)).1
    | grantEntry k e serve => exact absurd serve firm
    | grantAsked k j w ask => exact mod j _ (pool_grant s k (s.handle j) w) fun h => followed_released (asks ask h).1 (asks ask h).2 _
    | enqueue k j w ask =>
      exact mod j (fun x => { x with state := .waiting }) rfl fun h =>
        followed_standing (.inr (.inl (asks ask h).1)) (.inr (.inr rfl)) rfl rfl rfl rfl
    | withdraw j reason _ waits =>
      refine mod j _ (s.pool_withdrawn j reason) fun h => ?_
      obtain ⟨y, hy, waiting⟩ := waits.resolve_left smooth
      cases hx.symm.trans (h ▸ hy)
      exact followed_standing (.inr (.inr waiting)) (.inr (.inl rfl)) rfl rfl rfl rfl
    | dropEntries h => exact same (s.pool_dropEntries h)
    | dropLease k h tag => exact absurd tag calm
    | waitGone | moveRequests => exact same rfl

end State

/-- Work that serves no queue and amends no train leaves the trains as the follower's rules read them. -/
theorem Run.followed {on : Work → Prop} {s t : State} (run : Run on s t) (smooth : ¬ on .rough) (calm : ¬ on .trains) (firm : ¬ on .serve)
    (r : s.Ready) {i : Nat} {x : Train} (hx : s.train? i = some x) : ∃ y, t.train? i = some y ∧ Followed s x y := by
  refine (run.keeps_ready (P := fun u => Steady s u ∧ u.control = s.control ∧ ∃ y, u.train? i = some y ∧ Followed s x y) smooth
    (fun u v e ru ⟨steady, control, y, hy, followed⟩ => ?_) r ⟨.refl s, rfl, x, hx, .refl s x⟩).2.2
  obtain ⟨z, hz, more⟩ := State.followed_edit e smooth calm firm ru hy
  refine ⟨steady.trans (State.steady_edit e), (State.control_edit e).trans control, z, hz, followed.trans { more with leg := ?_ }⟩
  rw [← State.firstLeg_congr steady.tables control steady.lineTime]
  exact more.leg

/-- What the dwell computation of the train in slot `i` reads of a part stands (R67 to R73). -/
structure Regulated (i : Nat) (s t : State) : Prop where
  tables    : t.tables = s.tables
  control   : t.control = s.control
  lineTime  : t.lineTime = s.lineTime
  trainList : t.pool.trains = s.pool.trains
  trains    : ∀ j x, j ≠ i → s.train? j = some x → ∃ y, t.train? j = some y ∧ Followed s x y
  handles   : ∀ j x, j ≠ i → s.train? j = some x → t.handle j = s.handle j
  places    : ∀ p, (t.platform p).occupant = (s.platform p).occupant ∧ (t.platform p).lastDep = (s.platform p).lastDep
  delays    : ∀ p, t.delayAt p = s.delayAt p

namespace State

theorem firstBest_map {α β : Type} {b : α → α → Bool} {c : β → β → Bool} (g : α → β) (l : List α)
    (h : ∀ x ∈ l, ∀ y ∈ l, c (g x) (g y) = b x y) : firstBest c (l.map g) = (firstBest b l).map g := by
  cases l with
  | nil => rfl
  | cons x xs =>
    suffices ∀ (ys : List α) (m : α), m ∈ x :: xs → (∀ y ∈ ys, y ∈ x :: xs) →
        (ys.map g).foldl (fun best y => if c y best then y else best) (g m) = g (ys.foldl (fun best y => if b y best then y else best) m) from
      congrArg some (this xs x (List.mem_cons_self ..) fun y hy => List.mem_cons_of_mem _ hy)
    intro ys
    induction ys with
    | nil => exact fun _ _ _ => rfl
    | cons y ys ih =>
      intro m hm all
      have hy := all y (List.mem_cons_self ..)
      rw [List.map_cons, List.foldl_cons, List.foldl_cons, h y hy m hm]
      have rest := ih (if b y m then y else m) (by split <;> assumption) fun z hz => all z (List.mem_cons_of_mem _ hz)
      rw [← rest]
      split <;> rfl

/-- A train as it stands now. -/
def nowOf (t : State) (e : Nat × Train) : Nat × Train := (e.1, (t.train? e.1).getD e.2)

end State

namespace Regulated
variable {i : Nat} {s t : State} (h : Regulated i s t)
include h

theorem vals (p : Nat) : t.vals p = s.vals p := by
  rw [State.vals, State.vals, State.patternVals, State.patternVals, h.tables, h.control]

theorem next (p : Nat) : t.next p = s.next p := by rw [State.next, State.next, State.ringSize, State.ringSize, h.tables]

theorem dist (a b : Nat) : t.dist a b = s.dist a b := by rw [State.dist, State.dist, State.ringSize, State.ringSize, h.tables]

theorem legTime (q n : Nat) : t.legTime q n = s.legTime q n := by
  simp only [State.legTime, h.vals, State.ringSize, h.tables]

/-- A follower is as near as before, of its class and of its age (R70). -/
theorem nearer {p : Nat} {a b : Nat × Train} (ha : a.1 ≠ i ∧ s.train? a.1 = some a.2) (hb : b.1 ≠ i ∧ s.train? b.1 = some b.2) :
    t.nearer p (t.nowOf a) (t.nowOf b) = s.nearer p a b := by
  obtain ⟨x, hx, fx⟩ := h.trains a.1 a.2 ha.1 ha.2
  obtain ⟨y, hy, fy⟩ := h.trains b.1 b.2 hb.1 hb.2
  have place : ∀ {u v : Train}, Followed s u v → State.placeOf v = State.placeOf u := fun f => by rw [State.placeOf, f.position]; rfl
  have age : ∀ {u v : Train}, Followed s u v → t.followerAge v = s.followerAge u := fun f => by
    rw [State.followerAge, State.followerAge, f.running, f.lastDep, f.lastArr, h.lineTime]
  have cls : ∀ {e : Nat × Train} {v : Train}, e.1 ≠ i → s.train? e.1 = some e.2 → Followed s e.2 v →
      t.followerClass (e.1, v) = s.followerClass e := fun other live f => by
      rw [State.followerClass, State.followerClass, f.running, place f, (h.places _).1, h.handles _ _ other live]
  have now : ∀ {e : Nat × Train} {v : Train}, t.train? e.1 = some v → t.nowOf e = (e.1, v) := fun hv => by rw [State.nowOf, hv]; rfl
  rw [now hx, now hy]
  unfold State.nearer
  rw [place fx, place fy, h.dist, h.dist, cls ha.1 ha.2 fx, cls hb.1 hb.2 fy, age fx, age fy]

theorem followers (live : ∀ j ∈ s.pool.trains, (s.train? j).isSome = true) (p : Nat) :
    t.followers i p = (s.followers i p).map t.nowOf := by
  unfold State.followers State.liveTrains
  rw [h.trainList]
  generalize s.pool.trains = l at live
  induction l with
  | nil => rfl
  | cons j l ih =>
    have rest := ih fun k hk => live k (List.mem_cons_of_mem _ hk)
    obtain ⟨x, hx⟩ := Option.isSome_iff_exists.mp (live j (List.mem_cons_self ..))
    by_cases hj : j = i
    · subst hj
      cases hy : t.train? j with
      | none => simpa [hx, hy] using rest
      | some y => simpa [hx, hy] using rest
    · obtain ⟨y, hy, f⟩ := h.trains j x hj hx
      have place : State.placeOf y = State.placeOf x := by rw [State.placeOf, f.position]; rfl
      have state : (y.state != .awaiting) = (x.state != .awaiting) := by
        rw [Bool.eq_iff_iff, bne_iff_ne, bne_iff_ne, not_iff_not]; exact f.awaiting
      have now : t.nowOf (j, x) = (j, y) := by rw [State.nowOf, hy]; rfl
      rw [List.filterMap_cons_some (by rw [hy]; rfl), List.filterMap_cons_some (by rw [hx]; rfl), List.filter_cons, List.filter_cons,
        state, f.position, place, h.dist]
      split
      · rw [List.map_cons, now, rest]
      · exact rest

/-- The dwell of the train in slot `i` comes out the same. -/
theorem dwellOf (r : s.Ready) (p a : Nat) (lateness : Int) : t.dwellOf i p a lateness = s.dwellOf i p a lateness := by
  have candidate : ∀ {e : Nat × Train}, e ∈ s.followers i p → e.1 ≠ i ∧ s.train? e.1 = some e.2 := fun he => by
    obtain ⟨listed, passes⟩ := List.mem_filter.mp he
    simp only [Bool.and_eq_true, bne_iff_ne] at passes
    exact ⟨passes.1.1.1, (State.mem_liveTrains.mp listed).2⟩
  have follower : t.follower i p = (s.follower i p).map t.nowOf := by
    rw [State.follower, h.followers fun j hj => (r.1.pooled.trains j).mp hj]
    exact State.firstBest_map t.nowOf _ fun x hx y hy => h.nearer (candidate hx) (candidate hy)
  have back : t.backwardGap i p a = s.backwardGap i p a := by
    unfold State.backwardGap
    rw [follower]
    cases hf : s.follower i p with
    | none => exact congrArg (fun v : PatternVals => (v.headway : Int)) (h.vals p)
    | some e =>
      obtain ⟨other, live⟩ := candidate (State.mem_firstBest hf)
      obtain ⟨y, hy, f⟩ := h.trains e.1 e.2 other live
      have now : (t.nowOf e).2 = y := by rw [State.nowOf, hy]; rfl
      have place : State.placeOf y = State.placeOf e.2 := by rw [State.placeOf, f.position]; rfl
      have arrival : t.followerArrival y p = s.followerArrival e.2 p := by
        rw [State.followerArrival, State.followerArrival, place, h.dist, h.next, h.legTime,
          State.firstLeg_congr h.tables h.control h.lineTime, f.leg]
      dsimp only [Option.map_some]
      rw [now, arrival]
  have forward : t.forwardGap p a = s.forwardGap p a := by
    unfold State.forwardGap
    rw [(h.places p).2, h.vals]
  unfold State.dwellOf
  rw [back, forward, h.vals, h.delays]

theorem trans {u : State} (k : Regulated i t u) : Regulated i s u where
  tables := k.tables.trans h.tables
  control := k.control.trans h.control
  lineTime := k.lineTime.trans h.lineTime
  trainList := k.trainList.trans h.trainList
  trains j x hj hx := by
    obtain ⟨y, hy, f⟩ := h.trains j x hj hx
    obtain ⟨z, hz, g⟩ := k.trains j y hj hy
    exact ⟨z, hz, f.trans { g with leg := by rw [← State.firstLeg_congr h.tables h.control h.lineTime]; exact g.leg }⟩
  handles j x hj hx := by
    obtain ⟨y, hy, -⟩ := h.trains j x hj hx
    exact (k.handles j y hj hy).trans (h.handles j x hj hx)
  places p := ⟨(k.places p).1.trans (h.places p).1, (k.places p).2.trans (h.places p).2⟩
  delays p := (k.delays p).trans (h.delays p)

end Regulated

end Sys2Proof.Machine

/-! The end of an event leaves what the dwell computation reads, where nothing is owed that restricts (R35, R67). -/

namespace Sys2Proof.Machine
open Sys2Proof

/-- The work of the hold-removal checks. -/
def checkWork : Work → Prop
  | .withdraw => True
  | _ => False

namespace State

theorem restricts_of_incidents {s t : State} (h : ∀ j, t.incident? j = s.incident? j) (i : Nat) (r : Restriction) :
    t.Restricts i r ↔ s.Restricts i r := by rw [Restricts, Restricts, h]

/-- The checks of an event, as far as the dwell computation goes. -/
theorem regulated_checkFreed {s : State} (r : s.Ready) (i : Nat) (held : Nat → Bool) (b : State) :
    Regulated i s (checkFreed held b s) ∧ (checkFreed held b s).Ready ∧ (s.AlarmFree → (checkFreed held b s).AlarmFree) := by
  have run : Run checkWork s (checkFreed held b s) := does_checkFreed trivial held b s (.inr r)
  have checks : Checks (fun _ => True) s (checkFreed held b s) := checks_checkFreed held b s fun _ _ _ _ => trivial
  have calm := calm_checkFreed held b s
  have ready := run.ready id r
  refine ⟨?_, ready, fun free p => by rw [platform, checks.platforms]; exact free p⟩
  exact {
    tables := calm.tables, control := calm.control, lineTime := calm.lineTime, trainList := run.trains
    trains := fun j x _ hx => run.followed id id id r hx
    handles := fun j x _ hx => (run.kin id r hx).1
    places := fun p => by rw [platform, platform, checks.platforms]; exact ⟨rfl, rfl⟩
    delays := delayAt_congr r ready calm.tables (restricts_of_incidents checks.incidents) }

theorem followed_owed (s : State) (x : Train) (o : Owed) : Followed s x { x with owed := o } := ⟨rfl, rfl, rfl, rfl, Iff.rfl, rfl⟩

theorem regulated_gentle {tr : Prop} {s t : State} (rs : s.Ready) (rt : t.Ready) (h : Gentle tr s t) (i : Nat) : Regulated i s t where
  tables := h.calm.tables
  control := h.calm.control
  lineTime := h.calm.lineTime
  trainList := h.trainList
  trains j x _ hx := by
    obtain ⟨o, ho, -⟩ := h.train? hx
    exact ⟨_, ho, followed_owed s x o⟩
  handles j x _ hx := h.handle fun free => by rw [train?_eq_some.mp hx] at free; cases free
  places := h.places
  delays := delayAt_congr rs rt h.calm.tables (restricts_gentle h)

theorem regulated_selecting {s t : State} (rs : s.Ready) (rt : t.Ready) (h : Selecting s t) (i : Nat) : Regulated i s t where
  tables := h.calm.tables
  control := h.calm.control
  lineTime := h.calm.lineTime
  trainList := h.trainList
  trains j x _ hx := ⟨x, (h.trains j).trans hx, .refl s x⟩
  handles j x _ _ := h.handles j
  places p := by
    have ring := h.ring p
    exact ⟨(congrArg Platform.occupant ring : (t.platform p).ring.occupant = (s.platform p).ring.occupant),
      (congrArg Platform.lastDep ring : (t.platform p).ring.lastDep = (s.platform p).ring.lastDep)⟩
  delays := delayAt_congr rs rt h.calm.tables (restricts_of_incidents h.incidents)

/-- A gentle service frees no train (R80). -/
theorem freedSince_gentle {tr : Prop} {s t : State} (h : Gentle tr s t) : freedSince s t = [] :=
  freedSince_eq_nil fun j y hy free => by
    obtain ⟨x, hx⟩ := h.was_train hy
    obtain ⟨o, ho, -⟩ := h.train? hx
    cases hy.symm.trans ho
    exact ⟨x, hx, free⟩

theorem ready_serveOwed {s : State} (r : s.Ready) : s.serveOwed.Ready := by
  have run : Run owedWork s s.serveOwed := does_serveOwed (on := owedWork) trivial trivial rfl s (.inr r)
  exact run.ready Work.noConfusion r

/-- What the end of an event leaves where no PLATFORM ALARM is owed: what the dwell computation reads, and the directives for
platforms at which it frees no train. -/
theorem endEvent_leaves {u : State} (r : u.Ready) (free : u.AlarmFree) (b : State) (i : Nat) : Regulated i u (endEvent b u) ∧
    ∀ p d, p < Config.platformEntries → (∀ j ∈ freedSince b u, ∀ x, u.train? j = some x → placeOf x ≠ p) → (p, d) ∈ u.links.queue →
      (p, d) ∈ (endEvent b u).links.queue := by
  obtain ⟨checked, ready, stillFree⟩ := regulated_checkFreed r i u.held b
  have shown : ∀ p d, (∀ j ∈ freedSince b u, ∀ x, u.train? j = some x → placeOf x ≠ p) → (p, d) ∈ u.links.queue →
      (p, d) ∈ (checkFreed u.held b u).links.queue := fun p d apart h =>
    (checks_checkFreed (shows := (· ≠ p)) u.held b u apart).directives (p, d) h fun e => e rfl
  have last : ∀ v : State, v.Ready → Regulated i v v.selections.judgeLines ∧
      ∀ p d, p < Config.platformEntries → (p, d) ∈ v.links.queue → (p, d) ∈ v.selections.judgeLines.links.queue := fun v rv => by
    have tail : Selecting v v.selections.judgeLines := v.selecting_selections.trans (selecting_judgeLines _)
    have run : Run checkWork v v.selections.judgeLines := Does.trans (does_selections v) (does_judgeLines _) (.inr rv)
    exact ⟨regulated_selecting rv (run.ready id rv) tail i, fun p d hp h => tail.directives _ h (.inl hp)⟩
  unfold endEvent
  dsimp only
  generalize checkFreed u.held b u = t at *
  split
  · have served := gentle_serveOwed ready (stillFree free)
    have ready' := ready_serveOwed ready
    generalize t.serveOwed = v at *
    have idle : checkFreed v.held t v = v := by rw [checkFreed, freedSince_gentle served, List.foldl_nil]
    rw [idle]
    obtain ⟨rest, more⟩ := last v ready'
    exact ⟨(checked.trans (regulated_gentle ready ready' served i)).trans rest, fun p d hp apart h =>
      more p d hp (served.directives _ (shown p d apart h) hp)⟩
  · obtain ⟨rest, more⟩ := last t ready
    exact ⟨checked.trans rest, fun p d hp apart h => more p d hp (shown p d apart h)⟩

end State

end Sys2Proof.Machine

/-! Where no automatic incident but a PLATFORM ALARM carries a HOLD, the end of another cause frees no train (R80, R138). -/

namespace Sys2Proof.Machine
open Sys2Proof

namespace State

/-- No train comes to stand HELD without a reason, and no other incident comes to carry a HOLD. -/
structure Mild (s t : State) : Prop where
  trains : ∀ j y, t.train? j = some y → reasonless y = true → ∃ x, s.train? j = some x ∧ reasonless x = true
  plain  : s.PlainHolds → t.PlainHolds

theorem Mild.refl (s : State) : Mild s s := ⟨fun _ y hy h => ⟨y, hy, h⟩, id⟩

theorem Mild.trans {s t u : State} (a : Mild s t) (b : Mild t u) : Mild s u where
  trains j z hz h := by
    obtain ⟨y, hy, hy'⟩ := b.trains j z hz h
    exact a.trains j y hy hy'
  plain := b.plain ∘ a.plain

theorem mild_of_same {s t : State} (trains : ∀ j, t.train? j = s.train? j) (incidents : ∀ j, t.incident? j = s.incident? j) : Mild s t where
  trains j y hy h := ⟨y, (trains j).symm.trans hy, h⟩
  plain h i c r hc := h i c r ((incidents i).symm.trans hc)

theorem mild_of_pool {s t : State} (h : t.pool = s.pool) : Mild s t :=
  mild_of_same (train?_of_pool h) fun j => incident?_of_slot (by rw [slot, slot, h])

/-- An update of a train that does not leave it HELD without a reason where it was not. -/
theorem mild_modTrain {s t : State} {i : Nat} {f : Train → Train} (pool : t.pool = (s.modTrain i f).pool)
    (h : ∀ x, reasonless (f x) = true → reasonless x = true) : Mild s t where
  trains j y hy free := by
    rw [train?_of_pool pool, train?_modTrain] at hy
    split at hy
    · obtain ⟨x, hx, rfl⟩ := Option.map_eq_some_iff.mp hy
      exact ⟨x, hx, h x free⟩
    · exact ⟨y, hy, free⟩
  plain plain j c r hc := plain j c r (by
    rw [← hc, incident?_of_slot (show t.slot j = (s.modTrain i f).slot j by rw [slot, slot, pool]), incident?_modTrain])

theorem mild_gentle {tr : Prop} {s t : State} (h : Gentle tr s t) : Mild s t where
  trains j y hy free := by
    obtain ⟨x, hx⟩ := h.was_train hy
    obtain ⟨o, ho, -⟩ := h.train? hx
    cases hy.symm.trans ho
    exact ⟨x, hx, free⟩
  plain plain j d r hd carries hold := by
    have rec_ := h.records j
    rw [incident?_eq_some.mp hd] at rec_
    cases hr : (s.slot j).record with
    | incident c =>
      rw [hr] at rec_
      obtain ⟨-, restriction, kind⟩ := rec_
      rw [kind]
      exact plain j c r (incident?_eq_some.mpr hr) (restriction.symm.trans carries) hold
    | free => rw [hr] at rec_; cases (show d.restriction = none from rec_).symm.trans carries
    | _ => rw [hr] at rec_; exact rec_.elim

theorem mild_grant (s : State) (k : Nat) (h : Handle) (w : Nat) : Mild s (s.grant k h w) :=
  mild_modTrain (pool_grant s k h w) fun _ free => by cases free

theorem mild_grantFromHead (k fuel : Nat) (s : State) : Mild s (s.grantFromHead k fuel) := by
  induction fuel generalizing s with
  | zero => exact .refl s
  | succ n ih =>
    unfold grantFromHead
    split
    · exact .refl s
    · split
      · exact (s.mild_grant _ _ _).trans (ih _)
      · exact .refl s

theorem mild_foldl {α : Type} {f : State → α → State} (hf : ∀ s x, Mild s (f s x)) (l : List α) (s : State) : Mild s (l.foldl f s) := by
  induction l generalizing s with
  | nil => exact .refl s
  | cons x l ih => exact (hf s x).trans (ih _)

theorem mild_retireAnn (s : State) (i : Nat) : Mild s (s.retireAnn i) := by
  have stop : ∀ u p b, Mild u (State.stopCue u p b) := fun u p b => mild_gentle (tr := False) (u.gentle_stopCue p b)
  unfold retireAnn
  split
  · exact .refl s
  · next a ha =>
    dsimp only
    have stopped : ∀ u : State, u.ann? i = some a → Mild u ((u.unlinkAnn a.platform i).release i) := fun u hu => by
      refine mild_of_same (fun j => ?_) fun j => ?_
      · rw [train?_release]
        split
        · next e => subst e; exact (train?_of_ann hu).symm
        · rfl
      · rw [incident?_release]
        split
        · next e => subst e; exact (incident?_of_ann hu).symm
        · rfl
    split
    · exact (stop s _ _).trans (stopped _ ((ann?_stopCue ..).trans ha))
    · exact (stop s _ _).trans (stopped _ ((ann?_stopCue ..).trans ha))
    · exact stopped s ha
    · exact stopped s ha
    · exact stopped s ha

theorem mild_retireAnns (s : State) (test : Ann → Bool) : Mild s (s.retireAnns test) :=
  mild_foldl (f := fun (t : State) (e : Nat × Ann) => t.retireAnn e.1) (fun t e => t.mild_retireAnn e.1) _ s

theorem mild_putOwed (s : State) (k : Kind) (loc : Location) (v : Option Nat) : Mild s (s.putOwed k loc v) := by
  unfold putOwed
  split
  · exact mild_of_pool rfl
  · exact mild_of_pool rfl
  · exact mild_of_pool rfl
  · split
    · exact mild_modTrain rfl fun _ h => h
    · exact .refl s

theorem gentle_clearCopies {tr : Prop} {s : State} (r : s.Ready) (i : Nat) : Gentle tr s (s.clearCopies i) := by
  unfold clearCopies
  split
  · exact .refl tr s
  · split
    · exact .refl tr s
    · next a _ =>
      split
      · exact .refl tr s
      · refine (gentle_foldl (f := fun (t : State) p => if t.copyRoom p then t.createAnn (t.clearCopy i a p) else t) _ (fun t p hp rt => ?_) r).1
        split
        · next room =>
          have run : Run raiseWork t (t.createAnn (t.clearCopy i a p)) :=
            t.does_createAnn (Bool.and_eq_true_iff.mp room).2 (.inr (copyPlatforms_lt r hp)) rfl (.inr rt)
          exact ⟨gentle_createAnn rt.1 _, run.ready id rt⟩
        · exact ⟨.refl tr t, rt⟩

/-- The work of the end of a cause. -/
def endWork : Work → Prop
  | .ends => True
  | _ => False

/-- The entry to CLEARED of an incident that carries no HOLD (R134, R138). -/
theorem mild_enterCleared {s : State} (r : s.Ready) (plain : s.PlainHolds) {i : Nat} {c : Incident} (hc : s.incident? i = some c)
    (automatic : c.kind ≠ .operator) (mild : c.kind ≠ .platformAlarm) : Mild s (s.enterCleared i) := by
  have clears : Run endWork s (s.modIncident i fun c => { c with state := .cleared, escDl := none }) :=
    .of_record (.incident i _ fun d hd => ⟨.inr fun old => old, fun _ hs => (nomatch hs), fun kind => by
      cases hc.symm.trans hd; exact absurd kind automatic, .inr ⟨rfl, rfl⟩, fun _ => .inl trivial⟩)
  have cleared : Mild s (s.modIncident i fun c => { c with state := .cleared, escDl := none }) := by
    refine ⟨fun j y hy free => ⟨y, (train?_modIncident ..).symm.trans hy, free⟩, fun plain j d r hd carries hold => ?_⟩
    rw [incident?_modIncident] at hd
    split at hd
    · obtain ⟨e, he, rfl⟩ := Option.map_eq_some_iff.mp hd
      exact plain j e r he carries hold
    · exact plain j d r hd carries hold
  have holds : ∀ j first last, (s.modIncident i fun c => { c with state := .cleared, escDl := none }).Restricts j ⟨.hold, first, last⟩ ↔
      s.Restricts j ⟨.hold, first, last⟩ := fun j first last => by
    rw [Restricts, Restricts, incident?_modIncident]
    by_cases hj : i = j
    · subst hj
      rw [if_pos rfl, hc]
      constructor
      · rintro ⟨d, hd, active, -⟩
        cases hd
        cases active
      · rintro ⟨d, hd, -, carries⟩
        cases hd
        exact ((plain i c _ hc carries rfl).elim automatic mild).elim
    · rw [if_neg hj]
  have ready := clears.ready id r
  unfold enterCleared
  dsimp only
  generalize hu : (s.modIncident i fun c => { c with state := .cleared, escDl := none }) = u at *
  have tables : u.tables = s.tables := by rw [← hu]; rfl
  have same : u.held = s.held := by
    funext p
    rw [Bool.eq_iff_iff, held_iff r, held_iff ready]
    simp only [holds, covers_congr tables]
  have nobody : holdsStop s u = u := by
    rw [holdsStop, takeRestriction, takeOutWhere, same]
    simp
  rw [nobody]
  have retires : Run endWork u (u.retireAnns fun a => a.source == some (s.handle i) && (a.state == .queued || a.state == .resting)) :=
    u.does_retireAnns _ (.inr ready)
  have retired := u.mild_retireAnns fun a => a.source == some (s.handle i) && (a.state == .queued || a.state == .resting)
  have ready2 := retires.ready id ready
  generalize (u.retireAnns fun a => a.source == some (s.handle i) && (a.state == .queued || a.state == .resting)) = v at *
  have empties : Run endWork v (v.modIncident i fun c => { c with owedCopies := [] }) :=
    v.does_modIncident i _ (fun _ => ⟨rfl, rfl, rfl, rfl⟩) (fun _ => .inr fun _ hp => (nomatch hp)) (by intro; rfl) (.inr ready2)
  have emptied : Mild v (v.modIncident i fun c => { c with owedCopies := [] }) :=
    mild_gentle (tr := False) (v.gentle_modIncident i fun _ => ⟨rfl, rfl, rfl⟩)
  exact ((cleared.trans retired).trans emptied).trans (mild_gentle (tr := False) (gentle_clearCopies (empties.ready id ready2) i))

/-- The end of a cause that may carry no HOLD (R133). -/
theorem mild_endCause {s : State} (r : s.Ready) (plain : s.PlainHolds) {k : Kind} (mild : k ≠ .platformAlarm) (loc : Location) :
    Mild s (s.endCause k loc) := by
  have drop : ∀ t, Mild s t → Mild s (if (t.owed k loc).isSome then t.putOwed k loc none else t) := fun t h => by
    split
    · exact h.trans (t.mild_putOwed k loc none)
    · exact h
  unfold endCause
  refine drop _ ?_
  split
  · exact .refl s
  · next i c active =>
    obtain ⟨live, -, kind, -, automatic⟩ := activeAt_eq_some active
    split
    · exact mild_gentle (tr := False) (s.gentle_modIncident i fun _ => ⟨rfl, rfl, rfl⟩)
    · exact mild_enterCleared r plain live automatic fun e => mild (kind.symm.trans e)

/-- The work of the service of queues. -/
def queueWork : Work → Prop
  | .serve => True
  | _ => False

theorem mild_serveQueue {s : State} (r : s.Ready) (plain : s.PlainHolds) (k : Nat) (emptied : Bool) : Mild s (s.serveQueue k emptied) := by
  have grants : Run queueWork s (s.grantFromHead k (s.substation k).queue.length) := does_grantFromHead trivial k _ s (.inr r)
  have granted := mild_grantFromHead k (s.substation k).queue.length s
  unfold serveQueue
  dsimp only
  split
  · exact granted.trans (mild_endCause (grants.ready id r) (granted.plain plain) (by decide) _)
  · exact granted

theorem mild_serveChanged {s : State} (r : s.Ready) (plain : s.PlainHolds) (b : State) : Mild s (serveChanged b s) := by
  unfold serveChanged
  generalize (substationIndices.filter fun k =>
    decide ((s.substation k).queue ≠ (b.substation k).queue) || decide ((s.substation k).leases ≠ (b.substation k).leases)) = l
  suffices ∀ t : State, t.Ready → t.PlainHolds → Mild t (l.foldl (fun t k => t.serveQueue k (emptiedSince b s k)) t) from this s r plain
  induction l with
  | nil => exact fun t _ _ => .refl t
  | cons k l ih =>
    intro t rt pt
    have serves : Run queueWork t (t.serveQueue k (emptiedSince b s k)) := t.does_serveQueue trivial k _ (.inr rt)
    have served := mild_serveQueue rt pt k (emptiedSince b s k)
    exact served.trans (ih _ (serves.ready id rt) (served.plain pt))

end State

end Sys2Proof.Machine

/-! The work of an arrival before the platform is taken (R51). -/

namespace Sys2Proof.Machine
open Sys2Proof

/-- The service of queues and the end of causes. -/
def doneWork : Work → Prop
  | .serve | .ends => True
  | _ => False

/-- Where `y` is HELD, `x` was, at the same platform. -/
def HeldThere (x y : Train) : Prop := y.state = .held → x.state = .held ∧ y.position = x.position

theorem HeldThere.trans {x y z : Train} (a : HeldThere x y) (b : HeldThere y z) : HeldThere x z := fun held =>
  have ⟨before, same⟩ := b held
  have ⟨first, place⟩ := a before
  ⟨first, same.trans place⟩

namespace State
variable {on : Work → Prop}

theorem heldThere_edit {s t : State} (e : Edit on s t) (smooth : ¬ on .rough) (calm : ¬ on .trains) (firm : ¬ on .withdraw) (r : s.Ready)
    {i : Nat} {x : Train} (hx : s.train? i = some x) : ∃ y, t.train? i = some y ∧ HeldThere x y := by
  have change : ∀ {y : Train}, TrainChange on s x y → HeldThere x y := fun c _ =>
    have k := c.by_.resolve_left calm
    ⟨k.held, k.position⟩
  have mod : ∀ (j : Nat) (f : Train → Train), t.pool = (s.modTrain j f).pool → (j = i → HeldThere x (f x)) →
      ∃ y, t.train? i = some y ∧ HeldThere x y := fun j f pool own => by
    refine ⟨_, (train_of_modTrain pool hx).2, ?_⟩
    split
    · next h => exact own h
    · exact fun held => ⟨held, rfl⟩
  have same : t.pool = s.pool → ∃ y, t.train? i = some y ∧ HeldThere x y := fun h =>
    ⟨x, (train?_of_pool h i).trans hx, fun held => ⟨held, rfl⟩⟩
  cases e with
  | record e =>
    obtain ⟨-, o, train⟩ := train_recordEdit e r hx
    exact ⟨_, train, fun held => ⟨held, rfl⟩⟩
  | gate e =>
    cases e with
    | train j f all => exact mod j f rfl fun h => change (all.resolve_left smooth x (h ▸ hx)).1
    | leave j f _ all => exact mod j f rfl fun h => change (all.resolve_left smooth x (h ▸ hx)).1
    | grantEntry | grantAsked => exact mod _ _ (pool_grant ..) fun _ held => (nomatch held)
    | enqueue k j w => exact mod j (fun x => { x with state := .waiting }) rfl fun _ held => (nomatch held)
    | withdraw j reason tag => exact absurd tag firm
    | dropEntries h => exact same (s.pool_dropEntries h)
    | dropLease k h tag => exact absurd tag calm
    | waitGone | moveRequests => exact same rfl

end State

section
variable {on : Work → Prop} {s t : State}

/-- Work that withdraws no request and amends no train leaves no train HELD that was not. -/
theorem Run.heldThere (run : Run on s t) (smooth : ¬ on .rough) (calm : ¬ on .trains) (firm : ¬ on .withdraw) (r : s.Ready) {i : Nat}
    {x : Train} (hx : s.train? i = some x) : ∃ y, t.train? i = some y ∧ HeldThere x y := by
  refine run.keeps_ready (P := fun u => ∃ y, u.train? i = some y ∧ HeldThere x y) smooth (fun u v e ru ⟨y, hy, there⟩ => ?_) r
    ⟨x, hx, fun held => ⟨held, rfl⟩⟩
  obtain ⟨z, hz, more⟩ := State.heldThere_edit e smooth calm firm ru hy
  exact ⟨z, hz, there.trans more⟩

/-- Work that raises no incident makes none owed. -/
theorem Run.alarmFree (run : Run on s t) (firm : ¬ on .withdraw) (free : s.AlarmFree) : t.AlarmFree :=
  run.keeps (P := State.AlarmFree) (fun u v e free p => by
    rcases State.platform_owed_edit e p with same | ⟨k, v, may, put⟩
    · rw [same]; exact free p
    · obtain rfl := (may.resolve_left fun h => firm h.2.2).1
      rw [put]
      cases k.owedSecond with
      | true => exact free p
      | false => rfl) free

end

namespace State

/-- What the work of an arrival has made of the part before the platform is taken: `z` is the train on its way, `f` the sections. -/
structure Coming (s : State) (i : Nat) (z : Train) (f : Nat → Sect) (u : State) : Prop where
  ready     : u.Ready
  steady    : Steady s u
  control   : u.control = s.control
  own       : ∃ o, u.train? i = some { z with owed := o }
  running   : z.state.isRunning = true
  entry     : u.NoEntry i
  handle    : u.handle i = s.handle i
  occupant  : ∀ p, (u.platform p).occupant = (s.platform p).occupant
  sects     : ∀ j, (u.sect j).own = f j
  trainList : u.pool.trains = s.pool.trains
  stood     : ∀ j x, j ≠ i → s.train? j = some x → ∃ y, u.train? j = some y ∧ HeldThere x y
  alarmFree : s.AlarmFree → u.AlarmFree
  mild      : s.PlainHolds → Mild s u

namespace Coming
variable {s u v : State} {i : Nat} {z : Train} {f : Nat → Sect}

theorem aloof (h : Coming s i z f u) (o : Owed) : Aloof { z with owed := o } := by
  have running := h.running
  refine ⟨fun e => ?_, fun e => ?_⟩
  · rw [show z.state = _ from e] at running; cases running
  · rw [show z.state = _ from e] at running; cases running

/-- The service of queues and the ends of causes leave an arrival as it is. -/
theorem run (h : Coming s i z f u) (calm : Calm u v) (r : Run doneWork u v) (mild : u.PlainHolds → Mild u v) : Coming s i z f v := by
  obtain ⟨o, own⟩ := h.own
  obtain ⟨entry, o', own'⟩ := r.untouched id id h.ready id own (h.aloof o) h.entry
  exact {
    ready := r.ready id h.ready
    steady := h.steady.trans calm.toSteady
    control := calm.control.trans h.control
    own := ⟨o', own'⟩
    running := h.running
    entry := entry
    handle := (r.kin id h.ready own).1.trans h.handle
    occupant := fun p => (r.ring.occupant.resolve_left id p).trans (h.occupant p)
    sects := fun j => (calm.sect_core j).trans (h.sects j)
    trainList := r.trains.trans h.trainList
    stood := fun j x hj hx => by
      obtain ⟨y, hy, there⟩ := h.stood j x hj hx
      obtain ⟨w, hw, more⟩ := r.heldThere id id id h.ready hy
      exact ⟨w, hw, there.trans more⟩
    alarmFree := fun free => r.alarmFree id (h.alarmFree free)
    mild := fun plain => (h.mild plain).trans (mild ((h.mild plain).plain plain)) }

/-- An amendment of the train on its way. -/
theorem modTrain (h : Coming s i z f u) {g : Train → Train} (ready : (u.modTrain i g).Ready)
    (g_owed : ∀ o, g { z with owed := o } = { g z with owed := o }) (state : ∀ x, (g x).state = x.state) (holds : ∀ x, (g x).holds = x.holds) :
    Coming s i (g z) f (u.modTrain i g) := by
  obtain ⟨o, own⟩ := h.own
  exact {
    ready := ready
    steady := h.steady.trans (calm_modTrain u i g).toSteady
    control := h.control
    own := ⟨o, by rw [train?_modTrain_of own, g_owed]⟩
    running := by rw [state]; exact h.running
    entry := h.entry
    handle := (handle_modTrain ..).trans h.handle
    occupant := h.occupant
    sects := h.sects
    trainList := h.trainList
    stood := fun j x hj hx => by
      rw [train?_modTrain_ne u g (Ne.symm hj)]
      exact h.stood j x hj hx
    alarmFree := h.alarmFree
    mild := fun plain => (h.mild plain).trans (mild_modTrain rfl fun x free => by
      rwa [reasonless, state, holds] at free) }

/-- The end of a cause that carries no HOLD. -/
theorem endCause (h : Coming s i z f u) {k : Kind} (mild : k ≠ .platformAlarm) (loc : Location) : Coming s i z f (u.endCause k loc) :=
  have ends : Run doneWork u (u.endCause k loc) := does_endCause u k loc (.inl trivial) (.inr h.ready)
  h.run (calm_endCause ..) ends fun plain => mild_endCause h.ready plain mild loc

/-- The train leaves the section `n` that it ran through. -/
theorem leaves (h : Coming s i z f u) (n : Nat) : Coming s i z (fun j => if j = n then { f j with occupants := (f j).occupants - 1 } else f j)
    (u.modSect n fun x => { x with occupants := x.occupants - 1 }) := by
  have run : Run passageWork u (u.modSect n fun x => { x with occupants := x.occupants - 1 }) :=
    does_occupants trivial u n (· - 1) (.inr h.ready)
  exact { h with
    ready := run.ready id h.ready
    steady := h.steady.trans (steady_modSect u n _)
    control := h.control
    sects := fun j => by
      have own := h.sects j
      have count : (f j).occupants = (u.sect j).occupants := by rw [← own]; rfl
      rw [sect_modSect]
      by_cases hj : n = j
      · subst hj
        by_cases bound : n < u.sects.length
        · rw [if_pos ⟨rfl, bound⟩, if_pos rfl, count, ← own]; rfl
        · have none : u.sect n = {} := by
            exact sect_beyond (Nat.le_of_not_lt bound)
          rw [if_neg fun both => bound both.2, if_pos rfl, count, ← own, none]; rfl
      · rw [if_neg fun both => hj both.1, if_neg fun e => hj e.symm]; exact own
    mild := fun plain => (h.mild plain).trans (mild_of_pool rfl) }

end Coming

/-- The handle of a live train is current (R21). -/
theorem current_of_train {s : State} (h : s.Sound) {i : Nat} {x : Train} (hx : s.train? i = some x) : s.current (s.handle i) = true := by
  have live : (s.slot i).record ≠ .free := by rw [train?_eq_some.mp hx]; exact Rec.noConfusion
  have epoch := (h.pooled.epochs i).2 live
  refine current_iff.mpr ⟨fun null => ?_, lt_of_live h.sized live, live, rfl⟩
  rw [show (s.slot i).epoch = 0 from congrArg Handle.epoch null] at epoch
  cases epoch

/-- The lease of a running train ends (R109, R51). -/
theorem coming_dropLeaseOf {s : State} (r : s.Ready) (q : s.QueuesOk) {i : Nat} {x : Train} (hx : s.train? i = some x)
    (running : x.state.isRunning = true) : Coming s i { x with lease := none } (fun j => (s.sect j).own) (s.dropLeaseOf i) := by
  have run : Run passageWork s (s.dropLeaseOf i) := does_dropLeaseOf trivial s i (.inr r)
  have calm := s.calm_dropLeaseOf i
  have entry := q.noEntry hx fun e => by rw [e] at running; cases running
  have handle := (run.kin id r hx).1
  have list := run.trains
  have ready := run.ready id r
  have left : (s.dropLeaseOf i).train? i = some { x with lease := none } ∧ (∀ j, j ≠ i → (s.dropLeaseOf i).train? j = s.train? j) ∧
      (s.dropLeaseOf i).NoEntry i ∧ (s.dropLeaseOf i).platforms = s.platforms ∧ Mild s (s.dropLeaseOf i) := by
    unfold dropLeaseOf
    rw [hx]
    dsimp only
    split
    · next k w lease =>
      have current := current_of_train r.1 hx
      have pool : (s.dropLease k (s.handle i)).pool = (s.modTrain i fun x => { x with lease := none }).pool := by
        rw [pool_dropLease, if_pos current]; rfl
      refine ⟨(train?_of_pool pool i).trans (train?_modTrain_of hx _), fun j hj => ?_, fun j e he => ?_, ?_, mild_modTrain pool fun _ free => free⟩
      · exact (train?_of_pool pool j).trans (train?_modTrain_ne s _ (Ne.symm hj))
      · rw [queue_dropLease] at he; exact entry j e he
      · unfold dropLease; dsimp only; split <;> rfl
    · next none => exact ⟨by rw [hx, ← none], fun _ _ => rfl, entry, rfl, .refl s⟩
  obtain ⟨own, others, entry', platforms, mild⟩ := left
  exact {
    ready := ready
    steady := calm.toSteady
    control := calm.control
    own := ⟨x.owed, own⟩
    running := running
    entry := entry'
    handle := handle
    occupant := fun p => by rw [platform, platforms]; rfl
    sects := fun j => calm.sect_core j
    trainList := list
    stood := fun j y hj hy => ⟨y, (others j hj).trans hy, fun held => ⟨held, rfl⟩⟩
    alarmFree := fun free p => by rw [platform, platforms]; exact free p
    mild := fun _ => mild }

/-- A train that arrives at `p` at `a` from a run (R51 step 3), read on the part as the report found it. -/
def comeIn (s : State) (t : Train) (p a : Nat) (clamped : Bool) (x : Train) : Train :=
  let e := s.next (placeOf t)
  let k := s.dist e p
  let sched := later t.schedArr (s.legTime e k)
  { x with position := some p, lastArr := some a, schedArr := sched, lateness := diff sched a, skip := k, predicted := none,
           overdueDl := none, approachDl := none, approached := false, timeClamped := clamped }

/-- The arrival of a running train up to the occupant rule (R51 steps 1 to 4). -/
def unrun (s : State) (i : Nat) (t : Train) (p a : Nat) (clamped : Bool) : State :=
  ((s.arrived i t p a clamped).endCause .trainOverdue (.train (s.handle i))).endCause .unauthorised (.train (s.handle i))

theorem settled_eq (s : State) (i : Nat) (t : Train) (p a : Nat) (clamped : Bool) :
    s.settled i t p a clamped = (s.unrun i t p a clamped).occupy i p := rfl

theorem coming_unrun {s : State} (r : s.Ready) (q : s.QueuesOk) {i : Nat} {x : Train} (hx : s.train? i = some x)
    (running : x.state.isRunning = true) {p : Nat} (ok : s.platformOk p = true) (a : Nat) (clamped : Bool) :
    Coming s i (s.comeIn x p a clamped { x with lease := none })
      (fun j => if j = s.runSectionOf x then { (s.sect j).own with occupants := (s.sect j).own.occupants - 1 } else (s.sect j).own)
      (s.unrun i x p a clamped) := by
  have dropped := coming_dropLeaseOf r q hx running
  have serves : Run doneWork (s.dropLeaseOf i) (serveChanged s (s.dropLeaseOf i)) := does_serveChanged trivial s _ (.inr dropped.ready)
  have served := dropped.run (calm_serveChanged s _) serves fun plain => mild_serveChanged dropped.ready plain s
  have left : Coming s i _ _ (s.leftBehind i x) := served.leaves (s.runSectionOf x)
  have place : (s.leftBehind i x).platformOk p = true := by rw [platformOk, tables_leftBehind]; exact ok
  have placed : Run passageWork (s.leftBehind i x) ((s.leftBehind i x).modTrain i (s.comeIn x p a clamped)) :=
    (spares_place (p := p) (f := s.comeIn x p a clamped) trivial trivial (.inr place) (fun _ => rfl) fun _ => ⟨rfl, rfl, rfl, rfl, rfl⟩).does
      (.inr left.ready)
  have come : Coming s i (s.comeIn x p a clamped { x with lease := none }) _ (s.arrived i x p a clamped) :=
    left.modTrain (placed.ready id left.ready) (fun _ => rfl) (fun _ => rfl) fun _ => rfl
  exact (come.endCause (k := .trainOverdue) (by decide) _).endCause (k := .unauthorised) (by decide) _

end State

end Sys2Proof.Machine

/-! The arrival of a running train (R51, R52, R65, R67, R76). -/

namespace Sys2Proof.Machine
open Sys2Proof

namespace State

/-! ### The report is taken -/

/-- Only the platform that the train left lies a round but one step ahead of its successor (R2). -/
theorem dist_next_ne {s : State} {p q : Nat} (hp : p < s.ringSize) (hq : q < s.ringSize) (ne : p ≠ q) :
    s.dist (s.next q) p ≠ s.ringSize - 1 := by
  unfold dist next
  generalize s.ringSize = n at *
  by_cases last : q + 1 = n
  · rw [last, Nat.mod_self, Int.emod_eq_of_lt (by omega) (by omega)]
    omega
  · rw [Nat.mod_eq_of_lt (show q + 1 < n by omega)]
    by_cases ahead : q + 1 ≤ p
    · rw [Int.emod_eq_of_lt (by omega) (by omega)]
      omega
    · rw [← Int.add_emod_right, Int.emod_eq_of_lt (by omega) (by omega)]
      omega

theorem mayArrive_of {s : State} {x : Train} {p q : Nat} (place : x.position = some q) (hp : p < s.ringSize) (hq : q < s.ringSize)
    (ne : p ≠ q) (near : s.dist (s.next q) p ≤ 3)
    (through : ∀ j, j < s.dist (s.next q) p → (s.platformCfg ((s.next q + j) % s.ringSize)).terminus = false) : s.mayArrive x p = true := by
  have at_ : placeOf x = q := by rw [placeOf, place]; rfl
  have open_ : ((List.range (s.dist (s.next q) p)).any fun j => (s.platformCfg ((s.next q + j) % s.ringSize)).terminus) = false :=
    List.any_eq_false.mpr fun j hj => by simp [through j (List.mem_range.mp hj)]
  unfold mayArrive
  rw [at_]
  dsimp only
  rw [open_]
  simp [near, dist_next_ne hp hq ne]

theorem takeArrive_running {s : State} {x : Train} (running : x.state.isRunning = true) {p : Nat} (may : s.mayArrive x p = true) (i a : Nat)
    (clamped : Bool) : s.takeArrive p i x a clamped = s.arriveRunning i x p a clamped := by
  have taken : (if s.mayArrive x p then s.arriveRunning i x p a clamped else s.dropReport) = s.arriveRunning i x p a clamped := if_pos may
  unfold takeArrive
  cases h : x.state <;> rw [h] at running <;> first | exact taken | cases running

/-! ### The train at its platform -/

/-- What an arrival at `p` has made of the part: `z` is the train that dwells, `f` the sections. -/
structure Berths (s : State) (i p : Nat) (z : Train) (f : Nat → Sect) (u : State) : Prop where
  ready     : u.Ready
  steady    : Steady s u
  control   : u.control = s.control
  own       : ∃ o, u.train? i = some { z with owed := o }
  dwelling  : z.state = .dwelling
  entry     : u.NoEntry i
  occupant  : (u.platform p).occupant = some ((s.platform p).occupant.getD (s.handle i))
  sects     : ∀ j, (u.sect j).own = f j
  trainList : u.pool.trains = s.pool.trains
  called    : (s.platform p).occupant ≠ none → Called .platformConflict (.platform p) u

/-- The end of an event leaves an arrival as it is. -/
theorem Berths.endEvent {s u : State} {i p : Nat} {z : Train} {f : Nat → Sect} (h : Berths s i p z f u) (hp : p < Config.platformEntries)
    (b : State) : Berths s i p z f (endEvent b u) := by
  obtain ⟨o, own⟩ := h.own
  have calm := calm_endEvent b u
  have run : Run owedWork u (State.endEvent b u) := does_endEvent (on := owedWork) trivial trivial rfl b u (.inr h.ready)
  have aloof : Aloof { z with owed := o } := by
    unfold Aloof
    rw [h.dwelling]
    exact ⟨TrainState.noConfusion, TrainState.noConfusion⟩
  obtain ⟨entry, o', own'⟩ := run.untouched Work.noConfusion id h.ready id own aloof h.entry
  exact {
    ready := run.ready Work.noConfusion h.ready
    steady := h.steady.trans calm.toSteady
    control := calm.control.trans h.control
    own := ⟨o', own'⟩
    dwelling := h.dwelling
    entry := entry
    occupant := (run.ring.occupant.resolve_left id p).trans h.occupant
    sects := fun j => (calm.sect_core j).trans (h.sects j)
    trainList := run.trains.trans h.trainList
    called := fun taken => called_endEvent (k := .platformConflict) (loc := .platform p) (Or.inr rfl) (by decide) b h.ready
      (show u.Locates (.platform p) from hp) (h.called taken) }

/-- The train `z` as its dwell begins at `p`, with CONFLICT where the platform is taken (R52, R65). -/
def berth (s : State) (p d : Nat) (saturated : Bool) (note : ClampNote) (z : Train) : Train :=
  { z with holds := if (s.platform p).occupant = none then z.holds else { z.holds with conflict := true }, depTime := some d,
           saturated := saturated, clamp := note, depDl := some (s.departureDeadline d), state := .dwelling }

section
variable {s u : State} {i p : Nat} {z : Train} {f : Nat → Sect} (h : Coming s i z f u) (hp : p < Config.platformEntries)
include h

theorem Coming.ready_occupy : (u.occupy i p).Ready := by
  have run : Run passageWork u (u.occupy i p) := (spares_occupy trivial trivial trivial trivial u i p).does (.inr h.ready)
  exact run.ready id h.ready

include hp

/-- The dwell of an arriving train begins at the platform (R52, R65). -/
theorem Coming.berths (d : Nat) (saturated : Bool) (note : ClampNote) : ∃ y, (u.occupy i p).train? i = some y ∧ y.position = z.position ∧
    Occupies i p { z with owed := y.owed } u (u.occupy i p) ∧
    Dwells i d saturated note y (u.occupy i p) ((u.occupy i p).beginDwell i d saturated note) ∧
    Berths s i p (s.berth p d saturated note z) f ((u.occupy i p).beginDwell i d saturated note) := by
  obtain ⟨o, own⟩ := h.own
  have occupies := occupies_occupy h.ready hp own
  have ready : (u.occupy i p).Ready := h.ready_occupy
  have entry := occupies.entry (h.aloof o) h.entry
  have held : (if (u.platform p).occupant = none then { z with owed := o } else
      { z with owed := o, holds := { z.holds with conflict := true } }) =
      { z with owed := o, holds := if (s.platform p).occupant = none then z.holds else { z.holds with conflict := true } } := by
    rw [h.occupant]
    split <;> rfl
  have mine := occupies.own.trans (congrArg some held)
  generalize u.occupy i p = v at *
  have dwells := dwells_beginDwell mine d saturated note
  have begins : Run passageWork v (v.beginDwell i d saturated note) :=
    does_beginDwell trivial trivial v i d saturated note (.inr ⟨_, mine, h.aloof o⟩) (.inr ready)
  have calm := occupies.calm.trans dwells.calm
  refine ⟨_, mine, rfl, occupies, dwells, ?_⟩
  generalize v.beginDwell i d saturated note = w at *
  exact {
    ready := begins.ready id ready
    steady := h.steady.trans calm.toSteady
    control := calm.control.trans h.control
    own := ⟨o, by rw [dwells.own, departureDeadline, occupies.calm.lineTime, h.steady.lineTime]; rfl⟩
    dwelling := rfl
    entry := noEntry_of_substations dwells.fixed.substations entry
    occupant := by
      rw [platform, dwells.platforms, ← platform, occupies.occupant, h.occupant, h.handle]
    sects := fun j => (calm.sect_core j).trans (h.sects j)
    trainList := dwells.trainList.trans (occupies.trainList.trans h.trainList)
    called := fun taken => (occupies.called (by rwa [h.occupant])).imp
      (fun ⟨j, y, live, rest⟩ => ⟨j, y, (dwells.incidents j).trans live, rest⟩) fun owes => by
        rwa [owed, platform, dwells.platforms, ← platform] }

end

end State

end Sys2Proof.Machine

/-! The dwell of an arrival as the event leaves it (R67 to R76), and O28. -/

namespace Sys2Proof.Machine
open Sys2Proof

namespace State

theorem mem_freedSince {b s : State} {j : Nat} (h : j ∈ freedSince b s) :
    ∃ y, s.train? j = some y ∧ reasonless y = true ∧ ∀ x, b.train? j = some x → reasonless x = false := by
  obtain ⟨⟨k, y⟩, he, rfl⟩ := List.mem_map.mp h
  obtain ⟨live, freed⟩ := List.mem_filter.mp he
  obtain ⟨free, before⟩ := Bool.and_eq_true_iff.mp freed
  refine ⟨y, (mem_liveTrains.mp live).2, free, fun x hx => ?_⟩
  rw [show b.train? k = some x from hx] at before
  simpa using before

/-- A dwell lies between its bounds (R76). -/
theorem dwellOf_bounds (s : State) (i : Nat) {p : Nat} (h : (s.vals p).dmin ≤ (s.vals p).dmax) (a : Nat) (lateness : Int) :
    ∃ d : Nat, (s.vals p).dmin ≤ d ∧ d ≤ (s.vals p).dmax ∧ (s.dwellOf i p a lateness).1 = d := by
  have within : ∀ n : Int, ∃ d : Nat, (s.vals p).dmin ≤ d ∧ d ≤ (s.vals p).dmax ∧ (clampDwell (s.vals p) n).1 = d := fun n => by
    unfold clampDwell
    split
    · exact ⟨_, Nat.le_refl _, h, rfl⟩
    · split
      · exact ⟨_, h, Nat.le_refl _, rfl⟩
      · exact ⟨n.toNat, by omega, by omega, by simp only; omega⟩
  exact within _

section
variable {s u : State} {i p : Nat} {z : Train} {f : Nat → Sect} (h : Coming s i z f u) (hp : p < Config.platformEntries) (r : s.Ready)
include h hp r

/-- Where no PLATFORM ALARM is owed the event leaves what the dwell was computed from, and the directive where it frees no train at the
platform (R35, R65, R67). -/
theorem Coming.dwells_on (place : z.position = some p) (free : s.AlarmFree) (d : Nat) (saturated : Bool) (note : ClampNote) :
    (∀ a l, (State.endEvent s ((u.occupy i p).beginDwell i d saturated note)).dwellOf i p a l = (u.occupy i p).dwellOf i p a l) ∧
    ((s.Alone i p ∨ s.PlainHolds) → (s.platform p).occupant = none →
      (p, Directive.dwell d) ∈ (State.endEvent s ((u.occupy i p).beginDwell i d saturated note)).links.queue) := by
  obtain ⟨y, own, at_, occupies, dwells, berths⟩ := h.berths hp d saturated note
  have readyS : (u.occupy i p).Ready := h.ready_occupy
  have alarms : (u.occupy i p).AlarmFree := fun q => (occupies.alarms q).trans (h.alarmFree free q)
  have shows : (s.platform p).occupant = none → (p, Directive.dwell d) ∈ ((u.occupy i p).beginDwell i d saturated note).links.queue :=
    fun vacant => by
      have vacant' : (u.platform p).occupant = none := by rw [h.occupant]; exact vacant
      have alone := occupies.alone vacant'
      refine dwells.shown p (at_.trans place) ?_
      rw [occupies.occupant, vacant', alone]
      rfl
  have others := occupies.others
  generalize u.occupy i p = v at *
  generalize v.beginDwell i d saturated note = w at *
  have regulated : Regulated i v w := {
    tables := dwells.calm.tables, control := dwells.calm.control, lineTime := dwells.calm.lineTime, trainList := dwells.trainList
    trains := fun j x hj hx => ⟨x, (dwells.others j hj).trans hx, .refl v x⟩
    handles := fun j x _ hx => by
      have live : (v.slot j).record.kind ≠ .free := by rw [train?_eq_some.mp hx]; exact RecKind.noConfusion
      rw [State.handle, State.handle, (dwells.live j live).2]
    places := fun q => by rw [platform, platform, dwells.platforms]; exact ⟨rfl, rfl⟩
    delays := delayAt_congr readyS berths.ready dwells.calm.tables (restricts_of_incidents dwells.incidents) }
  obtain ⟨rest, directives⟩ := endEvent_leaves berths.ready (fun q => by rw [platform, dwells.platforms]; exact alarms q) s i
  refine ⟨fun a l => (regulated.trans rest).dwellOf readyS p a l, fun quiet vacant => directives p _ hp (fun j hj x hx here => ?_) (shows vacant)⟩
  obtain ⟨x', hx', reasonless_, before⟩ := mem_freedSince hj
  cases hx.symm.trans hx'
  have held : x.state = .held := beq_iff_eq.mp (Bool.and_eq_true_iff.mp reasonless_).1
  have ne : j ≠ i := fun e => by
    subst e
    cases hx.symm.trans dwells.own
    cases held
  have came : u.train? j = some x := ((others j ne).symm.trans (dwells.others j ne).symm).trans hx
  rcases quiet with alone | plain
  · have listed : j ∈ s.pool.trains := h.trainList ▸ (h.ready.1.pooled.trains j).mpr (by rw [came]; rfl)
    obtain ⟨x0, hx0⟩ := Option.isSome_iff_exists.mp ((r.1.pooled.trains j).mp listed)
    obtain ⟨x1, hx1, there⟩ := h.stood j x0 ne hx0
    cases came.symm.trans hx1
    obtain ⟨stood, same⟩ := there held
    have away := alone j x0 ne hx0 (by rw [← same]; exact here)
    rw [stood] at away
    cases away
  · obtain ⟨x0, hx0, free0⟩ := (h.mild plain).trains j x came reasonless_
    rw [before x0 hx0] at free0
    cases free0

end

end State

open State

/-- Settles O28: the work before the platform is taken leaves the train on its way, the dwell begins, and what is left of the event leaves
the train and, where nothing is owed, what its dwell was computed from. -/
theorem arriveEndsARun : Obligations.ArriveEndsARun := by
  intro s i v p q time x sound queues once op hx runs place carries low high hp ht near ne hq through bounds a k leg sched
  have counted := ready_counted sound op
  have entries : p < Config.platformEntries := Nat.lt_of_lt_of_le hp counted.platforms_le
  have queues' : s.counted.QueuesOk := ⟨queues.waiting, queues.once⟩
  have running : x.state.isRunning = true := by rcases runs with e | e <;> rw [e] <;> rfl
  have at_ : placeOf x = q := by rw [placeOf, place]; rfl
  have run := exec_arrive sound once op hx carries low high hp ht
  rw [takeArrive_running running (s := s.counted) (mayArrive_of place hp hq ne near through)] at run
  generalize (s.effective time).2 = c at run ⊢
  have coming := coming_unrun counted queues' hx running (decide_eq_true hp : s.counted.platformOk p = true) a c
  have arrives : s.counted.comeIn x p a c { x with lease := none } = { x with
      lease := none, position := some p, lastArr := some a, schedArr := sched, lateness := diff sched a, skip := k, predicted := none,
      overdueDl := none, approachDl := none, approached := false, timeClamped := c } := by
    unfold comeIn
    rw [at_]
    rfl
  rw [arriveRunning_eq, settled_eq, at_] at run
  rw [arrives] at coming
  have section_ : s.counted.runSectionOf x = (s.platformCfg q).runSection := by rw [runSectionOf, at_]; rfl
  rw [section_] at coming
  generalize s.counted.unrun i x p a c = u at *
  have run' : exec (.arrive v p time) s = .next (State.endEvent s.counted ((u.occupy i p).regulate i p a (diff sched a))) := run
  unfold regulate at run'
  dsimp only at run'
  have regulated := fun free => coming.dwells_on entries counted rfl free (later a ((u.occupy i p).dwellOf i p a (diff sched a)).1)
    ((u.occupy i p).dwellOf i p a (diff sched a)).2.1 ((u.occupy i p).dwellOf i p a (diff sched a)).2.2
  obtain ⟨z, -, -, occupies, -, berths⟩ := coming.berths entries (later a ((u.occupy i p).dwellOf i p a (diff sched a)).1)
    ((u.occupy i p).dwellOf i p a (diff sched a)).2.1 ((u.occupy i p).dwellOf i p a (diff sched a)).2.2
  have vals : (u.occupy i p).vals p = s.vals p := by
    rw [State.vals, State.vals, patternVals, patternVals, occupies.calm.tables, occupies.calm.control, coming.steady.tables, coming.control]
    rfl
  obtain ⟨d, least, most, value⟩ := dwellOf_bounds (u.occupy i p) i (by rw [vals]; exact bounds) a (diff sched a)
  rw [vals] at least most
  have last := berths.endEvent entries s.counted
  generalize (u.occupy i p).beginDwell i _ _ _ = w at *
  generalize State.endEvent s.counted w = t at *
  generalize computed : (u.occupy i p).dwellOf i p a (diff sched a) = dwell at *
  obtain ⟨o, own⟩ := last.own
  refine ⟨t, _, run', own, rfl, rfl, rfl, rfl, rfl, rfl, rfl, rfl, rfl, rfl, rfl, rfl, ⟨d, least, most, congrArg (fun n => some (later a n)) value⟩,
    fun _ dep => Option.some.inj dep ▸ rfl, fun owing => ?_, rfl, last.occupant, fun taken => activeAt_of_called last.ready (last.called taken),
    last.sects, last.trainList, last.control, last.steady.badCount⟩
  obtain ⟨same, shown⟩ := regulated fun j => by rw [show s.counted.platform j = s.platform j from rfl, owing.platforms]
  rw [(same a (diff sched a)).trans computed]
  exact ⟨rfl, rfl, rfl, shown⟩

end Sys2Proof.Machine
